-- ==== Sys2Proof/Word.lean ====
section
/-! DEFINITION. The word types of the part (spec/00_scope, Units): a byte of eight bits, and a word of four bytes. -/

namespace Sys2Proof

/-- Eight bits. -/
abbrev Byte := BitVec 8

/-- Four bytes: the word of the memory bus, of the anchor page and of every 32-bit count. -/
abbrev Word := BitVec 32

/-- The greatest value a 32-bit field holds: 4,294,967,295. -/
abbrev wordMax : Nat := 4294967295

end Sys2Proof
end

