-- ==== Sys2Proof/Config.lean ====
section
/-! DEFINITION. What is fixed for the part: the places of the anchor page (spec/11 11.2), the limits the rules name, and
the free values, which the spec leaves open (constants without a body). -/

namespace Sys2Proof

/-- The size of the address space: 64 MiB (spec/00_scope, Units). -/
abbrev Config.spaceBytes : Nat := 0x4000000
/-- The first address of the anchor page (spec/11 11.2). -/
abbrev Config.anchorBase : Nat := 0x3FFF000
/-- The anchor page is 4 KiB. -/
abbrev Config.anchorBytes : Nat := 0x1000
/-- The offset of the link word (spec/11 11.2). -/
abbrev Config.linkOffset : Nat := 0x008
/-- The offset of the post index. -/
abbrev Config.postOffset : Nat := 0x040
/-- The offset of the taken index. -/
abbrev Config.takenOffset : Nat := 0x044
/-- The offset of the view selector. -/
abbrev Config.selectorOffset : Nat := 0x048
/-- The offset of the notice control word. -/
abbrev Config.controlOffset : Nat := 0x04C
/-- The offset of the notice vector table. -/
abbrev Config.vectorOffset : Nat := 0x100
/-- The offset of the pending word. -/
abbrev Config.pendingOffset : Nat := 0x180
/-- The offset of the view window. -/
abbrev Config.viewOffset : Nat := 0x200
/-- The offset of the command ring. -/
abbrev Config.ringOffset : Nat := 0x400
/-- The offset of the event word in a bay view, from the start of the window (spec/11 11.6). -/
abbrev Config.eventWordOffset : Nat := 0x94
/-- Stability time of PLUG, READY and the battery lines, ms (R20, R21, R87). -/
abbrev Config.lineFilterMs : Nat := 200
/-- Stability time of RELEASE, ms (R22). -/
abbrev Config.releaseFilterMs : Nat := 50
/-- The first millisecond at which a disagreement has lasted for more than 500 ms (R49, log 9). -/
abbrev Config.feedbackMs : Nat := 501
/-- A channel is stale when its last edge is more than this old, ms (R7). -/
abbrev Config.staleMs : Nat := 3600000
/-- The epoch retry timer, ms (R182). -/
abbrev Config.retryMs : Nat := 10000
/-- The greatest quota, Wh (R29). -/
abbrev Config.quotaMax : Nat := 1000000
/-- The size of the settings memory (spec/10). -/
abbrev Config.settingsBytes : Nat := 2048
/-- The place of the epoch record in the settings memory (R181). -/
abbrev Config.epochOffset : Nat := 1000
/-- Bytes that the preload reads (R181). -/
abbrev Config.preloadBytes : Nat := 1008
/-- Attempts of an own write or a part-side read in all (R153). -/
abbrev Config.attempts : Nat := 3

/-- The entries that the outbound queue has room for (R150, log 27). -/
abbrev Config.queueRoom : Nat := 40

/-- FREE VALUE (log 17): what a count that is neither said to wrap nor to saturate holds when it is counted on from its
greatest value, at a given millisecond. -/
opaque Config.countBeyondRange : Word → Word

/-- FREE VALUE (log 3): which of the part's own events due at one instant it takes first, read at State's `free`. -/
opaque Config.freeChoice : Nat → Nat

/-- FREE VALUE (log 4): the order in which the part takes the parts of a boundary it runs by itself, read at State's
`free`. -/
opaque Config.freeOrder : Nat → List Nat

/-- FREE VALUE (log 25): after how many parts of a boundary that the part runs by itself it takes a SET_SNAPSHOT_WINDOW that the
Command Unit holds, none for not between them, read at State's `free`. -/
opaque Config.freeWindow : Nat → Option Nat

end Sys2Proof
end

