-- ==== Sys2Proof/Syntax.lean ====
section
/-! DEFINITION. The commands of the part: one constructor for each row of spec/opcode_table.json, with the operands that
the row's step takes from outside. Operands of a ring command are the fields of its slot as spec/11 11.3 lists them,
each at the whole width of its field (R184). Operands of an outside event are what the event brings: a line's new level,
a transaction, what memory or the settings memory answered, and, where the spec leaves the order of a step's parts
open, that order (log 4). -/

namespace Sys2Proof

/-- The three battery status lines (R87). -/
inductive BattLine where
  | ready | full | empty
  deriving DecidableEq, Repr

/-- One word of a controller write: its four byte lanes, lane 0 the lowest byte, and its data (R143). -/
structure WriteWord where
  lanes : BitVec 4
  data  : Word
  deriving DecidableEq, Repr

/-- The order of a boundary (R60, R111): the order in which its parts are taken, and, where a SET_SNAPSHOT_WINDOW that the Command
Unit holds is taken between them, the number of parts taken before it (log 25). -/
structure BoundaryOrder where
  parts  : List Nat
  window : Option Nat := none
  deriving DecidableEq, Repr

/-- A command. Bays are 0..11 and channels 0..16; the bay of a ring command is the eight-bit field of word 0, which its
owner judges. -/
inductive Instr where
  /-- POR (R55): POR# restarts the whole part. -/
  | por
  /-- CRST (R156): a reset of the site controller. -/
  | crst
  /-- SETTINGS_OPERATION_START (R179). -/
  | settingsOperationStart
  /-- PRELOAD_READ_END (R181): whether the read succeeded, and bytes 0..1007. -/
  | preloadReadEnd (ok : Bool) (bytes : List Byte)
  /-- STARTING_END (R181): whether the epoch write-back succeeded, and the order of boundary 0's parts. -/
  | startingEnd (ok : Bool) (order : List Nat)
  /-- EPOCH_RETRY_TIMER_EXPIRY (R182). -/
  | epochRetryTimerExpiry
  /-- EPOCH_RETRY_END (R182): whether the retried write succeeded. -/
  | epochRetryEnd (ok : Bool)
  /-- SITE_TIME_TICK (R183). -/
  | siteTimeTick
  /-- METER_LEADING_EDGE (R4). -/
  | meterLeadingEdge (channel : Fin 17)
  /-- METER_TRAILING_EDGE (R4). -/
  | meterTrailingEdge (channel : Fin 17)
  /-- PULSE_WIDTH_EXCEEDED (R5). -/
  | pulseWidthExceeded (channel : Fin 17)
  /-- CHANNEL_STALE (R7). -/
  | channelStale (channel : Fin 17)
  /-- SILENCE_FOUND (R13). -/
  | silenceFound (bay : Fin 12)
  /-- METER_FAULT_EVENT (R53). -/
  | meterFaultEvent (bay : Fin 12)
  /-- PLUG_FILTER_EXPIRY (R20). -/
  | plugFilterExpiry (bay : Fin 12)
  /-- READY_FILTER_EXPIRY (R21). -/
  | readyFilterExpiry (bay : Fin 12)
  /-- RELEASE_FILTER_EXPIRY (R22). -/
  | releaseFilterExpiry (bay : Fin 12)
  /-- FEEDBACK_CHANGE (R49): the contact's new position. -/
  | feedbackChange (bay : Fin 12) (closed : Bool)
  /-- FEEDBACK_TIMER_EXPIRY (R49). -/
  | feedbackTimerExpiry (bay : Fin 12)
  /-- IDLE_TIMER_EXPIRY (R33). -/
  | idleTimerExpiry (bay : Fin 12)
  /-- RELEASE_TIMER_EXPIRY (R42). -/
  | releaseTimerExpiry (bay : Fin 12)
  /-- STOP_DELAY_EXPIRY (R46). -/
  | stopDelayExpiry (bay : Fin 12)
  /-- ISSUING_EXIT (R48). -/
  | issuingExit (bay : Fin 12)
  /-- SESSION_CLOSED_REPORT (R125). -/
  | sessionClosedReport (bay : Fin 12)
  /-- ROUND_BOUNDARY (R60): the order in which what comes about in it is taken (R111). -/
  | roundBoundary (order : BoundaryOrder)
  /-- PLAN_COMPUTATION_END (R62). -/
  | planComputationEnd
  /-- BATT_LINE_FILTER_EXPIRY (R87). -/
  | battLineFilterExpiry (line : BattLine)
  /-- CONTROLLER_WRITE_ACCEPT (R146): the byte address and the words of a controller write. -/
  | controllerWriteAccept (addr : BitVec 26) (words : List WriteWord)
  /-- RELEASE_WRITE (R148): a full-word write of this value to the link word. -/
  | releaseWrite (value : Word)
  /-- POST_INDEX_WRITE (R158): a full-word write of this value to the post index. -/
  | postIndexWrite (value : Word)
  /-- VIEW_SELECTOR_WRITE (R154): a full-word write of this value to the view selector. -/
  | viewSelectorWrite (value : Word)
  /-- EVENT_WORD_READ (R155): a read of the event word's address in the view window. -/
  | eventWordRead
  /-- FORWARDED_TRANSACTION_COMPLETE (R143): memory's outcome and, for a read, its data. -/
  | forwardedTransactionComplete (ok : Bool) (data : List Word)
  /-- M_PORT_GRANT (R151). -/
  | mPortGrant
  /-- OWN_WRITE_ATTEMPT_COMPLETE (R153): the outcome of each burst of the attempt, true for OK; two for a receipt, one for
  another entry (R150). -/
  | ownWriteAttemptComplete (bursts : List Bool)
  /-- SWEEP_READ_COMPLETE (R149). -/
  | sweepReadComplete (ok : Bool) (data : List Word)
  /-- FETCH_READ_COMPLETE (R159). -/
  | fetchReadComplete (ok : Bool) (data : List Word)
  /-- UNKNOWN_COMMAND (R160): the code that names no command. -/
  | unknownCommand (code : Byte)
  /-- AUTHORISE (R29). -/
  | authorise (bay : Byte) (cls quota : Word) (reference : BitVec 128)
  /-- STOP (R37). -/
  | stop (bay : Byte) (session : Word)
  /-- EXTEND_QUOTA (R35). -/
  | extendQuota (bay : Byte) (session amount : Word)
  /-- RELEASE_CONFIRM (R40). -/
  | releaseConfirm (bay : Byte) (session : Word)
  /-- RELEASE_CANCEL (R41). -/
  | releaseCancel (bay : Byte) (session : Word)
  /-- MAINTENANCE_ON (R43): MAINTENANCE with its setting on. -/
  | maintenanceOn (bay : Byte) (pattern : Word)
  /-- MAINTENANCE_OFF (R44): MAINTENANCE with its setting off. -/
  | maintenanceOff (bay : Byte) (pattern : Word)
  /-- CLEAR_BAY (R52). -/
  | clearBay (bay : Byte)
  /-- SET_BAY (R25): word 7 holds the pair even member and the mark that the pair part is present. -/
  | setBay (bay : Byte) (pmin pmax stopDelay releaseWindow idleTimeout cap pairWord : Word)
  /-- SET_SITE (R57). -/
  | setSite (limit period : Word)
  /-- SET_SUPPLY_MAP (R70). -/
  | setSupplyMap (priority standard economy : Word)
  /-- SET_BATTERY (R93). -/
  | setBattery (cap reserve cmax dmax : Word)
  /-- SET_TIME (R183). -/
  | setTime (time : Word)
  /-- COLLECT (R135). -/
  | collect (sequence : Word)
  /-- SET_RECEIPT_WINDOW (R138). -/
  | setReceiptWindow (base slots lowWater : Word)
  /-- SET_SNAPSHOT_WINDOW (R115). -/
  | setSnapshotWindow (base stride decimation : Word)
  /-- CAUSE_MAP (R165). -/
  | causeMap (map : Word)
  /-- CLEAR_ERRORS (R174): bit 0 of the second word is the overflow bit. -/
  | clearErrors (kinds overflow : Word)
  /-- ACK_ERROR (R174). -/
  | ackError
  /-- SET_ERROR_POLICY (R175). -/
  | setErrorPolicy (masks holds : Word)
  /-- CLEAR_HOLD (R177). -/
  | clearHold
  /-- SETTINGS_READ (R180). -/
  | settingsRead (offset : Word)
  /-- SETTINGS_WRITE (R180). -/
  | settingsWrite (offset data : Word)
  /-- SETTINGS_COMMAND_END (R180): the operation's outcome, and for a read the byte at each of its offsets, in their order. -/
  | settingsCommandEnd (ok : Bool) (bytes : List Byte)
  /-- PLUG_LINE_CHANGE (R20): the line's new level. -/
  | plugLineChange (bay : Fin 12) (high : Bool)
  /-- READY_LINE_CHANGE (R21): the line's new level. -/
  | readyLineChange (bay : Fin 12) (high : Bool)
  /-- RELEASE_LINE_CHANGE (R22): the line's new level. -/
  | releaseLineChange (bay : Fin 12) (high : Bool)
  /-- BATT_LINE_CHANGE (R87): the line's new level. -/
  | battLineChange (line : BattLine) (high : Bool)
  /-- CONTROLLER_READ_ACCEPT (R145): the byte address and the word count of a controller read. -/
  | controllerReadAccept (addr : BitVec 26) (count : Nat)
  deriving DecidableEq, Repr

end Sys2Proof
end

