-- ==== Sys2Proof/Machine/State.lean ====
section
/-! DEFINITION. The state of the part as plain data: every piece of state the spec gives each block, the queue of
commands waiting, and the state after power-on reset. Powers are watts, energies watt-hours, timers the milliseconds
left; a timer that has run out stands at `some 0` until its expiry is taken, and a stopped one is `none` (log 1). -/

namespace Sys2Proof.Machine

/-- Faults of the machine. The spec stops the part nowhere: what it calls a fault is a record of the Error Log. -/
inductive Fault where
  /-- Raised by no meaning. Safe. -/
  | neverRaised
  deriving DecidableEq, Repr

/-- Refusals of the model. -/
inductive Refusal where
  /-- A row of the table that has no meaning in the model; raised by no arm of `exec`. Safe. -/
  | notModelled (mnemonic : String)
  deriving DecidableEq, Repr

/-- The six LIGHT values (spec/02 2.1). -/
inductive Light where
  | off | green | greenBlink | amber | amberBlink | red
  deriving DecidableEq, Repr

/-- The ten bay states (R27). -/
inductive BayState where
  | vacant | plugged | authorised | paused | charging | releasePending | stopping | issuing | ended | faulted
  deriving DecidableEq, Repr

/-- A session's class (R26). -/
inductive SessionClass where
  | priority | standard | economy
  deriving DecidableEq, Repr

/-- The seven stop causes (R36, R127). -/
inductive StopCause where
  | command | quota | release | plugLost | idle | meterFault | contactorFault
  deriving DecidableEq, Repr

/-- The ten event flags of a bay (R54), in the order of the event word. -/
inductive EventFlag where
  | plugIn | plugOut | authorised | chargingStarted | releasePressed | releaseDeferred | stopped | quotaReached
  | receiptIssued | fault
  deriving DecidableEq, Repr

/-- The four battery states (R94). -/
inductive BatteryState where
  | offline | idle | charging | discharging
  deriving DecidableEq, Repr

/-- The four link states (R148). -/
inductive LinkState where
  | starting | detached | attaching | attached
  deriving DecidableEq, Repr

/-- The eight causes (R164). -/
inductive Cause where
  | replyReady | sessionEvent | releaseRequest | receiptIssued | ringLow | errorRecorded | holdChanged | batteryEvent
  deriving DecidableEq, Repr

/-- The twelve error kinds (R170). -/
inductive ErrorKind where
  | guardWrite | commandOverrun | meterSilent | meterRunaway | meterNoise | contactorFault | gridOverlimit | batteryLost
  | memoryFault | settingsBad | epochUnsaved | vectorFault
  deriving DecidableEq, Repr

/-- The Site Clock (R183) and the millisecond count of the timebase (R2). -/
structure Clock where
  /-- Site time, seconds, wrapping. -/
  siteTime  : Word := 0
  /-- The time-unset flag. -/
  timeUnset : Bool := true
  /-- Milliseconds counted towards the next second. -/
  subMs     : Nat := 0
  /-- The MU's millisecond count (R2), wrapping. -/
  ms        : Word := 0
  deriving DecidableEq, Repr

/-- A channel record (R2), with the level of its line. -/
structure Channel where
  /-- Whether the meter line is active now (a pin; R4, R5). -/
  lineActive     : Bool := false
  total          : Word := 0
  round          : Nat := 0
  lastRound      : Nat := 0
  lastEdge       : Option Word := none
  lastPeriod     : Option Word := none
  /-- Pulse in progress: its leading-edge time. -/
  inProgress     : Option Word := none
  noise          : Nat := 0
  noiseReported  : Bool := false
  silent         : Bool := false
  silenceRef     : Word := 0
  runCount       : Nat := 0
  runaway        : Bool := false
  deriving DecidableEq, Repr

/-- The settings of the channels (R1, R3). -/
structure ChannelConfig where
  bayWmin     : Nat := 10
  bayWmax     : Nat := 200
  /-- Silence limit, seconds. -/
  silenceLimit : Nat := 60
  siteWmin    : Nat := 10
  siteWmax    : Nat := 200
  /-- Energy per pulse of channels 12..16, Wh. -/
  energies    : Vector Nat 5 := Vector.replicate 5 10
  deriving DecidableEq, Repr

/-- A bay's own configuration (R24): watts and seconds. -/
structure BayConfig where
  pmin          : Nat := 1400
  pmax          : Nat := 7400
  stopDelay     : Nat := 3
  releaseWindow : Nat := 10
  idleTimeout   : Nat := 900
  deriving DecidableEq, Repr

/-- A feeder pair's configuration (R24): its cap (0 for none), and whether the pair even member is the odd bay 2p+1. -/
structure PairConfig where
  cap     : Nat := 0
  evenIsOdd : Bool := false
  deriving DecidableEq, Repr

/-- A session's tallies (R26), Wh. -/
structure Tallies where
  total     : Nat := 0
  solar     : Nat := 0
  battery   : Nat := 0
  grid      : Nat := 0
  overQuota : Nat := 0
  deriving DecidableEq, Repr

/-- A session record (R26). -/
structure Session where
  number       : Word := 0
  cls          : Option SessionClass := none
  quota        : Nat := 0
  remaining    : Nat := 0
  reference    : BitVec 128 := 0
  startTime    : Word := 0
  stopTime     : Option Word := none
  tallies      : Tallies := {}
  stopCause    : Option StopCause := none
  timeUnset    : Bool := false
  fault        : Bool := false
  chargedMark  : Bool := false
  deriving DecidableEq, Repr

/-- Watts by source (R81, R104). -/
structure Portions where
  solar   : Nat := 0
  battery : Nat := 0
  grid    : Nat := 0
  deriving DecidableEq, Repr

/-- What a Bay Controller holds (R20..R26, R49, R54, R104), its lines included. -/
structure Bay where
  plugLine        : Bool := false
  readyLine       : Bool := false
  releaseLine     : Bool := false
  /-- FEEDBACK: true when the contact reports the contactor closed. -/
  feedback        : Bool := false
  /-- The taken PLUG level; `none` while unset. -/
  plug            : Option Bool := none
  ready           : Bool := false
  release         : Bool := false
  plugTimer       : Option Nat := some Config.lineFilterMs
  readyTimer      : Option Nat := some Config.lineFilterMs
  releaseLineTimer : Option Nat := some Config.releaseFilterMs
  state           : BayState := .vacant
  /-- Contactor drive, true for closed. -/
  drive           : Bool := false
  session         : Session := {}
  roundOverQuota  : Nat := 0
  lastSession     : Option Word := none
  /-- Maintenance: `none` for off, or on with a light pattern. -/
  maintenance     : Option Light := none
  deferredRelease : Bool := false
  weldMark        : Bool := false
  /-- Event flags, bit k the k-th flag of R54. -/
  events          : BitVec 10 := 0
  waitCount       : Nat := 0
  allowance       : Nat := 0
  idleTimer       : Option Nat := none
  releaseTimer    : Option Nat := none
  stopDelayTimer  : Option Nat := none
  feedbackTimer   : Option Nat := none
  /-- A fault has been found for the disagreement that stands (log 9). -/
  feedbackFound   : Bool := false
  keptPortions    : Portions := {}
  keptSession     : Option Word := none
  sessionPulses   : Nat := 0
  unownedPulses   : Nat := 0
  config          : BayConfig := {}
  /-- Meter-fault events handed over by the MU and not yet taken (R13, R15). -/
  meterFaults     : Nat := 0
  /-- The report that the receipt is finished, handed over and not yet taken (R131). -/
  receiptFinished : Bool := false
  /-- Reports that a session has closed, on their way to the RW (R125). -/
  closedReports   : Nat := 0
  deriving DecidableEq, Repr

/-- The supply map (R69): a source set for each class, bit 0 SOLAR, bit 1 BATTERY, bit 2 GRID. -/
structure SupplyMap where
  priority : BitVec 3 := 7
  standard : BitVec 3 := 7
  economy  : BitVec 3 := 3
  deriving DecidableEq, Repr

/-- A bay as latched (R59). -/
structure LatchedBay where
  eligible : Bool := false
  cls      : Option SessionClass := none
  session  : Option Word := none
  pmin     : Nat := 0
  pmax     : Nat := 0
  wait     : Nat := 0
  deriving DecidableEq, Repr

/-- The latched inputs of a plan (R59). -/
structure Latched where
  solar      : Nat
  shop       : Nat
  grid       : Nat
  /-- G, W. -/
  limit      : Nat
  /-- T, s. -/
  period     : Nat
  map        : SupplyMap
  bays       : Vector LatchedBay 12
  pairs      : Vector PairConfig 6
  eb         : Nat
  cap        : Nat
  reserve    : Nat
  cmax       : Nat
  dmax       : Nat
  calibrated : Bool
  offline    : Bool
  hold       : Bool
  attached   : Bool
  deriving DecidableEq, Repr

/-- One bay's part of a plan (R84). -/
structure PlanBay where
  grant    : Nat := 0
  portions : Portions := {}
  session  : Option Word := none
  deriving DecidableEq, Repr

/-- A plan's flags (R84). -/
structure PlanFlags where
  shopOver  : Bool := false
  held      : Bool := false
  detached  : Bool := false
  corrected : Bool := false
  deriving DecidableEq, Repr

/-- A plan (R84). -/
structure Plan where
  round        : Word := 0
  roundLength  : Nat := 0
  bays         : Vector PlanBay 12 := Vector.replicate 12 {}
  coverSolar   : Nat := 0
  coverBattery : Nat := 0
  potSolar     : Nat := 0
  potBattery   : Nat := 0
  potGrid      : Nat := 0
  setpoint     : Int := 0
  flags        : PlanFlags := {}
  deriving DecidableEq, Repr

/-- The Allocator (R58). -/
structure Allocator where
  round           : Word := 0
  /-- Length of the current round, s; none before boundary 0. -/
  roundLength     : Option Nat := none
  /-- Milliseconds left to the next boundary. -/
  boundaryTimer   : Option Nat := none
  limit           : Nat := 0
  period          : Nat := 2
  map             : SupplyMap := {}
  latched         : Option Latched := none
  staged          : Option Plan := none
  applied         : Option Plan := none
  /-- X, W (R63). -/
  correction      : Nat := 0
  episodes        : Nat := 0
  episodeReported : Bool := false
  deriving DecidableEq, Repr

/-- The reasons of a BATTERY_EVENT (R100). -/
structure BatteryReasons where
  state      : Bool
  reserve    : Bool
  calibrated : Bool
  deriving DecidableEq, Repr

/-- The last event record of the Battery Account (R100). -/
structure BatteryEvent where
  reasons    : BatteryReasons
  stateAfter : BatteryState
  time       : Word
  round      : Word
  deriving DecidableEq, Repr

/-- A filtered battery line (R87): its level, its taken level and its stability timer. -/
structure FilteredLine where
  line  : Bool := false
  taken : Bool := false
  timer : Option Nat := some Config.lineFilterMs
  deriving DecidableEq, Repr

/-- The Battery Account (R88). -/
structure BatteryAccount where
  readyLine  : FilteredLine := {}
  fullLine   : FilteredLine := {}
  emptyLine  : FilteredLine := {}
  eb         : Nat := 0
  calibrated : Bool := false
  atReserve  : Bool := false
  cap        : Nat := 100000
  reserve    : Nat := 20000
  cmax       : Nat := 10000
  dmax       : Nat := 10000
  state      : BatteryState := .offline
  setpoint   : Int := 0
  lastEvent  : Option BatteryEvent := none
  deriving DecidableEq, Repr

/-- The snapshot geometry (R110). -/
structure SnapshotWriter where
  base       : Option Nat := none
  stride     : Nat := 32
  decimation : Nat := 1
  deriving DecidableEq, Repr

/-- The geometry of the receipt window (R117, R118). -/
structure ReceiptGeometry where
  base     : Option Nat := none
  slots    : Nat := 0
  lowWater : Nat := 0
  deriving DecidableEq, Repr

/-- The Receipt Writer (R117). -/
structure ReceiptWriter where
  geometry      : ReceiptGeometry := {}
  nextSlot      : Nat := 0
  windowFirst   : Nat := 1
  /-- R. -/
  reserved      : Nat := 0
  /-- U. -/
  uncollected   : Nat := 0
  /-- I. -/
  issuing       : Nat := 0
  lastIssued    : Nat := 0
  lastCollected : Nat := 0
  chain         : Word := 0
  epoch         : Word := 0
  armed         : Bool := false
  abandoned     : Nat := 0
  /-- Sequence number and check of the last abandoned receipt. -/
  lastAbandoned : Option (Nat × Word) := none
  deriving DecidableEq, Repr

/-- What an own-write entry writes (R150). A reply is an orphan once a CRST has been taken during its performance
(R163). -/
inductive EntryKind where
  | receipt (bay : Fin 12) (sequence : Nat) (check : Word)
  | snapshot (index : Fin 13)
  | reply (orphan : Bool)
  | notice (vector : Fin 8)
  deriving DecidableEq, Repr

/-- An entry of the outbound queue (R150). -/
structure Entry where
  kind     : EntryKind
  addr     : Nat
  bytes    : List Byte
  /-- Its performance has begun: a first attempt has been granted. -/
  begun    : Bool := false
  /-- Attempts that completed FAULT. -/
  attempts : Nat := 0
  deriving DecidableEq, Repr

/-- A part-side read (R151): the k-th read of the attach sweep, or the k-th read of a command fetch. -/
inductive ReadKind where
  | sweep (k : Nat)
  | fetch (k : Nat)
  deriving DecidableEq, Repr

/-- A part-side read with its address, word count and the attempts that completed FAULT (R153). -/
structure PartRead where
  kind     : ReadKind
  addr     : Nat
  count    : Nat
  attempts : Nat := 0
  deriving DecidableEq, Repr

/-- Who holds the M-port (R151). A part-side read may be one whose data are discarded (R149, R163). -/
inductive MPort where
  | free
  | controller
  | entry
  | read (r : PartRead) (discard : Bool)
  deriving DecidableEq, Repr

/-- A transaction the site controller presents (R143). -/
inductive Request where
  | read (addr : Nat) (count : Nat)
  | write (addr : Nat) (words : List WriteWord)
  deriving DecidableEq, Repr

/-- An accepted transaction (R145, R146): a read with the data of its OWNED words taken at acceptance, or a write with
the lanes that pass, and the mark that its WATCHED words are copied at completion (R147). -/
inductive Access where
  | read (addr : Nat) (owned : List (Option Word))
  | write (addr : Nat) (words : List WriteWord) (copied : Bool)
  deriving DecidableEq, Repr

/-- The C-port (R143): one transaction at a time, held before acceptance (R148), held by hit-promote until the first
`upTo` entries of the queue are gone (R152), waiting for the arbiter, or granted. -/
inductive CPort where
  | empty
  | anchorHeld (r : Request)
  | hitHeld (a : Access) (upTo : Nat)
  | waiting (a : Access)
  | granted (a : Access)
  deriving DecidableEq, Repr

/-- A completion passed to the site controller: OK or FAULT, and a read's data (R143). -/
structure Completion where
  ok   : Bool
  data : List Word
  deriving DecidableEq, Repr

/-- The Path Unit (R156). -/
structure PathUnit where
  link       : LinkState := .starting
  queue      : List Entry := []
  waitCount  : Nat := 0
  mport      : MPort := .free
  /-- The part-side read requested of the arbiter and not yet granted. -/
  partRead   : Option PartRead := none
  cport      : CPort := .empty
  completion : Option Completion := none
  quietDrops : Nat := 0
  /-- The view selector: 0..17, or none for NONE. -/
  selector   : Option (Fin 18) := none
  deriving DecidableEq, Repr

/-- The Command Unit's step (R157), with the position it works on and the words fetched so far. -/
inductive CuStep where
  | idle
  | fetching (position : BitVec 4) (words : List Word)
  | executing (position : BitVec 4) (words : List Word) (awaiting : Bool)
  | replying (position : BitVec 4)
  deriving DecidableEq, Repr

/-- The Command Unit (R157). -/
structure CommandUnit where
  post  : BitVec 4 := 0
  taken : BitVec 4 := 0
  step  : CuStep := .idle
  deriving DecidableEq, Repr

/-- A vector shadow with its pending flag and queued mark (R166). -/
structure NoticeVector where
  addr    : Word := 0
  data    : Word := 0
  masked  : Bool := true
  usable  : Bool := true
  pending : Bool := false
  queued  : Bool := false
  deriving DecidableEq, Repr

/-- The Notice Unit (R166). -/
structure NoticeUnit where
  enable   : Bool := false
  allMask  : Bool := true
  vectors  : Vector NoticeVector 8 := Vector.replicate 8 {}
  /-- The vector of each cause, by cause number. -/
  causeMap : Vector (Fin 8) 8 := Vector.replicate 8 0
  deriving DecidableEq, Repr

/-- What a block hands the Error Log (R171). -/
structure Recording where
  kind   : ErrorKind
  bay    : Option (Fin 12) := none
  addr   : Option Word := none
  data   : Option Word := none
  detail : Word := 0
  deriving DecidableEq, Repr

/-- A record of the list: a recording with the site time and the round number at its instant (R171). -/
structure ErrorRecord where
  recording : Recording
  time      : Word
  round     : Word
  deriving DecidableEq, Repr

/-- The Error Log (R170..R173). Kind sets have bit k for kind number k. ALERT is the hold. -/
structure ErrorLog where
  status   : BitVec 12 := 0
  masked   : BitVec 12 := 0x010
  /-- The kinds of severity HOLD. -/
  holds    : BitVec 12 := 0x520
  records  : List ErrorRecord := []
  overflow : Bool := false
  first    : Option ErrorKind := none
  hold     : Bool := false
  deriving DecidableEq, Repr

/-- A byte to be written on the settings line, at its offset in the settings memory (R179). -/
structure SettingsByte where
  offset : Nat
  value  : Byte
  deriving DecidableEq, Repr

/-- An operation on the settings line (R179): the preload's read of bytes 0..1007, the epoch write-back and its retries with
the bytes they write (R181, R182), a command's read with the offsets it reads, and a command's write with the bytes it
writes (R180). A command's operation is discarded after a CRST (R163). -/
inductive SettingsOp where
  | preload
  | epochWrite (bytes : List SettingsByte)
  | epochRetry (bytes : List SettingsByte)
  | commandRead (offsets : List Nat) (discarded : Bool)
  | commandWrite (bytes : List SettingsByte) (discarded : Bool)
  deriving DecidableEq, Repr

/-- What the settings image supplies, each setting at its default when the image does not (R181). -/
structure Image where
  limit    : Nat := 0
  period   : Nat := 2
  bays     : Vector BayConfig 12 := Vector.replicate 12 {}
  pairs    : Vector PairConfig 6 := Vector.replicate 6 {}
  channels : ChannelConfig := {}
  cap      : Nat := 100000
  reserve  : Nat := 20000
  cmax     : Nat := 10000
  dmax     : Nat := 10000
  receipt  : ReceiptGeometry := {}
  snapshot : SnapshotWriter := {}
  masked   : BitVec 12 := 0x010
  holds    : BitVec 12 := 0x520
  causeMap : Vector (Fin 8) 8 := Vector.replicate 8 0
  map      : SupplyMap := {}
  deriving DecidableEq, Repr

/-- What the preload found (R181): the image, the new epoch E + 1, and the detail codes of SETTINGS_BAD in the order
found. -/
structure Preloaded where
  image : Image := {}
  epoch : Word := 0
  bad   : List Nat := []
  deriving DecidableEq, Repr

/-- The Settings Port (R179..R182). -/
structure SettingsPort where
  requests   : List SettingsOp := []
  inFlight   : Option SettingsOp := none
  retryTimer : Option Nat := none
  found      : Preloaded := {}
  deriving DecidableEq, Repr

/-- The whole part, and the queue of commands that wait. -/
structure State where
  /-- Commands waiting, first in first out. -/
  pending     : List Instr := []
  clock       : Clock := {}
  channels    : Vector Channel 17 := Vector.replicate 17 {}
  meterConfig : ChannelConfig := {}
  bays        : Vector Bay 12 := Vector.replicate 12 {}
  pairs       : Vector PairConfig 6 := Vector.replicate 6 {}
  /-- The session number the next AUTHORISE takes (R26). -/
  nextSession : Word := 1
  al          : Allocator := {}
  ba          : BatteryAccount := {}
  sw          : SnapshotWriter := {}
  rw          : ReceiptWriter := {}
  pu          : PathUnit := {}
  cu          : CommandUnit := {}
  nu          : NoticeUnit := {}
  el          : ErrorLog := {}
  sp          : SettingsPort := {}
  /-- The model's own: the counter at which free values are read (log 3). -/
  free        : Nat := 0
  deriving DecidableEq, Repr

/-- The part right after POR# is released: every field at the value its rule states (R19, R55, R86, R103, R109, R110,
R142, R156, R163, R169, R178, R179, R183), every line low (log 6). -/
def State.reset : State := {}

end Sys2Proof.Machine
end

