-- ==== Sys2Proof/Machine/Flags.lean ====
section
/-! DEFINITION. Codes and flag bits: how each named quantity is coded as a number (spec/11 11.1), the bits of the event
word (spec/11 11.6), of kind sets (R170) and of session, plan and battery flags, and the replies of the Command Unit
(R161). -/

namespace Sys2Proof.Machine

/-- The bay state codes. -/
def BayState.code : BayState → Nat
  | .vacant => 0 | .plugged => 1 | .authorised => 2 | .paused => 3 | .charging => 4 | .releasePending => 5
  | .stopping => 6 | .issuing => 7 | .ended => 8 | .faulted => 9

/-- The states in which a session is open (R27, R48). -/
def BayState.isOpen : BayState → Bool
  | .authorised | .paused | .charging | .releasePending | .stopping | .issuing => true
  | .vacant | .plugged | .ended | .faulted => false

/-- The open states before STOPPING: those a session command and a stop event act on (R36, R45). -/
def BayState.isActive : BayState → Bool
  | .authorised | .paused | .charging | .releasePending => true
  | .vacant | .plugged | .stopping | .issuing | .ended | .faulted => false

/-- The states in which a pulse counts against the session (R34, R104). -/
def BayState.countsPulses : BayState → Bool
  | .authorised | .paused | .charging | .releasePending | .stopping => true
  | .vacant | .plugged | .issuing | .ended | .faulted => false

/-- The states in which a press opens a release window or is deferred (R38). -/
def BayState.takesPress : BayState → Bool
  | .authorised | .paused | .charging => true
  | .vacant | .plugged | .releasePending | .stopping | .issuing | .ended | .faulted => false

/-- The LIGHT codes. -/
def Light.code : Light → Nat
  | .off => 0 | .green => 1 | .greenBlink => 2 | .amber => 3 | .amberBlink => 4 | .red => 5

/-- The light pattern of a code; none outside the six (R43). -/
def Light.ofCode : Nat → Option Light
  | 0 => some .off | 1 => some .green | 2 => some .greenBlink | 3 => some .amber | 4 => some .amberBlink
  | 5 => some .red | _ => none

/-- The class codes. -/
def SessionClass.code : SessionClass → Nat
  | .priority => 1 | .standard => 2 | .economy => 3

/-- The class of a code; none for a value that names no class (R29). -/
def SessionClass.ofCode : Nat → Option SessionClass
  | 1 => some .priority | 2 => some .standard | 3 => some .economy | _ => none

/-- The class code shown, 0 where no class is shown. -/
def classCode : Option SessionClass → Nat
  | none => 0
  | some c => c.code

/-- The stop cause codes. -/
def StopCause.code : StopCause → Nat
  | .command => 1 | .quota => 2 | .release => 3 | .plugLost => 4 | .idle => 5 | .meterFault => 6
  | .contactorFault => 7

/-- The stop cause code shown, 0 while absent. -/
def stopCode : Option StopCause → Nat
  | none => 0
  | some c => c.code

/-- The battery state codes. -/
def BatteryState.code : BatteryState → Nat
  | .offline => 0 | .idle => 1 | .charging => 2 | .discharging => 3

/-- The link state codes. -/
def LinkState.code : LinkState → Nat
  | .starting => 0 | .detached => 1 | .attaching => 2 | .attached => 3

/-- The cause numbers. -/
def Cause.number : Cause → Fin 8
  | .replyReady => 0 | .sessionEvent => 1 | .releaseRequest => 2 | .receiptIssued => 3 | .ringLow => 4
  | .errorRecorded => 5 | .holdChanged => 6 | .batteryEvent => 7

/-- The error kind numbers (R170). -/
def ErrorKind.number : ErrorKind → Nat
  | .guardWrite => 0 | .commandOverrun => 1 | .meterSilent => 2 | .meterRunaway => 3 | .meterNoise => 4
  | .contactorFault => 5 | .gridOverlimit => 6 | .batteryLost => 7 | .memoryFault => 8 | .settingsBad => 9
  | .epochUnsaved => 10 | .vectorFault => 11

/-- The kind set that holds one kind. -/
def ErrorKind.bit (k : ErrorKind) : BitVec 12 := (1 : BitVec 12) <<< k.number

/-- Whether a kind is in a kind set. -/
def inKindSet (set : BitVec 12) (k : ErrorKind) : Bool := set.getLsbD k.number

/-- The place of each flag in the event word (spec/11 11.6). -/
def EventFlag.number : EventFlag → Nat
  | .plugIn => 0 | .plugOut => 1 | .authorised => 2 | .chargingStarted => 3 | .releasePressed => 4
  | .releaseDeferred => 5 | .stopped => 6 | .quotaReached => 7 | .receiptIssued => 8 | .fault => 9

/-- The event word with one flag set. -/
def EventFlag.bit (f : EventFlag) : BitVec 10 := (1 : BitVec 10) <<< f.number

/-- A Bool as the bit 0 of a number. -/
def bit (b : Bool) : Nat := if b then 1 else 0

/-- Bools as the bits of a number, the first the lowest. -/
def bits : List Bool → Nat
  | [] => 0
  | b :: bs => bit b + 2 * bits bs

/-- The code of a taken PLUG level: 2 while unset. -/
def plugCode : Option Bool → Nat
  | none => 2
  | some b => bit b

/-- A plan's flags as a byte (spec/11 11.5). -/
def PlanFlags.byte (f : PlanFlags) : Nat := bits [f.shopOver, f.held, f.detached, f.corrected]

/-- The reasons of a BATTERY_EVENT as a byte. -/
def BatteryReasons.byte (r : BatteryReasons) : Nat := bits [r.state, r.reserve, r.calibrated]

/-- The refusal reasons (R161). -/
inductive Reason where
  | unknownCommand | badArgument | wrongState | notPlugged | held | noSlot | tooLate | staleSession | ringInUse
  | isProtected | settingsFault
  deriving DecidableEq, Repr

/-- The reason codes. -/
def Reason.code : Reason → Nat
  | .unknownCommand => 1 | .badArgument => 2 | .wrongState => 3 | .notPlugged => 4 | .held => 5 | .noSlot => 6
  | .tooLate => 7 | .staleSession => 8 | .ringInUse => 9 | .isProtected => 10 | .settingsFault => 11

/-- A reply (R161): DONE with two results, REFUSED with a reason and a first result, or FETCH_FAULT. -/
inductive Reply where
  | done (first second : Word)
  | refused (reason : Reason) (first : Word)
  | fetchFault
  deriving DecidableEq, Repr

/-- DONE with no result: results the owning rule does not name are 0 (R161). -/
def Reply.plain : Reply := .done 0 0

/-- The status codes. -/
def Reply.status : Reply → Nat
  | .done .. => 1 | .refused .. => 2 | .fetchFault => 3

/-- The reason field: 0 unless REFUSED. -/
def Reply.reasonCode : Reply → Nat
  | .refused r _ => r.code
  | .done .. | .fetchFault => 0

/-- The first result. -/
def Reply.first : Reply → Word
  | .done a _ => a | .refused _ a => a | .fetchFault => 0

/-- The second result. -/
def Reply.second : Reply → Word
  | .done _ b => b | .refused .. | .fetchFault => 0

end Sys2Proof.Machine
end

