-- ==== Sys2Proof/Machine/Operands.lean ====
section
/-! DEFINITION. Operands: byte order and fields (R184), the classes of a word address (R144), address ranges, the words
of a transaction (R143), and the range checks that commands and settings records share. -/

namespace Sys2Proof.Machine

/-- A number as n bytes, the least significant first; a value too large is written as the greatest (R184). -/
def leBytes (n v : Nat) : List Byte :=
  (List.range n).map fun i => BitVec.ofNat 8 (min v (256 ^ n - 1) / 256 ^ i)

/-- A word's four bytes, the least significant first. -/
def wordBytes (w : Word) : List Byte := leBytes 4 w.toNat

/-- A number as a 32-bit field; a value too large is the greatest (R184). -/
def field (n : Nat) : Word := BitVec.ofNat 32 (min n wordMax)

/-- A signed number as a 32-bit two's complement field (R184). -/
def signedField (i : Int) : Word := BitVec.ofInt 32 i

/-- Four byte fields as a word, the first the lowest; a value too large is 255. -/
def byteFields (a b c d : Nat) : Word :=
  BitVec.ofNat 32 (min a 255 + 256 * min b 255 + 65536 * min c 255 + 16777216 * min d 255)

/-- Two half-word fields as a word, the first the lower; a value too large is 65,535. -/
def halfFields (a b : Nat) : Word := BitVec.ofNat 32 (min a 65535 + 65536 * min b 65535)

/-- The number that n bytes from an offset make, the least significant first; bytes past the end count as 0. -/
def leNat (l : List Byte) (offset : Nat) : Nat → Nat
  | 0 => 0
  | n + 1 => (l.getD offset 0).toNat + 256 * leNat l (offset + 1) n

/-- A word of a list, 0 past its end. -/
def wordAt (l : List Word) (i : Nat) : Word := l.getD i 0

/-- The greatest multiple of 100 not above n (spec/00_scope, Arithmetic). -/
def floor100 (n : Nat) : Nat := n / 100 * 100

/-- A count that stays at its greatest value. -/
def saturate (top n : Nat) : Nat := min top n

/-- One more, for a count whose range is 0..2^32-1 and of which the spec says neither that it wraps nor that it
saturates: past the range, a free value (log 17). -/
def countOn (now : Word) (n : Nat) : Nat :=
  if n < wordMax then n + 1 else (Config.countBeyondRange now).toNat

/-- A range check that includes both ends (spec/00_scope, Numbers). -/
def inRange (lo hi n : Nat) : Bool := lo ≤ n && n ≤ hi

/-- A range check of a quantity described as ×100. -/
def inRange100 (lo hi n : Nat) : Bool := inRange lo hi n && n % 100 == 0

/-- Two address ranges, each a start and a length, have an address in common. -/
def rangesMeet (a n b m : Nat) : Bool := a < b + m && b < a + n

/-- A window lies within the address space and does not overlap the anchor page (R118, R110). -/
def windowFits (base len : Nat) : Bool :=
  base + len ≤ Config.spaceBytes && !rangesMeet base len Config.anchorBase Config.anchorBytes

/-- The length of the receipt window (R118). -/
def ReceiptGeometry.len (g : ReceiptGeometry) : Nat := g.slots * 64

/-- The length of the snapshot window (R110). -/
def SnapshotWriter.len (w : SnapshotWriter) : Nat := 13 * w.stride

/-- An address in the receipt window, which exists while N is above 0 (R118). -/
def ReceiptGeometry.holds (g : ReceiptGeometry) (a : Nat) : Bool :=
  match g.base with
  | some b => b ≤ a && a < b + g.len
  | none => false

/-- An address in the snapshot window, which exists while the base is not none (R110). -/
def SnapshotWriter.holds (w : SnapshotWriter) (a : Nat) : Bool :=
  match w.base with
  | some b => b ≤ a && a < b + w.len
  | none => false

/-- The two windows would overlap (R115, R138). -/
def windowsMeet (g : ReceiptGeometry) (w : SnapshotWriter) : Bool :=
  match g.base, w.base with
  | some a, some b => g.slots != 0 && rangesMeet a g.len b w.len
  | _, _ => false

/-- An address in the anchor page. -/
def inAnchor (a : Nat) : Bool := Config.anchorBase ≤ a && a < Config.anchorBase + Config.anchorBytes

/-- The class of a word (R144), with the window of a GUARDED one. -/
inductive WordClass where
  | owned | watched | receiptWindow | snapshotWindow | plain
  deriving DecidableEq, Repr

/-- The class of an anchor-page offset (R144). -/
def anchorClass (o : Nat) : WordClass :=
  if o < 0x04C || (0x180 ≤ o && o < 0x184) || (0x200 ≤ o && o < 0x400) then .owned
  else if o < 0x050 || (0x100 ≤ o && o < 0x180) then .watched
  else .plain

/-- The class of a word address as it stands now (R144): during STARTING nothing is decoded. -/
def State.classOf (s : State) (a : Nat) : WordClass :=
  if s.pu.link = .starting then .plain
  else if inAnchor a then anchorClass (a - Config.anchorBase)
  else if s.rw.geometry.holds a then .receiptWindow
  else if s.sw.holds a then .snapshotWindow
  else .plain

/-- The address of word i of a transaction. -/
def wordAddr (addr i : Nat) : Nat := addr + 4 * i

/-- The bytes of a write word with unwritten lanes as 0 (R146). -/
def writtenData (w : WriteWord) : Word :=
  byteFields (if w.lanes.getLsbD 0 then w.data.toNat % 256 else 0)
    (if w.lanes.getLsbD 1 then w.data.toNat / 256 % 256 else 0)
    (if w.lanes.getLsbD 2 then w.data.toNat / 65536 % 256 else 0)
    (if w.lanes.getLsbD 3 then w.data.toNat / 16777216 else 0)

/-- A word with the written lanes replaced (R166). -/
def mergeLanes (old : Word) (w : WriteWord) : Word :=
  byteFields (if w.lanes.getLsbD 0 then w.data.toNat % 256 else old.toNat % 256)
    (if w.lanes.getLsbD 1 then w.data.toNat / 256 % 256 else old.toNat / 256 % 256)
    (if w.lanes.getLsbD 2 then w.data.toNat / 65536 % 256 else old.toNat / 65536 % 256)
    (if w.lanes.getLsbD 3 then w.data.toNat / 16777216 else old.toNat / 16777216)

/-- All four lanes written. -/
def fullLanes (w : WriteWord) : Bool := w.lanes == 0xF

/-- The first address of an accepted transaction. -/
def Access.addr : Access → Nat
  | .read a _ => a
  | .write a _ _ => a

/-- The word count of an accepted transaction. -/
def Access.count : Access → Nat
  | .read _ o => o.length
  | .write _ w _ => w.length

/-- The first address of a presented transaction. -/
def Request.addr : Request → Nat
  | .read a _ => a
  | .write a _ => a

/-- A transaction touches an entry's target range, with any lanes (R152). -/
def Access.meets (a : Access) (e : Entry) : Bool := rangesMeet a.addr (4 * a.count) e.addr e.bytes.length

/-- The place of the last entry of a queue that a transaction touches, counted from 1; 0 when it touches none (R152). -/
def Access.lastMet (a : Access) : List Entry → Nat
  | [] => 0
  | e :: es => match a.lastMet es with
    | 0 => if a.meets e then 1 else 0
    | n + 1 => n + 2

/-- A kind set carried in a field of k bits: none when a bit above the last kind is set (R184). -/
def kindSetOf (n : Nat) : Option (BitVec 12) := if n < 4096 then some (BitVec.ofNat 12 n) else none

/-- A source set: none when it is empty or names another source (R70, R184). -/
def sourceSetOf (n : Nat) : Option (BitVec 3) := if n = 0 || 8 ≤ n then none else some (BitVec.ofNat 3 n)

/-- A cause map as the CAUSE_MAP argument codes it: bits 4c+3..4c hold cause c's vector; none when one is above 7 (R165). -/
def causeMapOf (n : Nat) : Option (Vector (Fin 8) 8) :=
  if (List.range 8).all fun c => n / 16 ^ c % 16 < 8 then
    some (Vector.ofFn fun c : Fin 8 => Fin.ofNat 8 (n / 16 ^ c.val % 16))
  else none

/-- A bay number of eight bits, none above 11. -/
def bayOf (n : Nat) : Option (Fin 12) := if h : n < 12 then some ⟨n, h⟩ else none

/-- The pair of a bay (R24). -/
def pairOf (b : Fin 12) : Fin 6 := ⟨b.val / 2, by omega⟩

/-- The other bay of a bay's pair. -/
def partnerOf (b : Fin 12) : Fin 12 := ⟨if b.val % 2 = 0 then b.val + 1 else b.val - 1, by split <;> omega⟩

/-- The pair even member as a bay number (R24). -/
def evenMember (p : Fin 6) (c : PairConfig) : Nat := 2 * p.val + bit c.evenIsOdd

/-- A bay's own values lie in the ranges of R24. -/
def BayConfig.inRanges (c : BayConfig) : Bool :=
  inRange100 1400 11000 c.pmin && inRange100 c.pmin 22000 c.pmax && inRange 1 10 c.stopDelay &&
  inRange 2 60 c.releaseWindow && (c.idleTimeout == 0 || inRange 60 3600 c.idleTimeout)

/-- A feeder cap lies in the part of its range that no bay's Pmin decides (R24). -/
def capInRange (cap : Nat) : Bool := cap == 0 || inRange100 1 44000 cap

/-- The limits of the battery lie in the ranges of R92. -/
def batteryInRanges (cap reserve cmax dmax : Nat) : Bool :=
  inRange 1000 2000000 cap && reserve ≤ cap && cmax ≤ 250000 && dmax ≤ 250000

/-- The values of SET_SITE and of the SITE record lie in their ranges (R57). -/
def siteInRanges (limit period : Nat) : Bool := limit ≤ 1000000 && inRange 1 10 period

/-- A receipt geometry with slots is one the part takes, the snapshot window apart (R118, R138). -/
def receiptFits (base slots lowWater : Nat) : Bool :=
  inRange 16 512 slots && lowWater ≤ slots && base % 64 == 0 && windowFits base (slots * 64)

/-- A snapshot geometry is one the part takes, the receipt window apart (R110, R115). -/
def snapshotFits (w : SnapshotWriter) : Bool :=
  inRange 32 256 w.stride && w.stride % 32 == 0 && inRange 1 16 w.decimation &&
  match w.base with
  | none => true
  | some b => b % 32 == 0 && windowFits b w.len

/-- The base of a window as its field codes it: 0xFFFF_FFFF for none (R184). -/
def baseOf (w : Nat) : Option Nat := if w = wordMax then none else some w

/-- The field of a window's base. -/
def baseField : Option Nat → Word
  | none => 0xFFFFFFFF
  | some b => field b

/-- The things of a list in the order a list of picks gives: each pick chooses among those left, counted round. -/
def arrange {α : Type} : Nat → List Nat → List α → List α
  | 0, _, xs => xs
  | n + 1, picks, xs =>
    match xs[picks.headD 0 % xs.length]? with
    | none => xs
    | some x => x :: arrange n picks.tail (xs.eraseIdx (picks.headD 0 % xs.length))

end Sys2Proof.Machine
end

