-- ==== Sys2Proof/Machine/Plan.lean ====
section
/-! DEFINITION. The computation of a plan from the latched inputs (spec/03 3.5 to 3.10): pots and shop cover, class serving,
caps, portions and the setpoint. Quotients are exact until the one floor that a rule names. -/

namespace Sys2Proof.Machine

/-! ## Pots and shop cover (R65 to R68) -/

/-- Watt-hours as the power that moves them in one round of T seconds, floor(Wh x 3600 / T). -/
def Latched.power (l : Latched) (energy : Nat) : Nat := energy * 3600 / l.period

/-- The battery may cover and sell: not OFFLINE and calibrated (R66, R68). -/
def Latched.batteryUsable (l : Latched) : Bool := !l.offline && l.calibrated

/-- The shop's deficit d = max(0, -H), with H = G - L - X (R65). -/
def Latched.deficit (l : Latched) (x : Nat) : Nat := l.shop + x - l.limit

/-- The grid pot max(0, H) (R65). -/
def Latched.gridPot (l : Latched) (x : Nat) : Nat := l.limit - (l.shop + x)

/-- The solar cover (R66 step 1). -/
def Latched.solarCover (l : Latched) (x : Nat) : Nat := min l.solar (l.deficit x)

/-- The battery cover (R66 step 2). -/
def Latched.batteryCover (l : Latched) (x : Nat) : Nat :=
  if l.batteryUsable then min (l.deficit x - l.solarCover x) (min l.dmax (l.power l.eb)) else 0

/-- SHOP_OVER: some deficit remains (R66 step 3). -/
def Latched.shopOver (l : Latched) (x : Nat) : Bool := l.solarCover x + l.batteryCover x < l.deficit x

/-- The three pots after shop cover (R65, R67, R68). -/
def Latched.pots (l : Latched) (x : Nat) : Portions where
  solar := l.solar - l.solarCover x
  battery :=
    if l.batteryUsable && decide (l.reserve < l.eb) then min (l.dmax - l.batteryCover x) (l.power (l.eb - l.reserve)) else 0
  grid := l.gridPot x

/-! ## Serving one class (R71 to R76) -/

/-- The sum of three watts by source. -/
def Portions.sum (p : Portions) : Nat := p.solar + p.battery + p.grid

/-- The pots a source set permits, 0 for the others. -/
def Portions.permitted (p : Portions) (set : BitVec 3) : Portions where
  solar := if set.getLsbD 0 then p.solar else 0
  battery := if set.getLsbD 1 then p.battery else 0
  grid := if set.getLsbD 2 then p.grid else 0

/-- The source set of a class (R69). -/
def SupplyMap.set (m : SupplyMap) : SessionClass → BitVec 3
  | .priority => m.priority
  | .standard => m.standard
  | .economy => m.economy

/-- A latched bay. -/
def Latched.bay (l : Latched) (b : Fin 12) : LatchedBay := l.bays[b]

/-- A bay's headroom Pmax - Pmin (R73). -/
def LatchedBay.headroom (x : LatchedBay) : Nat := x.pmax - x.pmin

/-- The eligible bays of a class, in ascending bay number (R71). -/
def Latched.members (l : Latched) (c : SessionClass) : List (Fin 12) :=
  (List.finRange 12).filter fun b => (l.bay b).eligible && (l.bay b).cls == some c

/-- The sum of the Pmin of some bays. -/
def Latched.sumPmin (l : Latched) (bs : List (Fin 12)) : Nat := (bs.map fun b => (l.bay b).pmin).sum

/-- A thing put into a list in an order, ahead of those it does not come after. -/
def insertBy {α : Type} (before : α → α → Bool) (x : α) : List α → List α
  | [] => [x]
  | y :: ys => if before y x then y :: insertBy before x ys else x :: y :: ys

/-- A list put in an order, equals kept in the order they had. -/
def sortBy {α : Type} (before : α → α → Bool) (xs : List α) : List α :=
  xs.foldl (fun acc x => insertBy (fun y z => !before z y) x acc) []

/-- The level y of water-filling as a numerator and a denominator, over headrooms in ascending order (R73). -/
def waterLevel : Nat → List Nat → Nat × Nat
  | _, [] => (0, 1)
  | q, [h] => if q < h then (q, 1) else (h, 1)
  | q, h :: k :: rest => if q < h * (rest.length + 2) then (q, rest.length + 2) else waterLevel (q - h) (k :: rest)

/-- floor100(Pmin + min(h, y)) for a level y (R73). -/
def LatchedBay.filled (x : LatchedBay) (y : Nat × Nat) : Nat :=
  (x.pmin * y.2 + min (x.headroom * y.2) y.1) / (100 * y.2) * 100

/-- The grants of water-filling an amount over some bays (R73). -/
def Latched.waterFill (l : Latched) (q : Nat) (bs : List (Fin 12)) : List (Fin 12 × Nat) :=
  let y := waterLevel q (sortBy (· < ·) (bs.map fun b => (l.bay b).headroom))
  bs.map fun b => (b, (l.bay b).filled y)

/-- The order of admission: the higher latched wait count, then the lower bay number (R74 step 1). -/
def Latched.admissionOrder (l : Latched) (bs : List (Fin 12)) : List (Fin 12) :=
  sortBy (fun a b => (l.bay b).wait < (l.bay a).wait) bs

/-- Admission with a running amount (R74 step 2): the bays admitted and the amount still running. -/
def Latched.admitBays (l : Latched) : Nat → List (Fin 12) → List (Fin 12) × Nat
  | running, [] => ([], running)
  | running, b :: bs =>
    if (l.bay b).pmin ≤ running then
      let r := l.admitBays (running - (l.bay b).pmin) bs
      (b :: r.1, r.2)
    else l.admitBays running bs

/-- What serving one class gives: its grants, and its deductions from the three pots (R76). -/
structure Served where
  grants     : List (Fin 12 × Nat)
  deductions : Portions
  deriving DecidableEq, Repr

/-- The class total taken from the permitted pots, in the order solar, battery, grid (R76). -/
def Portions.deduct (p : Portions) (total : Nat) : Portions where
  solar := min p.solar total
  battery := min p.battery (total - p.solar)
  grid := min p.grid (total - p.solar - p.battery)

/-- Pots less deductions. -/
def Portions.less (p d : Portions) : Portions where
  solar := p.solar - d.solar
  battery := p.battery - d.battery
  grid := p.grid - d.grid

/-- The grants of a class served from a pot: in full, or by admission (R71, R72, R74). -/
def Latched.classGrants (l : Latched) (pot : Nat) (bs : List (Fin 12)) : List (Fin 12 × Nat) :=
  if l.sumPmin bs ≤ pot then l.waterFill (pot - l.sumPmin bs) bs
  else
    let r := l.admitBays pot (l.admissionOrder bs)
    l.waterFill r.2 r.1

/-- The sum of some grants. -/
def grantSum (gs : List (Fin 12 × Nat)) : Nat := (gs.map Prod.snd).sum

/-- One class served from the pots (R71, R76). -/
def Latched.serve (l : Latched) (c : SessionClass) (pots : Portions) : Served :=
  let permitted := pots.permitted (l.map.set c)
  let gs := l.classGrants permitted.sum (l.members c)
  { grants := gs, deductions := permitted.deduct (grantSum gs) }

/-- The three classes in the order they are served, each with what it was given (R71). -/
structure Serving where
  priority : Served
  standard : Served
  economy  : Served
  deriving DecidableEq, Repr

/-- Class serving (R71). -/
def Latched.serving (l : Latched) (pots : Portions) : Serving :=
  let p := l.serve .priority pots
  let q := l.serve .standard (pots.less p.deductions)
  { priority := p, standard := q, economy := l.serve .economy ((pots.less p.deductions).less q.deductions) }

/-- What a class was given. -/
def Serving.of (v : Serving) : SessionClass → Served
  | .priority => v.priority
  | .standard => v.standard
  | .economy => v.economy

/-- The grant that some grants give a bay, 0 where they do not name it. -/
def grantIn (gs : List (Fin 12 × Nat)) (b : Fin 12) : Nat := ((gs.find? fun g => g.1 == b).map Prod.snd).getD 0

/-- All grants of a serving. -/
def Serving.grants (v : Serving) : List (Fin 12 × Nat) := v.priority.grants ++ v.standard.grants ++ v.economy.grants

/-- A bay was served: its class was served in full, or it was admitted (R75). -/
def Serving.served (v : Serving) (b : Fin 12) : Bool := v.grants.any fun g => g.1 == b

/-- A bay's new wait count (R75). -/
def Latched.newWait (l : Latched) (v : Serving) (b : Fin 12) : Nat :=
  if (l.bay b).eligible && !v.served b then saturate 65535 ((l.bay b).wait + 1) else 0

/-! ## Caps (R77 to R80) -/

/-- A grant of a pair shared by reduction: Pmin and at most half the margin above the two Pmins (R77). -/
def sharedGrant (cap pmin other grant : Nat) : Nat := pmin + min (grant - pmin) (floor100 ((cap - pmin - other) / 2))

/-- The two grants of a pair after its feeder cap (R77 to R79), those of its lower and its higher bay; `lower` says that
the lower bay keeps its grant when the pair alternates. -/
def capPair (cap pa pb : Nat) (lower : Bool) (ga gb : Nat) : Nat × Nat :=
  if cap = 0 ∨ ga + gb ≤ cap then (ga, gb)
  else if ga = 0 ∨ gb = 0 then (min ga cap, min gb cap)
  else if pa + pb ≤ cap then (sharedGrant cap pa pb ga, sharedGrant cap pb pa gb)
  else if lower then (min ga cap, 0)
  else (0, min gb cap)

/-- The lower bay of a pair. -/
def lowerBay (p : Fin 6) : Fin 12 := ⟨2 * p.val, by omega⟩

/-- The higher bay of a pair. -/
def higherBay (p : Fin 6) : Fin 12 := ⟨2 * p.val + 1, by omega⟩

/-- The lower bay of a pair keeps its grant on a plan that governs a round: the pair even member on even rounds, the other
on odd ones (R78). -/
def PairConfig.lowerKeeps (c : PairConfig) (round : Word) : Bool := round.getLsbD 0 == c.evenIsOdd

/-- The grants of a pair after its feeder cap, from the grants class serving gave. -/
def Latched.pairGrants (l : Latched) (round : Word) (g : Fin 12 → Nat) (p : Fin 6) : Nat × Nat :=
  let c := l.pairs[p]
  capPair c.cap (l.bay (lowerBay p)).pmin (l.bay (higherBay p)).pmin (c.lowerKeeps round) (g (lowerBay p)) (g (higherBay p))

/-- A bay's grant after the feeder caps (R77 to R79). -/
def Latched.feederGrant (l : Latched) (round : Word) (g : Fin 12 → Nat) (b : Fin 12) : Nat :=
  let r := l.pairGrants round g (pairOf b)
  if b.val % 2 = 0 then r.1 else r.2

/-- A bay's grant after every cap (R80). -/
def Latched.finalGrant (l : Latched) (round : Word) (g : Fin 12 → Nat) (b : Fin 12) : Nat :=
  let f := l.feederGrant round g b
  if l.hold || !l.attached then min f (l.bay b).pmin else f

/-! ## Portions (R81) -/

/-- The base portions of a grant by its class's deductions (R81 step 1). -/
def basePortions (d : Portions) (g : Nat) : Portions where
  solar := g * d.solar / d.sum
  battery := g * d.battery / d.sum
  grid := g * d.grid / d.sum

/-- One watt placed on the first source with room, in the order grid, battery, solar (R81 step 3). -/
def placeWatt (room p : Portions) : Portions × Portions :=
  if 0 < room.grid then ({ room with grid := room.grid - 1 }, { p with grid := p.grid + 1 })
  else if 0 < room.battery then ({ room with battery := room.battery - 1 }, { p with battery := p.battery + 1 })
  else if 0 < room.solar then ({ room with solar := room.solar - 1 }, { p with solar := p.solar + 1 })
  else (room, p)

/-- Some watts placed one at a time: the room left and the portions after. -/
def placeWatts : Nat → Portions → Portions → Portions × Portions
  | 0, room, p => (room, p)
  | n + 1, room, p => placeWatts n (placeWatt room p).1 (placeWatt room p).2

/-- The remainders of a class placed bay by bay in the order of the list (R81 step 3). -/
def placeClass (d : Portions) : Portions → List (Fin 12 × Nat) → List (Fin 12 × Portions)
  | _, [] => []
  | room, (b, g) :: gs =>
    let base := basePortions d g
    let r := placeWatts (g - base.sum) room base
    (b, r.2) :: placeClass d r.1 gs

/-- The rooms of a class once every base portion is placed (R81 step 3). -/
def roomAfterBase (d : Portions) (gs : List (Fin 12 × Nat)) : Portions :=
  gs.foldl (fun room g => room.less (basePortions d g.2)) d

/-- The portions of a class: its bays in ascending bay number with their final grants (R81). -/
def classPortions (d : Portions) (gs : List (Fin 12 × Nat)) : List (Fin 12 × Portions) :=
  placeClass d (roomAfterBase d gs) gs

/-- The portions that some portions give a bay, 0 where they do not name it. -/
def portionsIn (ps : List (Fin 12 × Portions)) (b : Fin 12) : Portions :=
  ((ps.find? fun p => p.1 == b).map Prod.snd).getD {}

/-! ## The plan (R82 to R84) -/

/-- A bay's part of the plan: a bay with grant 0 has three portions of 0 and names no session (R81, R84). -/
def Latched.planBay (l : Latched) (v : Serving) (grant : Fin 12 → Nat) (b : Fin 12) : PlanBay :=
  match (l.bay b).cls with
  | none => {}
  | some c =>
    if grant b = 0 then {}
    else
      { grant := grant b, session := (l.bay b).session
        portions := portionsIn (classPortions (v.of c).deductions ((l.members c).map fun b => (b, grant b))) b }

/-- The battery charge from the solar leftover (R82). -/
def Latched.charge (l : Latched) (leftover : Nat) : Nat :=
  if l.offline then 0 else min leftover (min l.cmax (l.power (l.cap - l.eb)))

/-- The sum of one source's portions over the bays of a plan. -/
def sumBays (bays : Vector PlanBay 12) (f : PlanBay → Nat) : Nat := (bays.toList.map f).sum

/-- The plan for a round, from the latched inputs and the correction X (R62). -/
def Latched.plan (l : Latched) (x : Nat) (round : Word) : Plan :=
  let pots := l.pots x
  let v := l.serving pots
  let granted := grantIn v.grants
  let bays := Vector.ofFn fun b : Fin 12 => l.planBay v (l.finalGrant round granted) b
  let charge := l.charge (pots.solar - sumBays bays fun b => b.portions.solar)
  { round := round, roundLength := l.period, bays := bays,
    coverSolar := l.solarCover x, coverBattery := l.batteryCover x,
    potSolar := pots.solar, potBattery := pots.battery, potGrid := pots.grid,
    setpoint := (charge : Int) - l.batteryCover x - sumBays bays fun b => b.portions.battery,
    flags := { shopOver := l.shopOver x, held := l.hold, detached := !l.attached, corrected := decide (0 < x) } }

/-- The new wait counts of the plan (R75). -/
def Latched.waits (l : Latched) (x : Nat) : Vector Nat 12 :=
  let v := l.serving (l.pots x)
  Vector.ofFn fun b : Fin 12 => l.newWait v b

end Sys2Proof.Machine
end

