-- ==== Sys2Proof/Decode.lean ====
section
/-! DEFINITION. Decoding. No row of spec/opcode_table.json has bits, so no word spells a row (log 29). The one encoding
the spec gives commands is the slot of the command ring (spec/11 11.3): decodeCommand reads the ring command that the
twelve fetched words of a slot spell (R160), total on any words. -/

namespace Sys2Proof

/-- The command a word spells by the table's bits: the table gives no row any bits, so there is none (log 29). -/
def decodeTableWord (_nbits _w : Nat) : Option Instr := none

/-- Word i of a slot; a slot has twelve fetched words (R159). -/
def slotWord (words : List Word) (i : Nat) : Word := words.getD i 0

/-- The command code: bits 7..0 of word 0. -/
def slotCode (words : List Word) : Byte := (slotWord words 0).extractLsb' 0 8

/-- The bay number: bits 15..8 of word 0. -/
def slotBay (words : List Word) : Byte := (slotWord words 0).extractLsb' 8 8

/-- The tag: bits 31..16 of word 0. -/
def slotTag (words : List Word) : BitVec 16 := (slotWord words 0).extractLsb' 16 16

/-- The reference: words 8..11, the first byte lowest. -/
def slotReference (words : List Word) : BitVec 128 :=
  slotWord words 11 ++ slotWord words 10 ++ slotWord words 9 ++ slotWord words 8

/-- The ring command that a slot's fetched words spell (spec/11 11.3); a code that names none of the twenty-two commands
is UNKNOWN_COMMAND (R160). -/
def decodeCommand (words : List Word) : Instr :=
  let bay := slotBay words
  let a := slotWord words
  match (slotCode words).toNat with
  | 0x01 => .authorise bay (a 1) (a 2) (slotReference words)
  | 0x02 => .stop bay (a 1)
  | 0x03 => .extendQuota bay (a 1) (a 2)
  | 0x04 => .releaseConfirm bay (a 1)
  | 0x05 => .releaseCancel bay (a 1)
  | 0x06 => if (a 1).getLsbD 0 then .maintenanceOn bay (a 2) else .maintenanceOff bay (a 2)
  | 0x07 => .clearBay bay
  | 0x08 => .setBay bay (a 1) (a 2) (a 3) (a 4) (a 5) (a 6) (a 7)
  | 0x10 => .setSite (a 1) (a 2)
  | 0x11 => .setSupplyMap (a 1) (a 2) (a 3)
  | 0x12 => .setBattery (a 1) (a 2) (a 3) (a 4)
  | 0x13 => .setTime (a 1)
  | 0x20 => .collect (a 1)
  | 0x21 => .setReceiptWindow (a 1) (a 2) (a 3)
  | 0x22 => .setSnapshotWindow (a 1) (a 2) (a 3)
  | 0x30 => .causeMap (a 1)
  | 0x31 => .clearErrors (a 1) (a 2)
  | 0x32 => .ackError
  | 0x33 => .setErrorPolicy (a 1) (a 2)
  | 0x34 => .clearHold
  | 0x40 => .settingsRead (a 1)
  | 0x41 => .settingsWrite (a 1) (a 2)
  | _ => .unknownCommand (slotCode words)

/-! ## Writing a slot -/

/-- Word 0 of a slot: code, bay number and tag. -/
def slotHead (code bay : Byte) (tag : BitVec 16) : Word := tag ++ (bay ++ code)

/-- The codes of the twenty-two commands (spec/11 11.3). -/
def knownCodes : List Byte :=
  [0x01, 0x02, 0x03, 0x04, 0x05, 0x06, 0x07, 0x08, 0x10, 0x11, 0x12] ++
  [0x13, 0x20, 0x21, 0x22, 0x30, 0x31, 0x32, 0x33, 0x34, 0x40, 0x41]

/-- The twelve words of a slot from its head, its arguments and its reference; words not given are 0. -/
def slotOf (head : Word) (arguments : List Word) (reference : BitVec 128) : List Word :=
  head :: arguments ++ List.replicate (7 - arguments.length) 0 ++ (List.range 4).map fun i => reference.extractLsb' (32 * i) 32

/-- A slot that spells a ring command with a tag (spec/11 11.3); none for a row that is no ring command, and for an
UNKNOWN_COMMAND whose code is known. -/
def encodeSlot (c : Instr) (tag : BitVec 16) : Option (List Word) :=
  let slot (code bay : Byte) (arguments : List Word) := some (slotOf (slotHead code bay tag) arguments 0)
  match c with
  | .authorise bay cls quota reference => some (slotOf (slotHead 0x01 bay tag) [cls, quota] reference)
  | .stop bay session => slot 0x02 bay [session]
  | .extendQuota bay session amount => slot 0x03 bay [session, amount]
  | .releaseConfirm bay session => slot 0x04 bay [session]
  | .releaseCancel bay session => slot 0x05 bay [session]
  | .maintenanceOn bay pattern => slot 0x06 bay [1, pattern]
  | .maintenanceOff bay pattern => slot 0x06 bay [0, pattern]
  | .clearBay bay => slot 0x07 bay []
  | .setBay bay pmin pmax stopDelay releaseWindow idleTimeout cap pairWord =>
    slot 0x08 bay [pmin, pmax, stopDelay, releaseWindow, idleTimeout, cap, pairWord]
  | .setSite limit period => slot 0x10 0 [limit, period]
  | .setSupplyMap priority standard economy => slot 0x11 0 [priority, standard, economy]
  | .setBattery cap reserve cmax dmax => slot 0x12 0 [cap, reserve, cmax, dmax]
  | .setTime time => slot 0x13 0 [time]
  | .collect sequence => slot 0x20 0 [sequence]
  | .setReceiptWindow base slots lowWater => slot 0x21 0 [base, slots, lowWater]
  | .setSnapshotWindow base stride decimation => slot 0x22 0 [base, stride, decimation]
  | .causeMap map => slot 0x30 0 [map]
  | .clearErrors kinds overflow => slot 0x31 0 [kinds, overflow]
  | .ackError => slot 0x32 0 []
  | .setErrorPolicy masks holds => slot 0x33 0 [masks, holds]
  | .clearHold => slot 0x34 0 []
  | .settingsRead offset => slot 0x40 0 [offset]
  | .settingsWrite offset data => slot 0x41 0 [offset, data]
  | .unknownCommand code => if knownCodes.contains code then none else slot code 0 []
  | _ => none

end Sys2Proof
end

