-- ==== Sys2Proof/Machine/Ops.lean ====
section
/-! DEFINITION. Shared operations: reading and updating one part of the state; CRC-32 (R129); the outbound queue (R150)
with the transaction it holds (R152); causes, pending flags and notices (R167, R168); recordings and the hold (R171,
R173); usability of vectors (R166); the battery account's one event (R91, R94, R100). -/

namespace Sys2Proof.Machine

/-- The next state of an outcome, none for a fault or a refusal. -/
def nextState (o : Host.Outcome State Fault Refusal) : Option State :=
  match o with
  | .next t => some t
  | .fault _ => none
  | .refused _ => none

/-! ## One place of the state -/

/-- A bay. -/
def State.bay (s : State) (b : Fin 12) : Bay := s.bays[b]

/-- A bay replaced. -/
def State.setBay (s : State) (b : Fin 12) (x : Bay) : State := { s with bays := s.bays.set b x }

/-- A bay changed. -/
def State.onBay (s : State) (b : Fin 12) (f : Bay → Bay) : State := s.setBay b (f (s.bay b))

/-- A channel. -/
def State.channel (s : State) (c : Fin 17) : Channel := s.channels[c]

/-- A channel replaced. -/
def State.setChannel (s : State) (c : Fin 17) (x : Channel) : State := { s with channels := s.channels.set c x }

/-- A channel changed. -/
def State.onChannel (s : State) (c : Fin 17) (f : Channel → Channel) : State := s.setChannel c (f (s.channel c))

/-- The channel of a bay's meter (R1). -/
def bayChannel (b : Fin 12) : Fin 17 := ⟨b.val, by omega⟩

/-- The bay of a channel, none for a site channel (R1). -/
def channelBay (c : Fin 17) : Option (Fin 12) := bayOf c.val

/-- A pair's configuration. -/
def State.pair (s : State) (p : Fin 6) : PairConfig := s.pairs[p]

/-- A pair's configuration replaced. -/
def State.setPair (s : State) (p : Fin 6) (c : PairConfig) : State := { s with pairs := s.pairs.set p c }

/-- A vector's shadow. -/
def State.vector (s : State) (v : Fin 8) : NoticeVector := s.nu.vectors[v]

/-- A vector's shadow replaced. -/
def State.setVector (s : State) (v : Fin 8) (x : NoticeVector) : State :=
  { s with nu := { s.nu with vectors := s.nu.vectors.set v x } }

/-! ## CRC-32 -/

/-- One step of the CRC register (R129). -/
def crcStep (r : Word) : Word := if r.getLsbD 0 then (r >>> 1) ^^^ 0xEDB88320 else r >>> 1

/-- One byte taken into the register (R129). -/
def crcByte (r : Word) (b : Byte) : Word := Nat.repeat crcStep 8 (r ^^^ b.setWidth 32)

/-- The CRC-32 of a sequence of bytes (R129). -/
def crc32 (bytes : List Byte) : Word := ~~~(bytes.foldl crcByte 0xFFFFFFFF)

/-- The chain start of an epoch (R130). -/
def chainStart (epoch : Word) : Word := crc32 (wordBytes epoch)

/-! ## The outbound queue and the transaction it holds -/

/-- An entry added at the tail (R150). An accepted transaction that is not held is not judged against it (the model's choice,
log 41). -/
def State.enqueue (s : State) (e : Entry) : State := { s with pu := { s.pu with queue := s.pu.queue ++ [e] } }

/-- The part completes a controller transaction (R143). -/
def State.completeC (s : State) (ok : Bool) (data : List Word) : State :=
  { s with pu := { s.pu with cport := .empty, completion := some { ok := ok, data := data } } }

/-- An accepted transaction that nothing holds goes on: the part completes it OK itself when it has nothing for memory
(R145, R146), and otherwise it waits for the arbiter (R151). -/
def State.proceed (s : State) (a : Access) : State :=
  match a with
  | .read _ owned =>
    if owned.all Option.isSome then s.completeC true (owned.map fun o => o.getD 0)
    else { s with pu := { s.pu with cport := .waiting a } }
  | .write _ words _ =>
    if words.all fun w => w.lanes == 0 then s.completeC true []
    else { s with pu := { s.pu with cport := .waiting a } }

/-- An accepted or released transaction is judged against the queue: held until the last entry it touches is gone, or
going on (R152). It is judged at these two instants only: an entry queued while it waits unheld for the arbiter does not hold
it (the model's choice, log 41). -/
def State.judgeHit (s : State) (a : Access) : State :=
  match a.lastMet s.pu.queue with
  | 0 => s.proceed a
  | n + 1 => { s with pu := { s.pu with cport := .hitHeld a (n + 1) } }

/-- The held transaction after the first n' entries it waits for are left: released and judged afresh when none is left
(R152). -/
def State.holdUpTo (s : State) (a : Access) (n : Nat) : State :=
  match n with
  | 0 => s.judgeHit a
  | n + 1 => { s with pu := { s.pu with cport := .hitHeld a (n + 1) } }

/-- The head entry removed on its completion (R150), and a transaction held on it released (R152). -/
def State.popHead (s : State) : State :=
  let t := { s with pu := { s.pu with queue := s.pu.queue.tail } }
  match s.pu.cport with
  | .hitHeld a n => t.holdUpTo a (n - 1)
  | .empty | .anchorHeld _ | .waiting _ | .granted _ => t

/-- Entries removed without completion (R150): those that `drop` names and whose performance has not begun. A held
transaction keeps waiting for the last entry it touches among those left of the ones it waited for, and is released
when there is none (R152). -/
def State.removeEntries (s : State) (drop : EntryKind → Bool) : State :=
  let keep := fun e : Entry => e.begun || !drop e.kind
  let t := { s with pu := { s.pu with queue := s.pu.queue.filter keep } }
  match s.pu.cport with
  | .hitHeld a n => t.holdUpTo a (a.lastMet ((s.pu.queue.take n).filter keep))
  | .empty | .anchorHeld _ | .waiting _ | .granted _ => t

/-! ## Causes and notices -/

/-- The address a vector's shadow is used at: reduced to the address space and rounded down to a word (R166). -/
def noticeAddr (a : Word) : Nat := a.toNat % Config.spaceBytes / 4 * 4

/-- Whether a notice address is usable: outside the anchor page and both windows (R166). -/
def State.addrUsable (s : State) (a : Word) : Bool :=
  !inAnchor (noticeAddr a) && !s.rw.geometry.holds (noticeAddr a) && !s.sw.holds (noticeAddr a)

/-- A vector is deliverable (R167). -/
def State.deliverable (s : State) (v : Fin 8) : Bool :=
  s.nu.enable && !s.nu.allMask && !(s.vector v).masked && (s.vector v).usable

/-- A notice entry is queued for a vector and its queued mark set (R167). -/
def State.queueNotice (s : State) (v : Fin 8) : State :=
  (s.enqueue { kind := .notice v, addr := noticeAddr (s.vector v).addr, bytes := wordBytes (s.vector v).data }).setVector v
    { s.vector v with queued := true }

/-- A cause fires (R167); while notices are disabled, and until the link is ATTACHED, it is dropped (R169). -/
def State.fire (s : State) (c : Cause) : State :=
  let v := s.nu.causeMap[c.number]
  if !s.nu.enable || s.pu.link != .attached then s
  else if s.deliverable v then (if (s.vector v).queued then s else s.queueNotice v)
  else s.setVector v { s.vector v with pending := true }

/-- A pending vector that is deliverable is released (R168). -/
def State.releaseVector (s : State) (v : Fin 8) : State :=
  if (s.vector v).pending && s.deliverable v then
    let t := s.setVector v { s.vector v with pending := false }
    if (s.vector v).queued then t else t.queueNotice v
  else s

/-- Every pending vector that is deliverable is released, in ascending vector number (R168). -/
def State.releaseVectors (s : State) : State := (List.finRange 8).foldl State.releaseVector s

/-- Every pending flag is cleared when the enable is off (R168). -/
def State.dropPending (s : State) : State :=
  if s.nu.enable then s
  else { s with nu := { s.nu with vectors := s.nu.vectors.map fun x => { x with pending := false } } }

/-! ## The Error Log -/

/-- The list with a recording appended while it holds fewer than 4 records (R171 step 3). -/
def ErrorLog.append (el : ErrorLog) (r : ErrorRecord) : ErrorLog :=
  if el.records.length < 4 then { el with records := el.records ++ [r] } else { el with overflow := true }

/-- What a recording changes in the log itself (R171 steps 1 to 4 and 6). -/
def ErrorLog.take (el : ErrorLog) (r : ErrorRecord) : ErrorLog :=
  let k := r.recording.kind
  let marked := { el with status := el.status ||| k.bit }
  if inKindSet el.masked k then marked
  else
    let listed := marked.append r
    { listed with first := listed.first.or (some k), hold := listed.hold || inKindSet el.holds k }

/-- A block hands the Error Log a recording (R171): the log takes it, ERROR_RECORDED fires unless the kind is masked, and
HOLD_CHANGED fires when the site enters HOLD. -/
def State.record (s : State) (r : Recording) : State :=
  let t := { s with el := s.el.take { recording := r, time := s.clock.siteTime, round := s.al.round } }
  if inKindSet s.el.masked r.kind then t
  else
    let u := t.fire .errorRecorded
    if t.el.hold && !s.el.hold then u.fire .holdChanged else u

/-- Some kind has its status set, is unmasked and has severity HOLD (R173, R175, R177). -/
def ErrorLog.mustHold (el : ErrorLog) : Bool := (el.status &&& ~~~el.masked &&& el.holds) != 0

/-! ## Usability of vectors -/

/-- VECTOR_FAULT is recorded for a vector (R166). -/
def State.vectorFault (s : State) (v : Fin 8) : State :=
  s.record { kind := .vectorFault, addr := some (field (noticeAddr (s.vector v).addr)), detail := field v.val }

/-- Every vector's usability as the windows now stand, nothing recorded. -/
def State.judgeUsable (s : State) : State :=
  { s with nu := { s.nu with vectors := s.nu.vectors.map fun x => { x with usable := s.addrUsable x.addr } } }

/-- Usability judged again on a new geometry (R166): a vector that turns from usable to unusable records VECTOR_FAULT,
and pending vectors that become deliverable are released (R168). Where one change makes several vectors unusable the spec
orders neither their records nor the releases: the model judges every vector first, then records in ascending vector
number, then releases (the model's choice, log 28). -/
def State.windowsChanged (s : State) : State :=
  ((List.finRange 8).foldl (fun t v => if (s.vector v).usable && !(t.vector v).usable then t.vectorFault v else t)
    s.judgeUsable).releaseVectors

/-! ## The Battery Account's event -/

/-- The state by the sign of a driven setpoint (R94). -/
def batteryStateOf (setpoint : Int) : BatteryState :=
  if 0 < setpoint then .charging else if setpoint < 0 then .discharging else .idle

/-- The account with at-reserve judged (R91). -/
def BatteryAccount.judged (b : BatteryAccount) : BatteryAccount :=
  { b with atReserve := b.calibrated && decide (b.eb ≤ b.reserve) }

/-- One event of the Battery Account (R100): the account after it, at-reserve judged, with BATTERY_EVENT fired once and
the last event record replaced when the event gave a reason. -/
def State.batteryEvent (s : State) (b : BatteryAccount) : State :=
  let n := b.judged
  let r : BatteryReasons :=
    { state := n.state != s.ba.state, reserve := n.atReserve != s.ba.atReserve, calibrated := n.calibrated && !s.ba.calibrated }
  if r.state || r.reserve || r.calibrated then
    { s with ba := { n with lastEvent := some { reasons := r, stateAfter := n.state, time := s.clock.siteTime, round := s.al.round } } }.fire
      .batteryEvent
  else { s with ba := n }

end Sys2Proof.Machine
end

