-- ==== Sys2Proof/Machine/Command.lean ====
section
/-! DEFINITION. The Command Unit (spec/08 8.1 to 8.5): fetching, executing and replying, shared by every ring command,
and the rows UNKNOWN_COMMAND and FETCH_READ_COMPLETE. -/

namespace Sys2Proof.Machine

/-- The address of the slot of a ring position: slot i mod 8 (R157). -/
def slotAddr (position : BitVec 4) : Nat := Config.anchorBase + Config.ringOffset + 64 * (position.toNat % 8)

/-- The reads of a command fetch (R159): words 0..7, then words 8..11. -/
def fetchRead (position : BitVec 4) (k : Nat) : PartRead :=
  if k = 0 then { kind := .fetch 0, addr := slotAddr position, count := 8 }
  else { kind := .fetch 1, addr := slotAddr position + 32, count := 4 }

/-- A fetch begins when the link is ATTACHED, the CU is IDLE and a command is pending (R159). -/
def State.tryFetch (s : State) : State :=
  if s.pu.link = .attached ∧ s.cu.step = .idle ∧ s.cu.post ≠ s.cu.taken then
    { s with
      cu := { s.cu with step := .fetching s.cu.taken [] }
      pu := { s.pu with partRead := some (fetchRead s.cu.taken 0) } }
  else s

/-- The sixteen bytes of a reply (R161, spec/11 11.3): words 12..15 of the slot. -/
def replyBytes (tag : BitVec 16) (r : Reply) : List Byte :=
  leBytes 1 r.status ++ leBytes 1 r.reasonCode ++ leBytes 2 tag.toNat ++ wordBytes r.first ++ wordBytes r.second ++ leBytes 4 0

/-- The CU composes a reply, queues it for words 12..15 of the slot and enters REPLYING (R161). -/
def State.queueReply (s : State) (position : BitVec 4) (tag : BitVec 16) (r : Reply) : State :=
  let t := s.enqueue { kind := .reply false, addr := slotAddr position + 48, bytes := replyBytes tag r }
  { t with cu := { t.cu with step := .replying position } }

/-- Execution of a command has had its effect: the reply is queued, or the CU stays EXECUTING until the settings
operation it requested ends (R160, R161). -/
def State.endExecution (s : State) (position : BitVec 4) (words : List Word) (reply : Option Reply) : State :=
  match reply with
  | some r => s.queueReply position (slotTag words) r
  | none => { s with cu := { s.cu with step := .executing position words true } }

/-- A ring command executes (R160): the CU is EXECUTING a command it has not yet handed over, and the words it holds are
this command. The owning block takes it as one event. Anything else is no occasion for it (log 2, log 11). -/
def State.ringCommand (s : State) (c : Instr) (effect : State → State × Option Reply) : State :=
  match s.cu.step with
  | .executing position words false =>
    if decodeCommand words = c then (effect s).1.endExecution position words (effect s).2 else s
  | .idle | .fetching .. | .executing .. | .replying _ => s

/-- A code that names no command: refused, nothing else changed (R160). -/
def unknownEffect (s : State) : State × Option Reply := (s, some (.refused .unknownCommand 0))

/-- UNKNOWN_COMMAND (R160). -/
def execUnknownCommand (code : Byte) (s : State) : Host.Outcome State Fault Refusal :=
  .next (s.ringCommand (.unknownCommand code) unknownEffect)

/-- MEMORY_FAULT recorded with an address and a detail code (R153). -/
def State.memoryFault (s : State) (addr detail : Nat) : State :=
  s.record { kind := .memoryFault, addr := some (field addr), detail := field detail }

/-- A part-side read is requested of the arbiter (R151). -/
def State.requestRead (s : State) (r : PartRead) : State := { s with pu := { s.pu with partRead := some r } }

/-- The M-port becomes free. -/
def State.freePort (s : State) : State := { s with pu := { s.pu with mport := .free } }

/-- The words of a read, as many as it asked for: a word that the completion does not carry is 0, and one beyond the request is
dropped (R143 has one for each; the model's choice, log 42). -/
def readWords (n : Nat) (data : List Word) : List Word := (List.range n).map (wordAt data)

/-- A fetch read completed OK: its words are kept, and the second read is requested or the CU enters EXECUTING (R159). -/
def State.takeFetched (s : State) (k : Nat) (data : List Word) : State :=
  match s.cu.step with
  | .fetching position words =>
    if k = 0 then
      { s with cu := { s.cu with step := .fetching position (readWords 8 data) } }.requestRead (fetchRead position 1)
    else { s with cu := { s.cu with step := .executing position (words ++ readWords 4 data) false } }
  | .idle | .executing .. | .replying _ => s

/-- A fetch read failed its third attempt: the command is skipped with a FETCH_FAULT reply (R162). -/
def State.skipFetch (s : State) : State :=
  match s.cu.step with
  | .fetching position _ => s.queueReply position 0 .fetchFault
  | .idle | .executing .. | .replying _ => s

/-- FETCH_READ_COMPLETE (R159, R153, R162): a discarded read changes nothing further (R163). -/
def execFetchReadComplete (ok : Bool) (data : List Word) (s : State) : Host.Outcome State Fault Refusal :=
  match s.pu.mport with
  | .read { kind := .fetch k, addr := a, count := n, attempts := m } discard =>
    let t := s.freePort
    if discard then .next t
    else if ok then .next (t.takeFetched k data)
    else if m + 1 < Config.attempts then .next (t.requestRead { kind := .fetch k, addr := a, count := n, attempts := m + 1 })
    else .next ((t.memoryFault a 5).skipFetch)
  | .read { kind := .sweep _, addr := _, count := _, attempts := _ } _ => .next s
  | .free | .controller | .entry => .next s

/-- The CU takes the completion of its reply (R161): the taken index advances, REPLY_READY fires, and the next pending
command is fetched. The report of a reply left over from before a CRST changes nothing (R163). -/
def State.replyComplete (s : State) (orphan : Bool) : State :=
  if orphan then s
  else
    let t := { s with cu := { s.cu with taken := s.cu.taken + 1 } }.fire .replyReady
    { t with cu := { t.cu with step := .idle } }.tryFetch

/-- A post request (R158): the value is judged against the indices as they stand. -/
def State.postRequest (s : State) (v : Word) : State :=
  let ahead := (v.toNat + 16 - s.cu.taken.toNat) % 16
  let pending := (s.cu.post - s.cu.taken).toNat
  if v.toNat ≤ 15 ∧ pending ≤ ahead ∧ ahead ≤ 8 then
    { s with cu := { s.cu with post := BitVec.ofNat 4 v.toNat } }.tryFetch
  else
    s.record { kind := .commandOverrun, addr := some (field (Config.anchorBase + Config.postOffset)), data := some v,
               detail := field s.cu.taken.toNat }

end Sys2Proof.Machine
end

