-- ==== Sys2Proof/Machine/Receipt.lean ====
section
/-! DEFINITION. The Receipt Writer (spec/06): free count, low water, reservation, issue, the receipt record and the chain,
completion of a receipt entry, and the rows SESSION_CLOSED_REPORT, COLLECT and SET_RECEIPT_WINDOW. -/

namespace Sys2Proof.Machine

/-- F = N - R - U (R119). -/
def ReceiptWriter.freeCount (r : ReceiptWriter) : Nat := r.geometry.slots - r.reserved - r.uncollected

/-- RING_LOW judged on a fall of the free count (R137): it fires once and the mark is disarmed. -/
def State.judgeFall (s : State) : State :=
  if s.rw.armed && decide (s.rw.freeCount ≤ s.rw.geometry.lowWater) then
    { s with rw := { s.rw with armed := false } }.fire .ringLow
  else s

/-- The mark judged on a rise of the free count (R137). -/
def ReceiptWriter.judgeRise (r : ReceiptWriter) : ReceiptWriter :=
  { r with armed := r.armed || decide (r.geometry.lowWater < r.freeCount) }

/-- The mark judged on a new geometry, no cause fired (R137). -/
def ReceiptWriter.judgeGeometry (r : ReceiptWriter) : ReceiptWriter :=
  { r with armed := decide (r.geometry.lowWater < r.freeCount) }

/-- A reservation can be granted (R120). -/
def ReceiptWriter.canReserve (r : ReceiptWriter) : Bool :=
  r.freeCount != 0 && r.lastIssued + r.reserved != wordMax

/-- A granted reservation (R120). -/
def State.reserve (s : State) : State := { s with rw := { s.rw with reserved := s.rw.reserved + 1 } }.judgeFall

/-- The flags byte of a receipt (R127, spec/11 11.4). -/
def Session.receiptFlags (x : Session) : Nat := bits [x.timeUnset, x.fault, decide (0 < x.tallies.overQuota)]

/-- Bytes 0..59 of a receipt record (R126, spec/11 11.4). -/
def receiptBody (bay : Fin 12) (x : Session) (epoch : Word) (sequence : Nat) : List Byte :=
  leBytes 1 bay.val ++ leBytes 1 (classCode x.cls) ++ leBytes 1 (stopCode x.stopCause) ++ leBytes 1 x.receiptFlags ++
  wordBytes epoch ++ leBytes 4 sequence ++ wordBytes x.number ++ wordBytes x.startTime ++ wordBytes (x.stopTime.getD 0) ++
  leBytes 4 x.tallies.total ++ leBytes 4 x.tallies.solar ++ leBytes 4 x.tallies.battery ++ leBytes 4 x.tallies.grid ++
  leBytes 4 x.tallies.overQuota ++ leBytes 16 x.reference.toNat

/-- A receipt's check: the CRC-32 of the chain value before it and its first 60 bytes (R130). -/
def receiptCheck (chain : Word) (body : List Byte) : Word := crc32 (wordBytes chain ++ body)

/-- The Receipt Writer issues a bay's receipt from its session record (R122). -/
def State.issue (s : State) (b : Fin 12) : State :=
  let r := s.rw
  let sequence := r.lastIssued + 1
  let body := receiptBody b (s.bay b).session r.epoch sequence
  let check := receiptCheck r.chain body
  { s with rw := { r with
      reserved := r.reserved - 1, uncollected := r.uncollected + 1, issuing := r.issuing + 1, lastIssued := sequence,
      nextSlot := (r.nextSlot + 1) % r.geometry.slots, chain := check } }.enqueue
    { kind := .receipt b sequence check, addr := r.geometry.base.getD 0 + r.nextSlot * 64, bytes := body ++ wordBytes check }

/-- A receipt entry's completion (R131, R132): an abandonment is counted, the bay is handed the report, and RECEIPT_ISSUED
fires. -/
def State.receiptComplete (s : State) (b : Fin 12) (sequence : Nat) (check : Word) (abandoned : Bool) : State :=
  let t := if abandoned then
      { s with rw := { s.rw with abandoned := saturate 65535 (s.rw.abandoned + 1), lastAbandoned := some (sequence, check) } }
    else s
  (t.onBay b fun x => { x with receiptFinished := true }).fire .receiptIssued

/-- A bay's report that its session has closed waits to be taken (R125). -/
def State.closedReportDue (s : State) (b : Fin 12) : Bool := decide (0 < (s.bay b).closedReports)

/-- SESSION_CLOSED_REPORT (R125): the report is taken and I falls by 1. -/
def execSessionClosedReport (b : Fin 12) (s : State) : Host.Outcome State Fault Refusal :=
  if s.closedReportDue b then
    .next { s.onBay b fun x => { x with closedReports := x.closedReports - 1 } with
      rw := { s.rw with issuing := s.rw.issuing - 1 } }
  else .next s

/-- The effect of COLLECT (R135). -/
def collectEffect (sequence : Word) (s : State) : State × Option Reply :=
  let q := sequence.toNat
  if q < s.rw.lastCollected ∨ s.rw.lastIssued < q then (s, some (.refused .badArgument 0))
  else
    let r := if q = s.rw.lastCollected then s.rw
      else { s.rw with lastCollected := q, uncollected := s.rw.lastIssued - q }.judgeRise
    ({ s with rw := r }, some (.done (field r.uncollected) (field r.freeCount)))

/-- COLLECT (R135). -/
def execCollect (sequence : Word) (s : State) : Host.Outcome State Fault Refusal :=
  .next (s.ringCommand (.collect sequence) (collectEffect sequence))

/-- The geometry a SET_RECEIPT_WINDOW carries: with N of 0 the base is not kept (R138, R139). -/
def receiptGeometryOf (base slots lowWater : Nat) : ReceiptGeometry :=
  { base := if slots = 0 then none else some base, slots := slots, lowWater := lowWater }

/-- SET_RECEIPT_WINDOW's arguments are refused BAD_ARGUMENT (R138). -/
def receiptWindowBad (s : State) (base slots lowWater : Nat) : Bool :=
  if slots = 0 then lowWater != 0
  else !receiptFits base slots lowWater || windowsMeet (receiptGeometryOf base slots lowWater) s.sw

/-- The Receipt Writer with a new geometry (R139 steps 1 to 3). -/
def ReceiptWriter.takeGeometry (r : ReceiptWriter) (g : ReceiptGeometry) : ReceiptWriter :=
  { r with geometry := g, nextSlot := 0, windowFirst := if r.lastIssued = wordMax then 0 else r.lastIssued + 1 }.judgeGeometry

/-- The effect of SET_RECEIPT_WINDOW (R138, R139). -/
def setReceiptWindowEffect (base slots lowWater : Word) (s : State) : State × Option Reply :=
  if receiptWindowBad s base.toNat slots.toNat lowWater.toNat then (s, some (.refused .badArgument 0))
  else if s.rw.reserved != 0 || s.rw.uncollected != 0 || s.rw.issuing != 0 then (s, some (.refused .ringInUse 0))
  else
    let r := s.rw.takeGeometry (receiptGeometryOf base.toNat slots.toNat lowWater.toNat)
    ({ s with rw := r }.windowsChanged, some (.done (field r.windowFirst) 0))

/-- SET_RECEIPT_WINDOW (R138). -/
def execSetReceiptWindow (base slots lowWater : Word) (s : State) : Host.Outcome State Fault Refusal :=
  .next (s.ringCommand (.setReceiptWindow base slots lowWater) (setReceiptWindowEffect base slots lowWater))

end Sys2Proof.Machine
end

