-- ==== Sys2Proof/Machine/Bay.lean ====
section
/-! DEFINITION. The Bay Controllers (spec/02, and the attribution of spec/05 5.1 to 5.3): outputs, event flags, the
feedback watch, attribution, entering STOPPING, ISSUING and RELEASE_PENDING, counting pulses, taking a grant, and the
rows that a bay's lines, timers and reports bring. -/

namespace Sys2Proof.Machine

/-! ## Outputs (R27) -/

/-- The cable lock (R27): engaged from AUTHORISE until ISSUING, and in FAULTED while PLUG is taken high. -/
def Bay.lock (x : Bay) : Bool :=
  match x.state with
  | .authorised | .paused | .charging | .releasePending | .stopping => true
  | .faulted => x.plug == some true
  | .vacant | .plugged | .issuing | .ended => false

/-- The light pattern of a state (R27). -/
def BayState.light : BayState → Light
  | .vacant => .off | .plugged => .greenBlink | .authorised => .green | .paused => .greenBlink | .charging => .green
  | .releasePending => .amberBlink | .stopping => .amberBlink | .issuing => .amber | .ended => .amber | .faulted => .red

/-- The light shown: the maintenance pattern in place of the state's (R27). -/
def Bay.light (x : Bay) : Light := x.maintenance.getD x.state.light

/-! ## Event flags and the feedback watch -/

/-- An event flag is set and SESSION_EVENT fires (R54). -/
def State.raise (s : State) (b : Fin 12) (f : EventFlag) : State :=
  (s.onBay b fun x => { x with events := x.events ||| f.bit }).fire .sessionEvent

/-- The feedback watch judged after an event (R49): the timer starts at a fresh disagreement of drive and FEEDBACK and
stops when they agree; one disagreement gives one finding (log 9); in FAULTED, and while the watch does not run, there
is none. -/
def Bay.watch (running : Bool) (x : Bay) : Bay :=
  if !running || x.state == .faulted || x.drive == x.feedback then
    { x with feedbackTimer := none, feedbackFound := false }
  else if x.feedbackFound then { x with feedbackTimer := none }
  else { x with feedbackTimer := some (x.feedbackTimer.getD Config.feedbackMs) }

/-- The watch of a bay, which runs from the end of STARTING onward (R49). -/
def State.watchFeedback (s : State) (b : Fin 12) : State := s.onBay b (Bay.watch (s.pu.link != .starting))

/-! ## Attribution (R105 to R108) -/

/-- The session pulses that attribution enters: reduced so that the total does not exceed its range (R107). -/
def Bay.attributed (x : Bay) : Nat := min x.sessionPulses (wordMax - x.session.tallies.total)

/-- The over-quota addition: the lesser of the round over-quota count and the session pulses entered (R105, R107). -/
def Bay.overQuotaAdded (x : Bay) : Nat := min x.roundOverQuota x.attributed

/-- The tallies after attributing the kept portions' split of the session pulses, or all of them as grid (R105, R106). -/
def Bay.splitTallies (x : Bay) : Tallies :=
  let e := x.attributed
  let k := x.keptPortions
  let sum := k.solar + k.battery + k.grid
  let split := x.keptSession == some x.session.number && decide (0 < sum)
  let solar := if split then e * k.solar / sum else 0
  let battery := if split then e * k.battery / sum else 0
  let t := x.session.tallies
  { total := t.total + e, solar := t.solar + solar, battery := t.battery + battery, grid := t.grid + (e - solar - battery),
    overQuota := t.overQuota + x.overQuotaAdded }

/-- A bay attributes its round (R105 to R108): with a session open and not yet ISSUING the tallies take the round's
pulses; in every case the round's counts become 0. -/
def Bay.attribute (x : Bay) : Bay :=
  let y := if x.state.countsPulses then { x with session := { x.session with tallies := x.splitTallies } } else x
  { y with roundOverQuota := 0, sessionPulses := 0, unownedPulses := 0 }

/-! ## Entering states -/

/-- Entry to ISSUING (R47): the lock releases and the light shows AMBER with the state, the stop time is set, the partial
round is taken from the MU (R9) and attributed (R108), and the receipt is issued (R122). -/
def State.enterIssuing (s : State) (b : Fin 12) : State :=
  let t := s.onBay b fun x =>
    let y := x.attribute
    { y with state := .issuing, stopDelayTimer := none, session := { y.session with stopTime := some s.clock.siteTime } }
  (t.onChannel (bayChannel b) fun c => { c with round := 0 }).issue b

/-- The condition of R47: a STOPPING bay whose drive is open, with FEEDBACK open or the session's FAULT set. -/
def Bay.readyToIssue (x : Bay) : Bool := x.state == .stopping && !x.drive && (!x.feedback || x.session.fault)

/-- R47 judged, and the feedback watch after it. -/
def State.judgeIssuing (s : State) (b : Fin 12) : State :=
  (if (s.bay b).readyToIssue then s.enterIssuing b else s).watchFeedback b

/-- Entry to STOPPING (R45), R47 judged after it: the stop-delay timer starts when the contactor drive is closed. -/
def State.enterStopping (s : State) (b : Fin 12) (cause : StopCause) : State :=
  let t := s.onBay b fun x => { x with
    state := .stopping, allowance := 0, idleTimer := none, releaseTimer := none
    stopDelayTimer := if x.drive then some (1000 * x.config.stopDelay) else none
    session := { x.session with stopCause := some cause } }
  (t.raise b .stopped).judgeIssuing b

/-- The idle timer's start (R33): none when the idle timeout is 0. -/
def BayConfig.idleStart (c : BayConfig) : Option Nat := if c.idleTimeout = 0 then none else some (1000 * c.idleTimeout)

/-- Entry to AUTHORISED with the drive open, from READY low or RELEASE_CANCEL (R31, R41): the idle timer starts (R33). -/
def Bay.toAuthorised (x : Bay) : Bay :=
  { x with state := .authorised, drive := false, allowance := 0, releaseTimer := none, idleTimer := x.config.idleStart }

/-- Entry to PAUSED with the drive closed, from READY high or RELEASE_CANCEL (R31, R41). -/
def Bay.toPaused (x : Bay) : Bay :=
  { x with state := .paused, drive := true, allowance := 0, releaseTimer := none, idleTimer := none }

/-- Entry to RELEASE_PENDING by a press (R38). -/
def State.enterReleasePending (s : State) (b : Fin 12) : State :=
  let t := s.onBay b fun x => { x with
    state := .releasePending, allowance := 0, idleTimer := none, releaseTimer := some (1000 * x.config.releaseWindow) }
  (t.raise b .releasePressed).fire .releaseRequest

/-! ## Plug, ready and press events -/

/-- A plug-in event (R28); in FAULTED the lock follows the taken level (R27). -/
def State.plugIn (s : State) (b : Fin 12) : State :=
  let t := s.raise b .plugIn
  if (s.bay b).state = .vacant then t.onBay b fun x => { x with state := .plugged } else t

/-- A plug-out event (R28). -/
def State.plugOut (s : State) (b : Fin 12) : State :=
  let t := s.raise b .plugOut
  match (s.bay b).state with
  | .authorised | .paused | .charging | .releasePending => t.enterStopping b .plugLost
  | .plugged | .ended => t.onBay b fun x => { x with state := .vacant }
  | .vacant | .stopping | .issuing | .faulted => t

/-- READY high (R31): an AUTHORISED bay closes its drive and pauses. -/
def State.readyHigh (s : State) (b : Fin 12) : State :=
  if (s.bay b).state = .authorised then (s.onBay b Bay.toPaused).watchFeedback b else s

/-- READY low (R31, R39, R46). -/
def State.readyLow (s : State) (b : Fin 12) : State :=
  match (s.bay b).state with
  | .paused | .charging => (s.onBay b Bay.toAuthorised).watchFeedback b
  | .releasePending => (s.onBay b fun x => { x with drive := false }).watchFeedback b
  | .stopping =>
    if (s.bay b).drive then (s.onBay b fun x => { x with drive := false, stopDelayTimer := none }).judgeIssuing b else s
  | .vacant | .plugged | .authorised | .issuing | .ended | .faulted => s

/-- A press event (R38). -/
def State.press (s : State) (b : Fin 12) : State :=
  match (s.bay b).state with
  | .authorised | .paused | .charging =>
    if (s.bay b).maintenance.isNone then s.enterReleasePending b
    else (s.onBay b fun x => { x with deferredRelease := true }).raise b .releaseDeferred
  | .releasePending => s
  | .vacant | .plugged | .stopping | .issuing | .ended | .faulted => s.raise b .releasePressed

/-- No state machine event is taken during STARTING (R23). -/
def State.started (s : State) : Bool := s.pu.link != .starting

/-! ## Rows: the bay's lines and their filters -/

/-- PLUG_LINE_CHANGE (R20): a change of the line starts or restarts its stability timer. -/
def execPlugLineChange (b : Fin 12) (high : Bool) (s : State) : Host.Outcome State Fault Refusal :=
  if (s.bay b).plugLine = high then .next s
  else .next (s.onBay b fun x => { x with plugLine := high, plugTimer := some Config.lineFilterMs })

/-- READY_LINE_CHANGE (R21). -/
def execReadyLineChange (b : Fin 12) (high : Bool) (s : State) : Host.Outcome State Fault Refusal :=
  if (s.bay b).readyLine = high then .next s
  else .next (s.onBay b fun x => { x with readyLine := high, readyTimer := some Config.lineFilterMs })

/-- RELEASE_LINE_CHANGE (R22): the 50 ms measurement starts again. -/
def execReleaseLineChange (b : Fin 12) (high : Bool) (s : State) : Host.Outcome State Fault Refusal :=
  if (s.bay b).releaseLine = high then .next s
  else .next (s.onBay b fun x => { x with releaseLine := high, releaseLineTimer := some Config.releaseFilterMs })

/-- PLUG_FILTER_EXPIRY (R20): a level that differs from the taken one is taken, as a plug-in or plug-out event from the
end of STARTING onward; an unset level counts as low, and its first low is no event. -/
def execPlugFilterExpiry (b : Fin 12) (s : State) : Host.Outcome State Fault Refusal :=
  let x := s.bay b
  if x.plugTimer = some 0 then
    let t := s.onBay b fun x => { x with plugTimer := none, plug := some x.plugLine }
    if !s.started || x.plug.getD false == x.plugLine then .next t
    else if x.plugLine then .next (t.plugIn b)
    else .next (t.plugOut b)
  else .next s

/-- READY_FILTER_EXPIRY (R21). -/
def execReadyFilterExpiry (b : Fin 12) (s : State) : Host.Outcome State Fault Refusal :=
  let x := s.bay b
  if x.readyTimer = some 0 then
    let t := s.onBay b fun x => { x with readyTimer := none, ready := x.readyLine }
    if !s.started || x.ready == x.readyLine then .next t
    else if x.readyLine then .next (t.readyHigh b)
    else .next (t.readyLow b)
  else .next s

/-- RELEASE_FILTER_EXPIRY (R22): a change to high is a press. -/
def execReleaseFilterExpiry (b : Fin 12) (s : State) : Host.Outcome State Fault Refusal :=
  let x := s.bay b
  if x.releaseLineTimer = some 0 then
    let t := s.onBay b fun x => { x with releaseLineTimer := none, release := x.releaseLine }
    if s.started && !x.release && x.releaseLine then .next (t.press b) else .next t
  else .next s

/-- FEEDBACK_CHANGE (R49, R47): the timer starts or stops, and an opening may take a STOPPING bay to ISSUING. -/
def execFeedbackChange (b : Fin 12) (closed : Bool) (s : State) : Host.Outcome State Fault Refusal :=
  if (s.bay b).feedback = closed then .next s
  else .next ((s.onBay b fun x => { x with feedback := closed }).judgeIssuing b)

/-! ## Rows: the bay's timers -/

/-- The detail code of a contactor fault (R49): 1 welded, 2 failed to close. -/
def Bay.faultDetail (x : Bay) : Nat := if x.drive then 2 else 1

/-- A contactor fault acts on the bay by its state (R50). -/
def State.contactorFault (s : State) (b : Fin 12) : State :=
  let faulted := s.onBay b fun x => { x with drive := false, session := { x.session with fault := true } }
  match (s.bay b).state with
  | .authorised | .paused | .charging | .releasePending => faulted.enterStopping b .contactorFault
  | .stopping => faulted.judgeIssuing b
  | .issuing => s.onBay b fun x => { x with weldMark := true }
  | .vacant | .plugged | .ended => (s.onBay b fun x => { x with state := .faulted }).watchFeedback b
  | .faulted => s

/-- FEEDBACK_TIMER_EXPIRY (R49, R50): CONTACTOR_FAULT is recorded, FAULT is set, and the bay is acted on. -/
def execFeedbackTimerExpiry (b : Fin 12) (s : State) : Host.Outcome State Fault Refusal :=
  let x := s.bay b
  if x.feedbackTimer = some 0 then
    let t := s.onBay b fun x => { x with feedbackTimer := none, feedbackFound := true }
    .next (((t.record { kind := .contactorFault, bay := some b, detail := field x.faultDetail }).raise b .fault).contactorFault b)
  else .next s

/-- IDLE_TIMER_EXPIRY (R33). -/
def execIdleTimerExpiry (b : Fin 12) (s : State) : Host.Outcome State Fault Refusal :=
  if (s.bay b).idleTimer = some 0 ∧ (s.bay b).state = .authorised then .next (s.enterStopping b .idle) else .next s

/-- RELEASE_TIMER_EXPIRY (R42). -/
def execReleaseTimerExpiry (b : Fin 12) (s : State) : Host.Outcome State Fault Refusal :=
  if (s.bay b).releaseTimer = some 0 ∧ (s.bay b).state = .releasePending then .next (s.enterStopping b .release) else .next s

/-- STOP_DELAY_EXPIRY (R46): the drive of the STOPPING bay opens, and R47 is judged. -/
def execStopDelayExpiry (b : Fin 12) (s : State) : Host.Outcome State Fault Refusal :=
  if (s.bay b).stopDelayTimer = some 0 ∧ (s.bay b).state = .stopping then
    .next ((s.onBay b fun x => { x with stopDelayTimer := none, drive := false }).judgeIssuing b)
  else .next s

/-! ## Rows: reports and faults handed to the bay -/

/-- The state in which a bay leaves ISSUING (R48). -/
def Bay.afterIssuing (x : Bay) : BayState :=
  if x.session.fault || x.weldMark then .faulted else if x.plug == some true then .ended else .vacant

/-- The report that its receipt is finished waits at an ISSUING bay (R48). -/
def Bay.exitDue (x : Bay) : Bool := x.state == .issuing && x.receiptFinished

/-- ISSUING_EXIT (R48): RECEIPT_ISSUED is set, the bay leaves ISSUING, the weld mark clears, and the closing report goes to
the Receipt Writer (R125). -/
def execIssuingExit (b : Fin 12) (s : State) : Host.Outcome State Fault Refusal :=
  if (s.bay b).exitDue then
    .next (((s.raise b .receiptIssued).onBay b fun x => { x with
      state := x.afterIssuing, weldMark := false, receiptFinished := false, closedReports := x.closedReports + 1 }).watchFeedback b)
  else .next s

/-- METER_FAULT_EVENT (R53): an event the MU has handed over is taken. -/
def execMeterFaultEvent (b : Fin 12) (s : State) : Host.Outcome State Fault Refusal :=
  if (s.bay b).meterFaults = 0 then .next s
  else
    let t := s.onBay b fun x => { x with meterFaults := x.meterFaults - 1 }
    if s.started && (s.bay b).state.isActive then .next (t.enterStopping b .meterFault) else .next t

/-! ## Pulses and grants -/

/-- The quota's part of a pulse at a bay whose session it counts against (R34). -/
def State.countQuota (s : State) (b : Fin 12) : State :=
  let x := s.bay b
  if x.session.quota = 0 then s
  else if x.session.remaining = 0 then s.onBay b fun x => { x with roundOverQuota := countOn s.clock.ms x.roundOverQuota }
  else
    let t := s.onBay b fun x => { x with session := { x.session with remaining := x.session.remaining - 1 } }
    if x.session.remaining = 1 then
      let u := t.raise b .quotaReached
      if x.state.isActive then u.enterStopping b .quota else u
    else t

/-- The Bay Controller takes an accepted pulse of its channel (R34, R104). -/
def State.bayPulse (s : State) (b : Fin 12) : State :=
  if (s.bay b).state.countsPulses then
    (s.onBay b fun x => { x with sessionPulses := countOn s.clock.ms x.sessionPulses }).countQuota b
  else s.onBay b fun x => { x with unownedPulses := countOn s.clock.ms x.unownedPulses }

/-- The grant a plan's part gives a bay: used only when it names the session open there (R61). A bay that left PAUSED or CHARGING
after the latch and is PAUSED again before the boundary, its session still open, uses the grant staged for it, as the table of
R32 and R61 read; a sentence of R31 and one of R41 can be read as 0 W until a plan latched later (the model's choice, log 40). -/
def Bay.usedGrant (x : Bay) (p : PlanBay) : Nat :=
  if x.state.isOpen && p.session == some x.session.number then p.grant else 0

/-- A bay after taking a grant (R32). -/
def Bay.takeGrant (x : Bay) (grant : Nat) : Bay :=
  match x.state with
  | .paused => if 0 < grant then { x with state := .charging, allowance := grant, session := { x.session with chargedMark := true } } else x
  | .charging => if 0 < grant then { x with allowance := grant } else { x with state := .paused, allowance := 0 }
  | .vacant | .plugged | .authorised | .releasePending | .stopping | .issuing | .ended | .faulted => x

/-- The first entry to CHARGING of a session (R32). -/
def Bay.startsCharging (x : Bay) (grant : Nat) : Bool := x.state == .paused && decide (0 < grant) && !x.session.chargedMark

/-- A bay takes its part of the plan applied at a boundary (R61): it attributes the ending round, keeps the new portions,
and takes the grant; an allowance that passes from 0 to above 0 moves the silence reference and clears the silent flag
(R12, R13). -/
def State.takePlan (s : State) (b : Fin 12) (p : PlanBay) : State :=
  let x := (s.bay b).attribute
  let kept := { x with keptPortions := p.portions, keptSession := p.session }
  let grant := kept.usedGrant p
  let y := kept.takeGrant grant
  let t := s.setBay b y
  let u := if x.allowance = 0 ∧ 0 < y.allowance then
      t.onChannel (bayChannel b) fun c => { c with silenceRef := s.clock.ms, silent := false }
    else t
  if kept.startsCharging grant then u.raise b .chargingStarted else u

end Sys2Proof.Machine
end

