-- ==== Sys2Proof/Machine/Session.lean ====
section
/-! DEFINITION. The commands of the Bay Controllers (spec/02 2.2, 2.5 to 2.10, 2.12): SET_BAY, AUTHORISE, the four that
name a session, MAINTENANCE in its two settings, and CLEAR_BAY. -/

namespace Sys2Proof.Machine

/-- A refusal with no result, nothing changed. -/
def refuse (r : Reason) (s : State) : State × Option Reply := (s, some (.refused r 0))

/-- DONE with no result. -/
def finish (s : State) : State × Option Reply := (s, some Reply.plain)

/-! ## AUTHORISE -/

/-- The number after a session number: after 4,294,967,295 comes 1 (R26). -/
def sessionAfter (n : Word) : Word := if n = 0xFFFFFFFF then 1 else n + 1

/-- The checks of R29 that the bay makes, in their order, the Receipt Writer's last. -/
def State.authoriseRefusal (s : State) (b : Fin 12) : Option Reason :=
  if s.el.hold then some .held
  else if (s.bay b).maintenance.isSome then some .wrongState
  else if (s.bay b).state = .vacant then some .notPlugged
  else if (s.bay b).state ≠ .plugged ∧ (s.bay b).state ≠ .ended then some .wrongState
  else if !s.rw.canReserve then some .noSlot
  else none

/-- The session record that AUTHORISE fills (R30 step 2). -/
def State.newSession (s : State) (c : SessionClass) (quota : Nat) (reference : BitVec 128) : Session :=
  { number := s.nextSession, cls := some c, quota := quota, remaining := quota, reference := reference,
    startTime := s.clock.siteTime, timeUnset := s.clock.timeUnset }

/-- The bay with its new session (R30 steps 1 to 4). -/
def Bay.open (x : Bay) (n : Session) : Bay :=
  let y := { x with session := n, lastSession := some n.number, roundOverQuota := 0 }
  if x.ready then y.toPaused else y.toAuthorised

/-- AUTHORISE past every check: the slot is reserved (R120) and the session opens (R30). -/
def State.authorised (s : State) (b : Fin 12) (c : SessionClass) (quota : Nat) (reference : BitVec 128) : State :=
  let t := { s.reserve with nextSession := sessionAfter s.nextSession }
  ((t.onBay b fun x => x.open (s.newSession c quota reference)).raise b .authorised).watchFeedback b

/-- The effect of AUTHORISE (R29, R30). -/
def authoriseEffect (bay : Byte) (cls quota : Word) (reference : BitVec 128) (s : State) : State × Option Reply :=
  match bayOf bay.toNat, SessionClass.ofCode cls.toNat with
  | some b, some c =>
    if Config.quotaMax < quota.toNat then refuse .badArgument s
    else match s.authoriseRefusal b with
      | some r => refuse r s
      | none => (s.authorised b c quota.toNat reference, some (.done s.nextSession 0))
  | none, _ => refuse .badArgument s
  | some _, none => refuse .badArgument s

/-- AUTHORISE (R29). -/
def execAuthorise (bay : Byte) (cls quota : Word) (reference : BitVec 128) (s : State) : Host.Outcome State Fault Refusal :=
  .next (s.ringCommand (.authorise bay cls quota reference) (authoriseEffect bay cls quota reference))

/-! ## Commands that name a session -/

/-- A command that names a bay and a session (R36): the bay number, then the session number against the last session
number and the state; past both, it acts. -/
def sessionCommand (bay : Byte) (session : Word) (act : Fin 12 → State × Option Reply) (s : State) : State × Option Reply :=
  match bayOf bay.toNat with
  | none => refuse .badArgument s
  | some b =>
    if (s.bay b).lastSession ≠ some session then refuse .staleSession s
    else if (s.bay b).state.isActive then act b
    else (s, some (.refused .tooLate (field (stopCode (s.bay b).session.stopCause))))

/-- The effect of STOP (R37). -/
def stopEffect (bay : Byte) (session : Word) (s : State) : State × Option Reply :=
  sessionCommand bay session (fun b => finish (s.enterStopping b .command)) s

/-- STOP (R37). -/
def execStop (bay : Byte) (session : Word) (s : State) : Host.Outcome State Fault Refusal :=
  .next (s.ringCommand (.stop bay session) (stopEffect bay session))

/-- EXTEND_QUOTA past the session check (R35). -/
def State.extendQuota (s : State) (b : Fin 12) (amount : Nat) : State × Option Reply :=
  let n := (s.bay b).session
  if n.quota = 0 then refuse .wrongState s
  else if Config.quotaMax < n.quota + amount then refuse .badArgument s
  else (s.onBay b fun x => { x with session := { n with quota := n.quota + amount, remaining := n.remaining + amount } },
    some (.done (field (n.quota + amount)) (field (n.remaining + amount))))

/-- The effect of EXTEND_QUOTA (R35). -/
def extendQuotaEffect (bay : Byte) (session amount : Word) (s : State) : State × Option Reply :=
  if amount = 0 then refuse .badArgument s
  else sessionCommand bay session (fun b => s.extendQuota b amount.toNat) s

/-- EXTEND_QUOTA (R35). -/
def execExtendQuota (bay : Byte) (session amount : Word) (s : State) : Host.Outcome State Fault Refusal :=
  .next (s.ringCommand (.extendQuota bay session amount) (extendQuotaEffect bay session amount))

/-- The effect of RELEASE_CONFIRM (R40). -/
def releaseConfirmEffect (bay : Byte) (session : Word) (s : State) : State × Option Reply :=
  sessionCommand bay session
    (fun b => if (s.bay b).state = .releasePending then finish (s.enterStopping b .release) else refuse .wrongState s) s

/-- RELEASE_CONFIRM (R40). -/
def execReleaseConfirm (bay : Byte) (session : Word) (s : State) : Host.Outcome State Fault Refusal :=
  .next (s.ringCommand (.releaseConfirm bay session) (releaseConfirmEffect bay session))

/-- A cancelled release (R41). -/
def State.cancelRelease (s : State) (b : Fin 12) : State :=
  (s.onBay b fun x => if x.ready then x.toPaused else x.toAuthorised).watchFeedback b

/-- The effect of RELEASE_CANCEL (R41). -/
def releaseCancelEffect (bay : Byte) (session : Word) (s : State) : State × Option Reply :=
  sessionCommand bay session
    (fun b => if (s.bay b).state = .releasePending then finish (s.cancelRelease b) else refuse .wrongState s) s

/-- RELEASE_CANCEL (R41). -/
def execReleaseCancel (bay : Byte) (session : Word) (s : State) : Host.Outcome State Fault Refusal :=
  .next (s.ringCommand (.releaseCancel bay session) (releaseCancelEffect bay session))

/-! ## MAINTENANCE -/

/-- The effect of MAINTENANCE with its setting on (R43). -/
def maintenanceOnEffect (bay : Byte) (pattern : Word) (s : State) : State × Option Reply :=
  match bayOf bay.toNat, Light.ofCode pattern.toNat with
  | some b, some l => finish (s.onBay b fun x => { x with maintenance := some l })
  | none, _ => refuse .badArgument s
  | some _, none => refuse .badArgument s

/-- MAINTENANCE_ON (R43). -/
def execMaintenanceOn (bay : Byte) (pattern : Word) (s : State) : Host.Outcome State Fault Refusal :=
  .next (s.ringCommand (.maintenanceOn bay pattern) (maintenanceOnEffect bay pattern))

/-- Maintenance ends at a bay, and a deferred press is replayed or discarded (R44). -/
def State.endMaintenance (s : State) (b : Fin 12) : State :=
  let x := s.bay b
  if x.maintenance.isNone then s
  else
    let t := s.onBay b fun x => { x with maintenance := none, deferredRelease := false }
    if x.deferredRelease && x.state.takesPress then t.enterReleasePending b else t

/-- The effect of MAINTENANCE with its setting off (R43, R44). -/
def maintenanceOffEffect (bay : Byte) (pattern : Word) (s : State) : State × Option Reply :=
  match bayOf bay.toNat, Light.ofCode pattern.toNat with
  | some b, some _ => finish (s.endMaintenance b)
  | none, _ => refuse .badArgument s
  | some _, none => refuse .badArgument s

/-- MAINTENANCE_OFF (R44). -/
def execMaintenanceOff (bay : Byte) (pattern : Word) (s : State) : Host.Outcome State Fault Refusal :=
  .next (s.ringCommand (.maintenanceOff bay pattern) (maintenanceOffEffect bay pattern))

/-! ## CLEAR_BAY and SET_BAY -/

/-- The effect of CLEAR_BAY (R52). -/
def clearBayEffect (bay : Byte) (s : State) : State × Option Reply :=
  match bayOf bay.toNat with
  | none => refuse .badArgument s
  | some b =>
    if (s.bay b).state ≠ .faulted ∨ (s.bay b).feedback then refuse .wrongState s
    else finish ((s.onBay b fun x => { x with state := if x.plug = some true then .plugged else .vacant }).watchFeedback b)

/-- CLEAR_BAY (R52). -/
def execClearBay (bay : Byte) (s : State) : Host.Outcome State Fault Refusal :=
  .next (s.ringCommand (.clearBay bay) (clearBayEffect bay))

/-- The pair part is present: bit 31 of its word (spec/11 11.3). -/
def pairPresent (pairWord : Word) : Bool := pairWord.getLsbD 31

/-- The bay number of the pair even member: bits 3..0 of its word. -/
def pairMember (pairWord : Word) : Nat := pairWord.toNat % 16

/-- The pair configuration after SET_BAY: the pair part's where it is present, else the present one (R25). -/
def State.pairAfter (s : State) (b : Fin 12) (cap pairWord : Word) : PairConfig :=
  if pairPresent pairWord then { cap := cap.toNat, evenIsOdd := pairMember pairWord % 2 == 1 } else s.pair (pairOf b)

/-- SET_BAY's values are refused BAD_ARGUMENT at a bay (R25 reason 1). -/
def State.setBayBad (s : State) (b : Fin 12) (c : BayConfig) (cap pairWord : Word) : Bool :=
  let resulting := (s.pairAfter b cap pairWord).cap
  !c.inRanges ||
  (pairPresent pairWord && (!capInRange cap.toNat || pairMember pairWord / 2 != (pairOf b).val)) ||
  !(resulting == 0 || max c.pmin (s.bay (partnerOf b)).config.pmin ≤ resulting)

/-- SET_BAY meets an open session (R25 reason 2). -/
def State.setBayOpen (s : State) (b : Fin 12) (pairWord : Word) : Bool :=
  (s.bay b).state.isOpen || (pairPresent pairWord && (s.bay (partnerOf b)).state.isOpen)

/-- The effect of SET_BAY (R25). -/
def setBayEffect (bay : Byte) (pmin pmax stopDelay releaseWindow idleTimeout cap pairWord : Word) (s : State) :
    State × Option Reply :=
  let c : BayConfig := { pmin := pmin.toNat, pmax := pmax.toNat, stopDelay := stopDelay.toNat,
                         releaseWindow := releaseWindow.toNat, idleTimeout := idleTimeout.toNat }
  match bayOf bay.toNat with
  | none => refuse .badArgument s
  | some b =>
    if s.setBayBad b c cap pairWord then refuse .badArgument s
    else if s.setBayOpen b pairWord then refuse .wrongState s
    else finish ((s.onBay b fun x => { x with config := c }).setPair (pairOf b) (s.pairAfter b cap pairWord))

/-- SET_BAY (R25). -/
def execSetBay (bay : Byte) (pmin pmax stopDelay releaseWindow idleTimeout cap pairWord : Word) (s : State) :
    Host.Outcome State Fault Refusal :=
  .next (s.ringCommand (.setBay bay pmin pmax stopDelay releaseWindow idleTimeout cap pairWord)
    (setBayEffect bay pmin pmax stopDelay releaseWindow idleTimeout cap pairWord))

end Sys2Proof.Machine
end

