-- ==== Sys2Proof/Machine/Battery.lean ====
section
/-! DEFINITION. The Battery Account (spec/04): pulses, the edges of its lines, the setpoint of an applied plan, SET_BATTERY,
and the rows of its lines. -/

namespace Sys2Proof.Machine

/-- A BATT_IN pulse of e watt-hours (R89). -/
def State.chargePulse (s : State) (e : Nat) : State :=
  s.batteryEvent { s.ba with eb := min s.ba.cap (s.ba.eb + e) }

/-- A BATT_OUT pulse of e watt-hours (R89). -/
def State.dischargePulse (s : State) (e : Nat) : State :=
  s.batteryEvent { s.ba with eb := min s.ba.cap (s.ba.eb - e) }

/-- A setpoint bounded by the configured limits (R93 step 3, R95). -/
def BatteryAccount.bounded (b : BatteryAccount) (setpoint : Int) : Int := max (-(b.dmax : Int)) (min b.cmax setpoint)

/-- The account driven at a setpoint that its limits bound: nothing while OFFLINE (R94, R95). -/
def BatteryAccount.drive (b : BatteryAccount) (setpoint : Int) : BatteryAccount :=
  if b.state = .offline then b
  else { b with setpoint := b.bounded setpoint, state := batteryStateOf (b.bounded setpoint) }

/-- The setpoint of the plan being applied is taken (R95). -/
def State.takeSetpoint (s : State) (setpoint : Int) : State := s.batteryEvent (s.ba.drive setpoint)

/-- The account with its driven setpoint brought to 0, IDLE unless OFFLINE (R94, R98). -/
def BatteryAccount.rest (b : BatteryAccount) : BatteryAccount :=
  { b with setpoint := 0, state := if b.state = .offline then .offline else .idle }

/-- A falling edge of BATT_READY (R96). -/
def State.battReadyFall (s : State) : State :=
  let t := if s.ba.setpoint = 0 then s
    else s.record { kind := .batteryLost, data := some (signedField s.ba.setpoint),
                    detail := if s.ba.state = .charging then 1 else 2 }
  t.batteryEvent { t.ba with setpoint := 0, state := .offline }

/-- A rising edge of BATT_READY (R97). -/
def State.battReadyRise (s : State) : State := s.batteryEvent { s.ba with setpoint := 0, state := .idle }

/-- A rising edge of BATT_FULL (R90, R98). -/
def State.battFullRise (s : State) : State :=
  let b := { s.ba with eb := s.ba.cap, calibrated := true }
  s.batteryEvent (if 0 < b.setpoint then b.rest else b)

/-- A rising edge of BATT_EMPTY (R90, R98). -/
def State.battEmptyRise (s : State) : State :=
  let b := { s.ba with eb := 0, calibrated := true }
  s.batteryEvent (if b.setpoint < 0 then b.rest else b)

/-- A battery line with its filter. -/
def BatteryAccount.line (b : BatteryAccount) : BattLine → FilteredLine
  | .ready => b.readyLine
  | .full => b.fullLine
  | .empty => b.emptyLine

/-- A battery line replaced. -/
def State.setLine (s : State) (l : BattLine) (x : FilteredLine) : State :=
  match l with
  | .ready => { s with ba := { s.ba with readyLine := x } }
  | .full => { s with ba := { s.ba with fullLine := x } }
  | .empty => { s with ba := { s.ba with emptyLine := x } }

/-- An edge of a battery line, rising or falling; the falling edges of BATT_FULL and BATT_EMPTY change only the taken
level (R87, R90). -/
def State.battEdge (s : State) (l : BattLine) (rising : Bool) : State :=
  match l, rising with
  | .ready, true => s.battReadyRise
  | .ready, false => s.battReadyFall
  | .full, true => s.battFullRise
  | .empty, true => s.battEmptyRise
  | .full, false => s
  | .empty, false => s

/-- BATT_LINE_CHANGE (R87): a change of the line starts or restarts its stability timer. -/
def execBattLineChange (l : BattLine) (high : Bool) (s : State) : Host.Outcome State Fault Refusal :=
  let x := s.ba.line l
  if x.line = high then .next s
  else .next (s.setLine l { x with line := high, timer := some Config.lineFilterMs })

/-- BATT_LINE_FILTER_EXPIRY (R87): a level that differs from the taken one is taken; it is an edge from the end of STARTING
onward. -/
def execBattLineFilterExpiry (l : BattLine) (s : State) : Host.Outcome State Fault Refusal :=
  let x := s.ba.line l
  if x.timer = some 0 then
    let t := s.setLine l { x with timer := none, taken := x.line }
    if !s.started || x.taken == x.line then .next t else .next (t.battEdge l x.line)
  else .next s

/-- The account under new limits (R93 steps 1 to 3). -/
def BatteryAccount.limited (b : BatteryAccount) (cap reserve cmax dmax : Nat) : BatteryAccount :=
  let n := { b with cap := cap, reserve := reserve, cmax := cmax, dmax := dmax, eb := min cap b.eb }
  n.drive b.setpoint

/-- The effect of SET_BATTERY (R93). -/
def setBatteryEffect (cap reserve cmax dmax : Word) (s : State) : State × Option Reply :=
  if !batteryInRanges cap.toNat reserve.toNat cmax.toNat dmax.toNat then refuse .badArgument s
  else
    let t := s.batteryEvent (s.ba.limited cap.toNat reserve.toNat cmax.toNat dmax.toNat)
    (t, some (.done (field t.ba.eb) 0))

/-- SET_BATTERY (R93). -/
def execSetBattery (cap reserve cmax dmax : Word) (s : State) : Host.Outcome State Fault Refusal :=
  .next (s.ringCommand (.setBattery cap reserve cmax dmax) (setBatteryEffect cap reserve cmax dmax))

end Sys2Proof.Machine
end

