-- ==== Sys2Proof/Machine/Meter.lean ====
section
/-! DEFINITION. The Meter Unit (spec/01): the width filter, acceptance, runaway, rejection, noise, silence, staleness, the
power estimate, and the rows of the meter channels. -/

namespace Sys2Proof.Machine

/-- A time difference of the MU's millisecond count, modulo 2^32 (R2). -/
def elapsed (now since : Word) : Nat := (now - since).toNat

/-- The least width of a channel's group (R3). -/
def ChannelConfig.wmin (c : ChannelConfig) (ch : Fin 17) : Nat := if ch.val < 12 then c.bayWmin else c.siteWmin

/-- The greatest width of a channel's group (R3). -/
def ChannelConfig.wmax (c : ChannelConfig) (ch : Fin 17) : Nat := if ch.val < 12 then c.bayWmax else c.siteWmax

/-- The energy per pulse of a channel: 1 Wh on a bay channel (R1). -/
def ChannelConfig.energy (c : ChannelConfig) (ch : Fin 17) : Nat :=
  if ch.val < 12 then 1 else c.energies.toList.getD (ch.val - 12) 0

/-- A channel's power estimate now, W (R10). -/
def State.estimate (s : State) (ch : Fin 17) : Nat :=
  let c := s.channel ch
  match c.lastPeriod, c.lastEdge with
  | some p, some e => s.meterConfig.energy ch * 3600000 / max p.toNat (elapsed s.clock.ms e)
  | some p, none => s.meterConfig.energy ch * 3600000 / p.toNat
  | none, _ => 0

/-! ## Silence (R12, R13) -/

/-- Silence is watched at a bay. -/
def State.silenceWatched (s : State) (b : Fin 12) : Bool := (s.bay b).drive && decide (0 < (s.bay b).allowance)

/-- Silence is found now at a bay: the limit has passed and no pulse is in progress. A pulse whose trailing edge comes at the very
instant the limit passes is still in progress then, so its acceptance counts as taken first: R13 allows either order (the model's
choice, log 43). -/
def State.silenceDue (s : State) (b : Fin 12) : Bool :=
  let c := s.channel (bayChannel b)
  s.silenceWatched b && !c.silent && c.inProgress.isNone &&
    decide (s.meterConfig.silenceLimit * 1000 < elapsed s.clock.ms c.silenceRef)

/-- A meter-fault event is handed to a bay (R13, R15). -/
def State.handMeterFault (s : State) (b : Fin 12) : State := s.onBay b fun x => { x with meterFaults := x.meterFaults + 1 }

/-- Silence found at a bay (R13). -/
def State.findSilence (s : State) (b : Fin 12) : State :=
  let t := s.onChannel (bayChannel b) fun c => { c with silent := true }
  (t.record { kind := .meterSilent, bay := some b, data := some (field (elapsed s.clock.ms (s.channel (bayChannel b)).silenceRef)),
              detail := field b.val }).handMeterFault b

/-- Silence judged at a channel: found when it is due at that channel's bay. -/
def State.judgeSilence (s : State) (ch : Fin 17) : State :=
  match channelBay ch with
  | some b => if s.silenceDue b then s.findSilence b else s
  | none => s

/-! ## Rejection (R5, R11) -/

/-- METER_NOISE is recorded for a channel (R11). -/
def State.recordNoise (s : State) (ch : Fin 17) (width : Nat) : State :=
  (s.onChannel ch fun c => { c with noiseReported := true }).record
    { kind := .meterNoise, bay := channelBay ch, data := some (field width), detail := field ch.val }

/-- The pulse in progress is rejected with a width (R5, R11), and a silence that waited for it is found (R13). Where one
rejection gives both, METER_NOISE is recorded before METER_SILENT: R172 allows either order (the model's choice, log 39). -/
def State.reject (s : State) (ch : Fin 17) (width : Nat) : State :=
  let t := s.onChannel ch fun c => { c with inProgress := none, noise := saturate 65535 (c.noise + 1) }
  let u := if s.started && decide (16 ≤ (t.channel ch).noise) && !(t.channel ch).noiseReported then t.recordNoise ch width
    else t
  u.judgeSilence ch

/-! ## Acceptance (R6) -/

/-- A period is a runaway period for a Pmax (R14). -/
def runawayPeriod (pmax period : Nat) : Bool := decide (5 * pmax * period < 14400000)

/-- A channel after a measured period is judged for runaway, and whether METER_RUNAWAY is found (R14, R15). -/
def Channel.judgeRunaway (c : Channel) (pmax period : Nat) : Channel × Bool :=
  if !runawayPeriod pmax period then ({ c with runCount := 0, runaway := false }, false)
  else if c.runCount + 1 < 3 then ({ c with runCount := c.runCount + 1 }, false)
  else ({ c with runCount := 0, runaway := true }, !c.runaway)

/-- METER_RUNAWAY recorded and handed to the bay (R15). -/
def State.findRunaway (s : State) (b : Fin 12) (period : Word) : State :=
  (s.record { kind := .meterRunaway, bay := some b, data := some period, detail := field b.val }).handMeterFault b

/-- The new period of an accepted pulse, if it measures one (R6 step 2). -/
def Channel.newPeriod (c : Channel) (a : Word) : Option Word := c.lastEdge.map fun e => a - e

/-- Steps 1 to 3 of an acceptance (R6). -/
def Channel.count (c : Channel) (now a : Word) : Channel :=
  { c with inProgress := none, total := c.total + 1, round := countOn now c.round,
           lastPeriod := (c.newPeriod a).or c.lastPeriod, lastEdge := some a }

/-- Step 4 of an acceptance on a bay channel (R6, R12, R14). -/
def State.judgeBayPulse (s : State) (b : Fin 12) (period : Option Word) (a : Word) : State :=
  let t := s.onChannel (bayChannel b) fun c => { c with silent := false, silenceRef := a }
  match period with
  | none => t
  | some p =>
    let j := (t.channel (bayChannel b)).judgeRunaway (t.bay b).config.pmax p.toNat
    let u := t.setChannel (bayChannel b) j.1
    if j.2 then u.findRunaway b p else u

/-- Step 5 of an acceptance on a site channel (R17): BATT_IN and BATT_OUT go to the Battery Account. -/
def State.sitePulse (s : State) (ch : Fin 17) : State :=
  if ch.val = 15 then s.chargePulse (s.meterConfig.energy ch)
  else if ch.val = 16 then s.dischargePulse (s.meterConfig.energy ch)
  else s

/-- The pulse in progress is accepted with acceptance time a (R6). -/
def State.acceptPulse (s : State) (ch : Fin 17) (a : Word) : State :=
  let t := s.onChannel ch fun c => c.count s.clock.ms a
  match channelBay ch with
  | some b => (t.judgeBayPulse b ((s.channel ch).newPeriod a) a).bayPulse b
  | none => t.sitePulse ch

/-! ## Rows -/

/-- METER_LEADING_EDGE (R4): the line becomes active. -/
def execMeterLeadingEdge (ch : Fin 17) (s : State) : Host.Outcome State Fault Refusal :=
  if (s.channel ch).lineActive then .next s
  else .next (s.onChannel ch fun c => { c with lineActive := true, inProgress := c.inProgress.or (some s.clock.ms) })

/-- METER_TRAILING_EDGE (R4): the line becomes inactive, and a pulse in progress is judged by its width; one past wmax is
rejected as one that passed it (R5, log 36). -/
def execMeterTrailingEdge (ch : Fin 17) (s : State) : Host.Outcome State Fault Refusal :=
  if (s.channel ch).lineActive then
    let t := s.onChannel ch fun c => { c with lineActive := false }
    match (s.channel ch).inProgress with
    | none => .next t
    | some a =>
      let width := elapsed s.clock.ms a
      if width < s.meterConfig.wmin ch then .next (t.reject ch width)
      else if width ≤ s.meterConfig.wmax ch then .next (t.acceptPulse ch a)
      else .next (t.reject ch (s.meterConfig.wmax ch + 1))
  else .next s

/-- A pulse in progress has passed wmax (R5). -/
def State.widthDue (s : State) (ch : Fin 17) : Bool :=
  match (s.channel ch).inProgress with
  | some a => decide (s.meterConfig.wmax ch < elapsed s.clock.ms a)
  | none => false

/-- PULSE_WIDTH_EXCEEDED (R5). -/
def execPulseWidthExceeded (ch : Fin 17) (s : State) : Host.Outcome State Fault Refusal :=
  if s.widthDue ch then .next (s.reject ch (s.meterConfig.wmax ch + 1)) else .next s

/-- A channel's last edge is more than an hour old (R7). -/
def State.staleDue (s : State) (ch : Fin 17) : Bool :=
  match (s.channel ch).lastEdge with
  | some e => decide (Config.staleMs < elapsed s.clock.ms e)
  | none => false

/-- CHANNEL_STALE (R7). -/
def execChannelStale (ch : Fin 17) (s : State) : Host.Outcome State Fault Refusal :=
  if s.staleDue ch then
    .next (s.onChannel ch fun c => { c with lastEdge := none, lastPeriod := none, runCount := 0, runaway := false })
  else .next s

/-- SILENCE_FOUND (R13). -/
def execSilenceFound (b : Fin 12) (s : State) : Host.Outcome State Fault Refusal :=
  if s.silenceDue b then .next (s.findSilence b) else .next s

end Sys2Proof.Machine
end

