-- ==== Sys2Proof/Machine/Snapshot.lean ====
section
/-! DEFINITION. The Snapshot Writer (spec/05 5.4 to 5.7): the bay and site records, queueing them, and SET_SNAPSHOT_WINDOW. -/

namespace Sys2Proof.Machine

/-- The session number a bay record shows (R112): the open session's, else the last one, else 0. -/
def Bay.shownSession (x : Bay) : Word := if x.state.isOpen then x.session.number else x.lastSession.getD 0

/-- The flags byte of a bay record (R112, spec/11 11.5). -/
def Bay.snapshotFlags (x : Bay) : Nat :=
  bits [x.state.isOpen, x.session.timeUnset, x.session.fault, decide (0 < x.session.tallies.overQuota), x.maintenance.isSome]

/-- The bay record of a snapshot (R112, spec/11 11.5). -/
def State.bayRecord (s : State) (b : Fin 12) : List Byte :=
  let x := s.bay b
  let t := x.session.tallies
  leBytes 1 b.val ++ leBytes 1 x.state.code ++ leBytes 1 (if x.state.isOpen then classCode x.session.cls else 0) ++
  leBytes 1 x.snapshotFlags ++ wordBytes s.al.round ++ wordBytes x.shownSession ++
  leBytes 4 t.total ++ leBytes 4 t.solar ++ leBytes 4 t.battery ++ leBytes 4 t.grid ++ leBytes 2 t.overQuota ++
  leBytes 1 (x.allowance / 100) ++ leBytes 1 (s.estimate (bayChannel b) / 100)

/-- The charger budget: the sum of a plan's grants (R84, R113). -/
def Plan.budget (p : Plan) : Nat := (p.bays.toList.map fun b => b.grant).sum

/-- The site record of a snapshot (R113, spec/11 11.5). -/
def State.siteRecord (s : State) (p : Plan) : List Byte :=
  wordBytes s.al.round ++ leBytes 4 (s.estimate 12) ++ leBytes 4 (s.estimate 13) ++ leBytes 4 (s.estimate 14) ++
  leBytes 4 s.ba.eb ++ wordBytes (signedField p.setpoint) ++ leBytes 4 p.budget ++ leBytes 1 p.flags.byte ++
  leBytes 1 (bit s.el.hold) ++ leBytes 1 (bit (s.pu.link == .attached)) ++ leBytes 1 0

/-- Whether an entry is a snapshot. -/
def EntryKind.isSnapshot : EntryKind → Bool
  | .snapshot _ => true
  | .receipt .. | .reply _ | .notice _ => false

/-- An entry is a snapshot for a target that has not begun its performance (R114). -/
def Entry.waitsFor (e : Entry) (target : Nat) : Bool := e.kind.isSnapshot && !e.begun && e.addr == target

/-- A record handed to the Path Unit for a target address (R114): it replaces the content of a waiting snapshot for the same
target, or is added at the tail. -/
def State.queueRecord (s : State) (index : Fin 13) (target : Nat) (bytes : List Byte) : State :=
  if s.pu.queue.any fun e => e.waitsFor target then
    { s with pu := { s.pu with queue := s.pu.queue.map fun e => if e.waitsFor target then { e with bytes := bytes } else e } }
  else s.enqueue { kind := .snapshot index, addr := target, bytes := bytes }

/-- A composed record handed over: at its place in the window, discarded when there is none (R111, R114). -/
def State.queueSnapshot (s : State) (index : Fin 13) (bytes : List Byte) : State :=
  match s.sw.base with
  | none => s
  | some base => s.queueRecord index (base + index.val * s.sw.stride) bytes

/-- The record index of a bay. -/
def baySnapshot (b : Fin 12) : Fin 13 := ⟨b.val, by omega⟩

/-- A boundary of this round is a snapshot boundary (R111). -/
def State.snapshotDue (s : State) : Bool := s.sw.base.isSome && s.al.round.toNat % s.sw.decimation == 0

/-- The geometry that SET_SNAPSHOT_WINDOW carries (R115). -/
def snapshotGeometryOf (base stride decimation : Word) : SnapshotWriter :=
  { base := baseOf base.toNat, stride := stride.toNat, decimation := decimation.toNat }

/-- The effect of SET_SNAPSHOT_WINDOW (R115, R116). -/
def setSnapshotWindowEffect (base stride decimation : Word) (s : State) : State × Option Reply :=
  let w := snapshotGeometryOf base stride decimation
  if !snapshotFits w || windowsMeet s.rw.geometry w then refuse .badArgument s
  else finish { s.removeEntries EntryKind.isSnapshot with sw := w }.windowsChanged

/-- SET_SNAPSHOT_WINDOW (R115). -/
def execSetSnapshotWindow (base stride decimation : Word) (s : State) : Host.Outcome State Fault Refusal :=
  .next (s.ringCommand (.setSnapshotWindow base stride decimation) (setSnapshotWindowEffect base stride decimation))

end Sys2Proof.Machine
end

