-- ==== Sys2Proof/Machine/Round.lean ====
section
/-! DEFINITION. The Allocator's rounds (spec/03 3.1 to 3.4): the boundary with everything that comes about in it, staging a
plan, and the rows ROUND_BOUNDARY, PLAN_COMPUTATION_END, SET_SITE and SET_SUPPLY_MAP. -/

namespace Sys2Proof.Machine

/-! ## The parts of a boundary -/

/-- The Meter Unit's part of a boundary on one channel (R8). -/
def Channel.handOver (c : Channel) : Channel :=
  { c with lastRound := c.round, round := 0, noise := 0, noiseReported := false }

/-- The Meter Unit's part of a boundary (R8). -/
def State.meterBoundary (s : State) : State := { s with channels := s.channels.map Channel.handOver }

/-- A bay is eligible at a latch (R59). -/
def Bay.eligible (x : Bay) : Bool := (x.state == .paused || x.state == .charging) && x.drive && x.ready

/-- A bay as latched (R59). -/
def Bay.latched (x : Bay) : LatchedBay where
  eligible := x.eligible
  cls := if x.eligible then x.session.cls else none
  session := if x.eligible then some x.session.number else none
  pmin := x.config.pmin
  pmax := x.config.pmax
  wait := x.waitCount

/-- The inputs read at a latch (R59, R101). -/
def State.readInputs (s : State) : Latched where
  solar := s.estimate 12
  shop := s.estimate 13
  grid := s.estimate 14
  limit := s.al.limit
  period := s.al.period
  map := s.al.map
  bays := s.bays.map Bay.latched
  pairs := s.pairs
  eb := s.ba.eb
  cap := s.ba.cap
  reserve := s.ba.reserve
  cmax := s.ba.cmax
  dmax := s.ba.dmax
  calibrated := s.ba.calibrated
  offline := s.ba.state == .offline
  hold := s.el.hold
  attached := s.pu.link == .attached

/-- The overlimit state after a latch (R63). -/
def Allocator.judgeOverlimit (al : Allocator) (l : Latched) : Allocator :=
  if l.limit < l.grid then { al with correction := l.grid - l.limit, episodes := saturate 65535 (al.episodes + 1) }
  else { al with correction := 0, episodes := 0, episodeReported := false }

/-- A latch: the inputs are read, the overlimit judged (R63), and GRID_OVERLIMIT recorded at the third latch of an episode
(R64). -/
def State.latch (s : State) : State :=
  let l := s.readInputs
  let al := { s.al with latched := some l }.judgeOverlimit l
  if al.episodes = 3 ∧ ¬ al.episodeReported then
    { s with al := { al with episodeReported := true } }.record
      { kind := .gridOverlimit, data := some (field l.grid), detail := field al.episodes }
  else { s with al := al }

/-- The plan becomes the applied plan, its round length that of the round that begins (R56, R60). -/
def State.applyPlan (s : State) (p : Plan) : State :=
  { s with al := { s.al with applied := some p, staged := none, roundLength := some p.roundLength,
                             boundaryTimer := some (1000 * p.roundLength) } }

/-- The three kinds of receiver of a plan's parts (R60). -/
inductive BoundaryPart where
  | bay (b : Fin 12)
  | setpoint
  | trigger
  deriving DecidableEq, Repr

/-- All fourteen parts. -/
def boundaryParts : List BoundaryPart := (List.finRange 12).map .bay ++ [.setpoint, .trigger]

/-- A receiver takes its part of the plan as one event (R60, R61, R95); at a snapshot boundary each bay composes its record in
that event and the Snapshot Writer the site record (R111). -/
def State.takePart (p : Plan) (snapshot : Bool) (s : State) : BoundaryPart → State
  | .bay b =>
    let t := s.takePlan b (p.bays[b])
    if snapshot then t.queueSnapshot (baySnapshot b) (t.bayRecord b) else t
  | .setpoint => s.takeSetpoint p.setpoint
  | .trigger => if snapshot then s.queueSnapshot 12 (s.siteRecord p) else s

/-- The SET_SNAPSHOT_WINDOW that the Command Unit holds, executing and not yet handed over, is taken by its owner and answered
(R111, R115, R160); with none held nothing changes. -/
def State.takeHeldWindow (s : State) : State :=
  match s.cu.step with
  | .executing _ words false =>
    let a := slotWord words
    s.ringCommand (.setSnapshotWindow (a 1) (a 2) (a 3)) (setSnapshotWindowEffect (a 1) (a 2) (a 3))
  | .executing _ _ true => s
  | .idle | .fetching .. | .replying _ => s

/-- Some parts taken one after another. -/
def State.takeParts (s : State) (p : Plan) (snapshot : Bool) (parts : List BoundaryPart) : State :=
  parts.foldl (fun u part => u.takePart p snapshot part) s

/-- Everything done at a boundary after the round number stands (R8, R59, R60): the order of the parts is given, and after how
many of them a held window change is taken, if between them. Whether the boundary is a snapshot boundary is decided before any
part; a record of a later part goes to the window then set (R111, log 25). -/
def State.boundary (s : State) (p : Plan) (order : BoundaryOrder) : State :=
  let t := (s.meterBoundary.latch).applyPlan p
  let parts := arrange 14 order.parts boundaryParts
  match order.window with
  | none => t.takeParts p s.snapshotDue parts
  | some k => (t.takeParts p s.snapshotDue (parts.take k)).takeHeldWindow.takeParts p s.snapshotDue (parts.drop k)

/-- The empty plan of boundary 0 (R60), its round length the period configured then (R56). -/
def emptyPlan (period : Nat) : Plan := { roundLength := period }

/-! ## Rows -/

/-- The plan that a boundary due now applies: the time has come and a plan is staged (R60, R62). -/
def State.boundaryDue (s : State) : Option Plan := if s.al.boundaryTimer = some 0 then s.al.staged else none

/-- ROUND_BOUNDARY (R60): the round number advances before any other work (R56). -/
def execRoundBoundary (order : BoundaryOrder) (s : State) : Host.Outcome State Fault Refusal :=
  match s.boundaryDue with
  | some p => .next ({ s with al := { s.al with round := s.al.round + 1 } }.boundary p order)
  | none => .next s

/-- The inputs of the plan being computed: those latched, while no plan is staged (R58, R62). -/
def State.computing (s : State) : Option Latched := if s.al.staged.isNone then s.al.latched else none

/-- PLAN_COMPUTATION_END (R62): the plan for the next round is staged, and each bay takes its new wait count (R75). -/
def execPlanComputationEnd (s : State) : Host.Outcome State Fault Refusal :=
  match s.computing with
  | some l =>
    let w := l.waits s.al.correction
    .next { s with
      al := { s.al with staged := some (l.plan s.al.correction (s.al.round + 1)) }
      bays := Vector.ofFn fun b : Fin 12 => { s.bay b with waitCount := w[b] } }
  | none => .next s

/-- The effect of SET_SITE (R57). -/
def setSiteEffect (limit period : Word) (s : State) : State × Option Reply :=
  if siteInRanges limit.toNat period.toNat then
    finish { s with al := { s.al with limit := limit.toNat, period := period.toNat } }
  else refuse .badArgument s

/-- SET_SITE (R57). -/
def execSetSite (limit period : Word) (s : State) : Host.Outcome State Fault Refusal :=
  .next (s.ringCommand (.setSite limit period) (setSiteEffect limit period))

/-- A supply map from three source sets; none when one is refused (R70). -/
def supplyMapOf (priority standard economy : Nat) : Option SupplyMap :=
  match sourceSetOf priority, sourceSetOf standard, sourceSetOf economy with
  | some p, some q, some e => some { priority := p, standard := q, economy := e }
  | none, _, _ => none
  | some _, none, _ => none
  | some _, some _, none => none

/-- The effect of SET_SUPPLY_MAP (R70). -/
def setSupplyMapEffect (priority standard economy : Word) (s : State) : State × Option Reply :=
  match supplyMapOf priority.toNat standard.toNat economy.toNat with
  | some m => finish { s with al := { s.al with map := m } }
  | none => refuse .badArgument s

/-- SET_SUPPLY_MAP (R70). -/
def execSetSupplyMap (priority standard economy : Word) (s : State) : Host.Outcome State Fault Refusal :=
  .next (s.ringCommand (.setSupplyMap priority standard economy) (setSupplyMapEffect priority standard economy))

end Sys2Proof.Machine
end

