-- ==== Sys2Proof/Machine/ErrorLog.lean ====
section
/-! DEFINITION. The commands of the Error Log (spec/09 9.4): CLEAR_ERRORS, ACK_ERROR, SET_ERROR_POLICY, CLEAR_HOLD, and the
Settings Port's clearing of EPOCH_UNSAVED (R176). Recording is in Ops. -/

namespace Sys2Proof.Machine

/-- The status of some kinds is cleared, and the pointer with it where it names one of them (R174, R176). -/
def ErrorLog.clear (el : ErrorLog) (kinds : BitVec 12) : ErrorLog :=
  { el with status := el.status &&& ~~~kinds, first := el.first.filter fun k => !inKindSet kinds k }

/-- A kind set without EPOCH_UNSAVED (R174, R175). -/
def withoutEpoch (kinds : BitVec 12) : BitVec 12 := kinds &&& ~~~ErrorKind.epochUnsaved.bit

/-- The effect of CLEAR_ERRORS (R174). -/
def clearErrorsEffect (kinds overflow : Word) (s : State) : State × Option Reply :=
  match kindSetOf kinds.toNat with
  | none => refuse .badArgument s
  | some set =>
    let c := s.el.clear (withoutEpoch set)
    let el := { c with overflow := c.overflow && !overflow.getLsbD 0 }
    ({ s with el := el }, some (.done (el.status.setWidth 32) (field el.records.length)))

/-- CLEAR_ERRORS (R174). -/
def execClearErrors (kinds overflow : Word) (s : State) : Host.Outcome State Fault Refusal :=
  .next (s.ringCommand (.clearErrors kinds overflow) (clearErrorsEffect kinds overflow))

/-- The effect of ACK_ERROR (R174). -/
def ackErrorEffect (s : State) : State × Option Reply :=
  match s.el.records with
  | [] => refuse .wrongState s
  | r :: rest =>
    ({ s with el := { s.el with records := rest } }, some (.done (field r.recording.kind.number) (field rest.length)))

/-- ACK_ERROR (R174). -/
def execAckError (s : State) : Host.Outcome State Fault Refusal := .next (s.ringCommand .ackError ackErrorEffect)

/-- Masks and severities taken from two sets, EPOCH_UNSAVED kept unmasked and HOLD (R170, R175). -/
def ErrorLog.takePolicy (el : ErrorLog) (masks holds : BitVec 12) : ErrorLog :=
  { el with masked := withoutEpoch masks, holds := holds ||| ErrorKind.epochUnsaved.bit }

/-- The effect of SET_ERROR_POLICY (R175). -/
def setErrorPolicyEffect (masks holds : Word) (s : State) : State × Option Reply :=
  match kindSetOf masks.toNat, kindSetOf holds.toNat with
  | some m, some h =>
    let el := s.el.takePolicy m h
    let t := if el.mustHold && !el.hold then { s with el := { el with hold := true } }.fire .holdChanged
      else { s with el := el }
    (t, some (.done (field (bit t.el.hold)) 0))
  | none, _ => refuse .badArgument s
  | some _, none => refuse .badArgument s

/-- SET_ERROR_POLICY (R175). -/
def execSetErrorPolicy (masks holds : Word) (s : State) : Host.Outcome State Fault Refusal :=
  .next (s.ringCommand (.setErrorPolicy masks holds) (setErrorPolicyEffect masks holds))

/-- The effect of CLEAR_HOLD (R177). -/
def clearHoldEffect (s : State) : State × Option Reply :=
  if s.el.mustHold then refuse .wrongState s
  else if s.el.hold then finish ({ s with el := { s.el with hold := false } }.fire .holdChanged)
  else finish s

/-- CLEAR_HOLD (R177). -/
def execClearHold (s : State) : Host.Outcome State Fault Refusal := .next (s.ringCommand .clearHold clearHoldEffect)

end Sys2Proof.Machine
end

