-- ==== Sys2Proof/Machine/Notice.lean ====
section
/-! DEFINITION. The Notice Unit (spec/08 8.6 to 8.9): taking WATCHED words into the control word and the vector shadows,
judging the addresses taken, its state after a reset, and CAUSE_MAP. Firing and release are in Ops. -/

namespace Sys2Proof.Machine

/-- The anchor-page offset of a vector's word. -/
def vectorOf (offset : Nat) : Option (Fin 8) :=
  if Config.vectorOffset ≤ offset ∧ offset < Config.vectorOffset + 128 then
    some (Fin.ofNat 8 ((offset - Config.vectorOffset) / 16)) else none

/-- The control word taken lane by lane: bit 0 the enable, bit 1 the all-mask (R166, spec/11 11.2). -/
def NoticeUnit.takeControl (n : NoticeUnit) (w : WriteWord) : NoticeUnit :=
  if w.lanes.getLsbD 0 then { n with enable := w.data.getLsbD 0, allMask := w.data.getLsbD 1 } else n

/-- One word of a vector entry taken lane by lane into its shadow; the fourth word is ignored (R166). -/
def NoticeVector.takeWord (x : NoticeVector) (place : Nat) (w : WriteWord) : NoticeVector :=
  if place = 0 then { x with addr := mergeLanes x.addr w }
  else if place = 1 then { x with data := mergeLanes x.data w }
  else if place = 2 then { x with masked := if w.lanes.getLsbD 0 then w.data.getLsbD 0 else x.masked }
  else x

/-- One WATCHED word taken into the shadows (R166). -/
def State.takeWatchedWord (s : State) (offset : Nat) (w : WriteWord) : State :=
  match vectorOf offset with
  | some v => s.setVector v ((s.vector v).takeWord (offset % 16 / 4) w)
  | none => if offset = Config.controlOffset then { s with nu := s.nu.takeControl w } else s

/-- The vector whose address word this word writes some lane of. -/
def addressTaken (offset : Nat) (w : WriteWord) : Option (Fin 8) :=
  if offset % 16 = 0 ∧ w.lanes ≠ 0 then vectorOf offset else none

/-- The anchor-page offset of word i of a transaction. -/
def wordOffset (addr i : Nat) : Nat := wordAddr addr i - Config.anchorBase

/-- A vector's address, just taken, is judged (R166). -/
def State.judgeVector (s : State) (v : Fin 8) : State :=
  s.setVector v { s.vector v with usable := s.addrUsable (s.vector v).addr }

/-- VECTOR_FAULT is recorded for a vector whose address was judged unusable (R166). -/
def State.reportVector (s : State) (v : Fin 8) : State := if (s.vector v).usable then s else s.vectorFault v

/-- The words of a transaction with their anchor-page offsets. -/
def atOffsets (addr : Nat) (words : List WriteWord) : List (Nat × WriteWord) :=
  words.zipIdx.map fun w => (wordOffset addr w.2, w.1)

/-- The vectors whose address some words take, in ascending order. -/
def takenVectors (addr : Nat) (words : List WriteWord) : List (Fin 8) :=
  (atOffsets addr words).filterMap fun w => addressTaken w.1 w.2

/-- The shadows after some words: the written lanes taken, and then every address taken judged (R166). -/
def State.takeWords (s : State) (addr : Nat) (words : List WriteWord) : State :=
  (takenVectors addr words).foldl State.judgeVector ((atOffsets addr words).foldl (fun u w => u.takeWatchedWord w.1 w.2) s)

/-- Words of the notice control word and vector table taken as one event (R166, R168): the shadows, then the VECTOR_FAULT
records in ascending vector number (the order of the records and their place before the releases are the model's choice,
log 28), then what a disabled or released vector owes. -/
def State.takeWatched (s : State) (addr : Nat) (words : List WriteWord) : State :=
  ((takenVectors addr words).foldl State.reportVector (s.takeWords addr words)).dropPending.releaseVectors

/-- The Notice Unit after POR and CRST, the cause map apart (R169). -/
def State.resetNotices (s : State) : State :=
  { s with nu := { enable := false, allMask := true, causeMap := s.nu.causeMap,
                   vectors := Vector.replicate 8 { usable := s.addrUsable 0 } } }

/-- The effect of CAUSE_MAP (R165). -/
def causeMapEffect (map : Word) (s : State) : State × Option Reply :=
  match causeMapOf map.toNat with
  | some m => finish { s with nu := { s.nu with causeMap := m } }
  | none => refuse .badArgument s

/-- CAUSE_MAP (R165). -/
def execCauseMap (map : Word) (s : State) : Host.Outcome State Fault Refusal :=
  .next (s.ringCommand (.causeMap map) (causeMapEffect map))

end Sys2Proof.Machine
end

