-- ==== Sys2Proof/Machine/Views.lean ====
section
/-! DEFINITION. What the OWNED words read (spec/11 11.2 and 11.6): the identity block, the indices, the selector, the pending
word, and the eight layouts of the view window. Every layout is the list of its words from its first offset. -/

namespace Sys2Proof.Machine

/-- An optional word, 0 while absent (R184). -/
def orZero (w : Option Word) : Word := w.getD 0

/-! ## Identity block, pending word -/

/-- The error summary (R178, spec/11 11.2). -/
def ErrorLog.summary (el : ErrorLog) : Word :=
  field (el.status.toNat + 65536 * el.records.length + 16777216 * bit el.overflow)

/-- The identity block from 0x000 (spec/11 11.2). -/
def State.identityWords (s : State) : List Word :=
  [0x2412, 1, field s.pu.link.code, field s.pu.quietDrops, s.rw.epoch, s.clock.siteTime, field (bit s.clock.timeUnset),
   s.al.round, field (bit s.el.hold), s.el.summary, field s.rw.geometry.slots, field s.rw.freeCount, field s.rw.lastIssued]

/-- The pending flags of the vectors as bits. -/
def NoticeUnit.pendingBits (n : NoticeUnit) : Nat := bits (n.vectors.toList.map fun v => v.pending)

/-- The queued marks of the vectors as bits. -/
def NoticeUnit.queuedBits (n : NoticeUnit) : Nat := bits (n.vectors.toList.map fun v => v.queued)

/-- The pending word (R169). -/
def NoticeUnit.pendingWord (n : NoticeUnit) : Word := field (n.pendingBits + 256 * bit n.enable + 512 * bit n.allMask)

/-! ## Bay view (R54, R109) -/

/-- Which timers run, as bits. -/
def Bay.timerBits (x : Bay) : Nat :=
  bits [x.idleTimer.isSome, x.releaseTimer.isSome, x.stopDelayTimer.isSome, x.feedbackTimer.isSome]

/-- The event word of a bay view. -/
def Bay.eventWord (x : Bay) : Word := x.events.setWidth 32

/-- The session part of a bay view, 0x00 to 0x3C. -/
def Bay.sessionWords (x : Bay) : List Word :=
  let n := x.session
  [byteFields x.state.code (classCode n.cls) (stopCode n.stopCause) (bits [n.timeUnset, n.fault]), n.number,
   field n.quota, field n.remaining] ++
  ((List.range 4).map fun i => n.reference.extractLsb' (32 * i) 32) ++
  [n.startTime, orZero n.stopTime, field n.tallies.total, field n.tallies.solar, field n.tallies.battery, field n.tallies.grid,
   field n.tallies.overQuota, field x.roundOverQuota]

/-- The bay part of a bay view, 0x40 to 0x6C. -/
def Bay.bayWords (x : Bay) : List Word :=
  [orZero x.lastSession,
   byteFields (bit x.session.chargedMark) (bit x.maintenance.isSome) ((x.maintenance.map Light.code).getD 0) (bit x.deferredRelease),
   byteFields (plugCode x.plug) (bit x.ready) (bit x.release) (bit x.feedback),
   byteFields (bit x.drive) (bit x.lock) x.light.code 0,
   field x.allowance, field x.waitCount, field x.keptPortions.solar, field x.keptPortions.battery, field x.keptPortions.grid,
   orZero x.keptSession, field x.sessionPulses, field x.unownedPulses]

/-- A bay view. -/
def State.bayView (s : State) (b : Fin 12) : List Word :=
  let x := s.bay b
  let p := s.pair (pairOf b)
  x.sessionWords ++ x.bayWords ++
  [field (s.estimate (bayChannel b)), field x.config.pmin, field x.config.pmax, field x.config.stopDelay,
   field x.config.releaseWindow, field x.config.idleTimeout, field p.cap, field (evenMember (pairOf b) p),
   field x.timerBits, x.eventWord]

/-! ## Site view (R85) -/

/-- A supply map as three bytes. -/
def SupplyMap.word (m : SupplyMap) : Word := byteFields m.priority.toNat m.standard.toNat m.economy.toNat 0

/-- A bay as latched, as a word: eligible, class, and the wait count in two bytes. -/
def LatchedBay.word (x : LatchedBay) : Word := halfFields (bit x.eligible + 256 * classCode x.cls) x.wait

/-- The latched inputs, 0x14 to 0x70; all 0 before the first latch (log 26). -/
def latchedWords : Option Latched → List Word
  | none => List.replicate 24 0
  | some l =>
    [field l.solar, field l.shop, field l.grid, field l.limit, field l.period, l.map.word, field l.eb, field l.cap,
     field l.reserve, field l.cmax, field l.dmax, field (bits [l.calibrated, l.offline, l.hold, l.attached])] ++
    l.bays.toList.map LatchedBay.word

/-- A bay's part of a plan record. -/
def PlanBay.words (x : PlanBay) : List Word :=
  [halfFields x.grant x.portions.solar, halfFields x.portions.battery x.portions.grid, orZero x.session]

/-- A plan record of 176 bytes. -/
def Plan.words (p : Plan) : List Word :=
  [p.round, byteFields p.roundLength p.flags.byte 1 0, field p.coverSolar, field p.coverBattery, field p.potSolar,
   field p.potBattery, field p.potGrid, signedField p.setpoint] ++ p.bays.toList.flatMap PlanBay.words

/-- The applied plan's record; all 0 before boundary 0 (log 26). -/
def appliedWords : Option Plan → List Word
  | none => List.replicate 44 0
  | some p => p.words

/-- The staged plan's record: while it is absent, the round of the plan being computed and 0 elsewhere. -/
def Allocator.stagedWords (al : Allocator) : List Word :=
  match al.staged with
  | none => (al.round + 1) :: List.replicate 43 0
  | some p => p.words

/-- The site view. -/
def State.siteView (s : State) : List Word :=
  [s.al.round, field (s.al.roundLength.getD 0), field s.al.limit, field s.al.period, s.al.map.word] ++
  latchedWords s.al.latched ++
  [field s.al.correction, halfFields s.al.episodes (bit s.al.episodeReported), 0] ++
  appliedWords s.al.applied ++ s.al.stagedWords

/-! ## Battery, error, notice, meter and ring views -/

/-- The battery view (R102). -/
def State.batteryView (s : State) : List Word :=
  let b := s.ba
  [field b.eb, field b.cap, field b.reserve, field b.cmax, field b.dmax,
   byteFields b.state.code (bits [b.calibrated, b.atReserve]) (bits [b.readyLine.taken, b.fullLine.taken, b.emptyLine.taken]) 0,
   signedField b.setpoint, signedField ((s.al.applied.map Plan.setpoint).getD 0)] ++
  match b.lastEvent with
  | none => [0, 0, 0]
  | some e => [byteFields e.reasons.byte e.stateAfter.code 0 0, e.time, e.round]

/-- A record of the error list; an absent bay reads 255, an absent address or data word 0 (R184, log 33). -/
def ErrorRecord.words (r : ErrorRecord) : List Word :=
  let k := r.recording
  [byteFields k.kind.number (bits [k.bay.isSome, k.addr.isSome, k.data.isSome]) ((k.bay.map Fin.val).getD 255) 0,
   r.time, r.round, orZero k.addr, orZero k.data, k.detail]

/-- The error view (R178). -/
def ErrorLog.view (el : ErrorLog) : List Word :=
  [el.status.setWidth 32, el.masked.setWidth 32, el.holds.setWidth 32,
   byteFields ((el.first.map ErrorKind.number).getD 255) el.records.length (bit el.overflow) (bit el.hold)] ++
  el.records.flatMap ErrorRecord.words

/-- A vector in the notice view. -/
def NoticeVector.words (v : NoticeVector) : List Word :=
  [v.addr, v.data, field (bits [v.masked, v.usable, v.pending, v.queued]), 0]

/-- The cause map as the CAUSE_MAP argument codes it. -/
def causeMapWord (m : Vector (Fin 8) 8) : Word := field (m.toList.foldr (fun v n => v.val + 16 * n) 0)

/-- The notice view (R169). -/
def NoticeUnit.view (n : NoticeUnit) : List Word :=
  [byteFields (bit n.enable) (bit n.allMask) 0 0, causeMapWord n.causeMap, byteFields n.pendingBits n.queuedBits 0 0, 0] ++
  n.vectors.toList.flatMap NoticeVector.words

/-- A channel in the meter view, with its estimate. -/
def Channel.words (c : Channel) (estimate : Nat) : List Word :=
  [c.total, field c.round, field c.lastRound, orZero c.lastPeriod,
   halfFields c.noise (bits [c.silent, c.runaway, c.noiseReported]), field estimate]

/-- The meter view (R18). -/
def State.meterView (s : State) : List Word := (List.finRange 17).flatMap fun ch => (s.channel ch).words (s.estimate ch)

/-- The receipt ring view (R141); the check of an absent abandoned receipt, for which no coding is stated, reads 0 (log 33). -/
def State.ringView (s : State) : List Word :=
  let r := s.rw
  [baseField r.geometry.base, field r.geometry.slots, field r.geometry.lowWater, field r.nextSlot, field r.windowFirst,
   field r.reserved, field r.uncollected, field r.issuing, field r.freeCount, field r.lastIssued, field r.lastCollected,
   r.chain, r.epoch, halfFields (bit r.armed) r.abandoned, field ((r.lastAbandoned.map Prod.fst).getD 0),
   (r.lastAbandoned.map Prod.snd).getD 0, baseField s.sw.base, field s.sw.stride, field s.sw.decimation]

/-! ## The window and the OWNED words -/

/-- The bay a view selector names. -/
def selectedBay (v : Fin 18) : Option (Fin 12) := bayOf v.val

/-- The words of the view a selector chooses (R154). -/
def State.viewOf (s : State) (v : Fin 18) : List Word :=
  match selectedBay v with
  | some b => s.bayView b
  | none => if v = 12 then s.siteView else if v = 13 then s.batteryView else if v = 14 then s.el.view
    else if v = 15 then s.nu.view else if v = 16 then s.meterView else s.ringView

/-- The words of the view window; under NONE every word reads 0 (R154). -/
def State.windowWords (s : State) : List Word :=
  match s.pu.selector with
  | none => []
  | some v => s.viewOf v

/-- The view selector as it reads: 255 for NONE. -/
def PathUnit.selectorWord (p : PathUnit) : Word :=
  match p.selector with
  | none => 255
  | some v => field v.val

/-- What the OWNED word at an anchor-page offset reads (R145, spec/11 11.2); words past a layout read 0 (R154). -/
def State.ownedWord (s : State) (offset : Nat) : Word :=
  if offset < Config.postOffset then wordAt s.identityWords (offset / 4)
  else if offset = Config.postOffset then s.cu.post.setWidth 32
  else if offset = Config.takenOffset then s.cu.taken.setWidth 32
  else if offset = Config.selectorOffset then s.pu.selectorWord
  else if offset = Config.pendingOffset then s.nu.pendingWord
  else if Config.viewOffset ≤ offset then wordAt s.windowWords ((offset - Config.viewOffset) / 4)
  else 0

end Sys2Proof.Machine
end

