-- ==== Sys2Proof/Machine/Path.lean ====
section
/-! DEFINITION. The Path Unit (spec/07): accepting controller transactions, requests, guard writes, the link states and the
attach sweep, the arbiter, own writes and their reports, and the rows of the memory path. -/

namespace Sys2Proof.Machine

/-! ## Guard writes and requests (R146, R148) -/

/-- A guard-write word: recorded while ATTACHED, else counted as a quiet drop (R146). -/
def State.guardWrite (s : State) (attached : Bool) (addr detail : Nat) (w : WriteWord) : State :=
  if attached then
    s.record { kind := .guardWrite, addr := some (field addr), data := some (writtenData w), detail := field detail }
  else { s with pu := { s.pu with quietDrops := saturate 65535 (s.pu.quietDrops + 1) } }

/-- The k-th read of the attach sweep (R149). -/
def sweepRead (k : Nat) : PartRead :=
  if k = 0 then { kind := .sweep 0, addr := Config.anchorBase + Config.controlOffset, count := 1 }
  else { kind := .sweep k, addr := Config.anchorBase + Config.vectorOffset + 32 * (k - 1), count := 8 }

/-- The release write is taken: ATTACHING, and the sweep begins (R148). -/
def State.startAttach (s : State) : State := { s with pu := { s.pu with link := .attaching } }.requestRead (sweepRead 0)

/-- The view selector takes a value: NONE unless it is 0..17 (R154). -/
def State.select (s : State) (v : Word) : State :=
  { s with pu := { s.pu with selector := if h : v.toNat < 18 then some ⟨v.toNat, h⟩ else none } }

/-- The release field of a value written to the link word: bit 8 (spec/11 11.2). -/
def releaseField (v : Word) : Bool := v.getLsbD 8

/-- A written word at an OWNED address (R146, R148): a request where the link state takes it, else a guard write; a release
write in ATTACHED is dropped and records nothing. -/
def State.writeOwned (s : State) (attached : Bool) (addr : Nat) (w : WriteWord) : State :=
  let offset := addr - Config.anchorBase
  if fullLanes w && offset == Config.linkOffset && releaseField w.data then (if attached then s else s.startAttach)
  else if fullLanes w && attached && offset == Config.postOffset then s.postRequest w.data
  else if fullLanes w && attached && offset == Config.selectorOffset then s.select w.data
  else s.guardWrite attached addr 1 w

/-- What one word of an accepted write does at acceptance, by its class (R146). -/
def State.writeWord (s : State) (attached : Bool) (cls : WordClass) (addr : Nat) (w : WriteWord) : State :=
  match cls with
  | .owned => s.writeOwned attached addr w
  | .receiptWindow => s.guardWrite attached addr 2 w
  | .snapshotWindow => s.guardWrite attached addr 3 w
  | .watched => s
  | .plain => s

/-- A word of a class passes to memory (R144). -/
def WordClass.passes : WordClass → Bool
  | .watched | .plain => true
  | .owned | .receiptWindow | .snapshotWindow => false

/-- A word of a write as it is forwarded: the lanes of every dropped word and every request word cleared (R146). -/
def State.forwardedWord (s : State) (addr : Nat) (w : WriteWord) : WriteWord :=
  if (s.classOf addr).passes then w else { w with lanes := 0 }

/-- The words of a transaction with their addresses. -/
def placed {α : Type} (addr : Nat) (words : List α) : List (Nat × α) := words.zipIdx.map fun w => (wordAddr addr w.2, w.1)

/-- A controller write is accepted (R146): its words are classed as the part stands, taken in ascending address (log 15), and
the transaction goes on or is held (R152). -/
def State.acceptWrite (s : State) (addr : Nat) (words : List WriteWord) : State :=
  let attached := s.pu.link == .attached
  let t := (placed addr words).foldl (fun u w => u.writeWord attached (s.classOf w.1) w.1 w.2) s
  t.judgeHit (.write addr ((placed addr words).map fun w => s.forwardedWord w.1 w.2) attached)

/-! ## Reads (R145, R155) -/

/-- What a word of an accepted read is answered by the part, none where it is read from memory (R145). -/
def State.answer (s : State) (addr : Nat) : Option Word :=
  if s.classOf addr = .owned then some (s.ownedWord (addr - Config.anchorBase)) else none

/-- The address of the event word (spec/11 11.6). -/
def eventWordAddr : Nat := Config.anchorBase + Config.viewOffset + Config.eventWordOffset

/-- The bay whose event word a read returns and clears: the selector names it and the words include the event word's address,
classed OWNED (R155). -/
def State.eventBay (s : State) (addr count : Nat) : Option (Fin 12) :=
  if s.classOf eventWordAddr = .owned ∧ addr ≤ eventWordAddr ∧ eventWordAddr < addr + 4 * count then
    s.pu.selector.bind selectedBay
  else none

/-- A bay's event flags are cleared by a read (R155). -/
def State.clearEvents (s : State) (b : Fin 12) : State := s.onBay b fun x => { x with events := 0 }

/-- A controller read is accepted (R145). -/
def State.acceptRead (s : State) (addr count : Nat) : State :=
  let owned := (List.range count).map fun i => s.answer (wordAddr addr i)
  let t := match s.eventBay addr count with
    | some b => s.clearEvents b
    | none => s
  t.judgeHit (.read addr owned)

/-! ## Presenting and holding (R143, R148) -/

/-- A presented transaction is accepted. -/
def State.accept (s : State) : Request → State
  | .read addr count => s.acceptRead addr count
  | .write addr words => s.acceptWrite addr words

/-- The word count of a presented transaction. -/
def Request.count : Request → Nat
  | .read _ n => n
  | .write _ w => w.length

/-- A transaction of the bus: word-aligned, of 1..8 words within one aligned 32-byte block of the address space (R143). -/
def Request.wellFormed (r : Request) : Bool :=
  r.addr % 4 == 0 && inRange 1 8 r.count && decide (r.addr % 32 + 4 * r.count ≤ 32) && decide (r.addr < Config.spaceBytes)

/-- Accesses to the anchor page are held and not accepted in these link states (R148). -/
def LinkState.holdsAnchor : LinkState → Bool
  | .starting | .attaching => true
  | .detached | .attached => false

/-- The site controller presents a transaction: one at a time (R143), held where the link state holds anchor accesses (R148)
and otherwise accepted. -/
def State.present (s : State) (r : Request) : State :=
  if s.pu.cport ≠ .empty ∨ ¬ r.wellFormed then s
  else if s.pu.link.holdsAnchor && inAnchor r.addr then { s with pu := { s.pu with cport := .anchorHeld r } }
  else s.accept r

/-- A held anchor access is accepted under the link state that now stands (R148). -/
def State.acceptHeld (s : State) : State :=
  match s.pu.cport with
  | .anchorHeld r => { s with pu := { s.pu with cport := .empty } }.accept r
  | .empty | .hitHeld .. | .waiting _ | .granted _ => s

/-- A full-word write of a value. -/
def fullWord (v : Word) : WriteWord := { lanes := 0xF, data := v }

/-- CONTROLLER_WRITE_ACCEPT (R146). -/
def execControllerWriteAccept (addr : BitVec 26) (words : List WriteWord) (s : State) : Host.Outcome State Fault Refusal :=
  .next (s.present (.write addr.toNat words))

/-- CONTROLLER_READ_ACCEPT (R145). -/
def execControllerReadAccept (addr : BitVec 26) (count : Nat) (s : State) : Host.Outcome State Fault Refusal :=
  .next (s.present (.read addr.toNat count))

/-- RELEASE_WRITE (R148): a full-word write of a value to the link word. -/
def execReleaseWrite (value : Word) (s : State) : Host.Outcome State Fault Refusal :=
  .next (s.present (.write (Config.anchorBase + Config.linkOffset) [fullWord value]))

/-- POST_INDEX_WRITE (R158): a full-word write of a value to the post index. -/
def execPostIndexWrite (value : Word) (s : State) : Host.Outcome State Fault Refusal :=
  .next (s.present (.write (Config.anchorBase + Config.postOffset) [fullWord value]))

/-- VIEW_SELECTOR_WRITE (R154): a full-word write of a value to the view selector. -/
def execViewSelectorWrite (value : Word) (s : State) : Host.Outcome State Fault Refusal :=
  .next (s.present (.write (Config.anchorBase + Config.selectorOffset) [fullWord value]))

/-- EVENT_WORD_READ (R155): a read of the event word's address. -/
def execEventWordRead (s : State) : Host.Outcome State Fault Refusal := .next (s.present (.read eventWordAddr 1))

/-! ## Completion of a forwarded transaction (R143, R145, R147) -/

/-- The data of a completed read: memory's, the OWNED words replaced by the values taken at acceptance (R145). A word that the
completion does not carry is 0, and one beyond the request is dropped (R143 has one for each; the model's choice, log 42). -/
def readData (owned : List (Option Word)) (data : List Word) : List Word :=
  owned.zipIdx.map fun o => o.1.getD (wordAt data o.2)

/-- A granted transaction completes from memory. -/
def State.completeForwarded (s : State) (a : Access) (ok : Bool) (data : List Word) : State :=
  match a with
  | .read _ owned => s.completeC ok (readData owned data)
  | .write addr words copied =>
    let t := s.completeC ok []
    if ok && copied && inAnchor addr then t.takeWatched addr words else t

/-- FORWARDED_TRANSACTION_COMPLETE (R143). -/
def execForwardedTransactionComplete (ok : Bool) (data : List Word) (s : State) : Host.Outcome State Fault Refusal :=
  match s.pu.mport, s.pu.cport with
  | .controller, .granted a => .next (s.freePort.completeForwarded a ok data)
  | .controller, .empty => .next s
  | .controller, .anchorHeld _ => .next s
  | .controller, .hitHeld .. => .next s
  | .controller, .waiting _ => .next s
  | .free, _ => .next s
  | .entry, _ => .next s
  | .read .., _ => .next s

/-! ## The arbiter (R151) -/

/-- The controller transaction that waits for the M-port. -/
def PathUnit.waitingAccess (p : PathUnit) : Option Access :=
  match p.cport with
  | .waiting a => some a
  | .empty | .anchorHeld _ | .hitHeld .. | .granted _ => none

/-- A part-side requester waits: the queue head or a part-side read (R151). -/
def PathUnit.partWaits (p : PathUnit) : Bool := !p.queue.isEmpty || p.partRead.isSome

/-- The controller transaction is granted. -/
def State.grantController (s : State) (a : Access) : State :=
  { s with pu := { s.pu with mport := .controller, cport := .granted a,
                             waitCount := if s.pu.partWaits then s.pu.waitCount + 1 else s.pu.waitCount } }

/-- The queued mark of a notice clears when its performance begins (R167). -/
def State.beginEntry (s : State) (e : Entry) : State :=
  match e.kind, e.begun with
  | .notice v, false => s.setVector v { s.vector v with queued := false }
  | .notice _, true => s
  | .receipt .., _ => s
  | .snapshot _, _ => s
  | .reply _, _ => s

/-- The part side is granted: the queue head if present, else the part-side read (R151). -/
def State.grantPart (s : State) : State :=
  match s.pu.queue, s.pu.partRead with
  | e :: rest, _ =>
    { s with pu := { s.pu with mport := .entry, waitCount := 0, queue := { e with begun := true } :: rest } }.beginEntry e
  | [], some r => { s with pu := { s.pu with mport := .read r false, partRead := none, waitCount := 0 } }
  | [], none => s

/-- A grant can be made: the M-port is free and some requester waits (R151). -/
def State.grantDue (s : State) : Bool := s.pu.mport == .free && (s.pu.waitingAccess.isSome || s.pu.partWaits)

/-- M_PORT_GRANT (R151). -/
def execMPortGrant (s : State) : Host.Outcome State Fault Refusal :=
  if s.grantDue then
    match s.pu.waitingAccess with
    | some a => if s.pu.waitCount < 4 ∨ ¬ s.pu.partWaits then .next (s.grantController a) else .next s.grantPart
    | none => .next s.grantPart
  else .next s

/-! ## Own writes (R150, R153) -/

/-- The detail code of MEMORY_FAULT for an entry (R153). -/
def EntryKind.faultDetail : EntryKind → Nat
  | .receipt .. => 1
  | .snapshot _ => 2
  | .reply _ => 3
  | .notice _ => 4

/-- The completion of an entry is reported to the block that added it (R150). -/
def State.reportEntry (s : State) (k : EntryKind) (abandoned : Bool) : State :=
  match k with
  | .receipt b sequence check => s.receiptComplete b sequence check abandoned
  | .reply orphan => s.replyComplete orphan
  | .snapshot _ => s
  | .notice _ => s

/-- An attempt at the head entry has completed: it completes the entry, is to be made again, or abandons it (R153). -/
def State.attemptDone (s : State) (e : Entry) (rest : List Entry) (ok : Bool) : State :=
  if ok then s.popHead.reportEntry e.kind false
  else if e.attempts + 1 < Config.attempts then
    { s with pu := { s.pu with queue := { e with attempts := e.attempts + 1 } :: rest } }
  else (s.popHead.memoryFault e.addr e.kind.faultDetail).reportEntry e.kind true

/-- The bursts of an attempt at an entry: two of 8 words for a receipt, one for every other (R150). -/
def EntryKind.bursts : EntryKind → Nat
  | .receipt .. => 2
  | .snapshot _ | .reply _ | .notice _ => 1

/-- OWN_WRITE_ATTEMPT_COMPLETE (R153): an attempt completes OK when every burst does (R150). Outcomes of another number than the
entry's bursts are no completion of this attempt and change nothing (log 30). -/
def execOwnWriteAttemptComplete (bursts : List Bool) (s : State) : Host.Outcome State Fault Refusal :=
  match s.pu.mport, s.pu.queue with
  | .entry, e :: rest =>
    if bursts.length = e.kind.bursts then .next (s.freePort.attemptDone e rest (bursts.all id)) else .next s
  | .entry, [] => .next s
  | .free, _ => .next s
  | .controller, _ => .next s
  | .read .., _ => .next s

/-! ## The attach sweep (R149) -/

/-- The sweep goes on with its next read, or ends: ATTACHED, the held access accepted, and a command that is pending is
fetched (R148, R149, R159). -/
def State.nextSweep (s : State) (k : Nat) : State :=
  if k < 4 then s.requestRead (sweepRead (k + 1))
  else { s with pu := { s.pu with link := .attached } }.tryFetch.acceptHeld

/-- SWEEP_READ_COMPLETE (R149, R153): the data go to the Notice Unit; lost words leave it as it is. -/
def execSweepReadComplete (ok : Bool) (data : List Word) (s : State) : Host.Outcome State Fault Refusal :=
  match s.pu.mport with
  | .read { kind := .sweep k, addr := a, count := n, attempts := m } discard =>
    let t := s.freePort
    if discard then .next t
    else if ok then .next ((t.takeWatched a ((readWords n data).map fullWord)).nextSweep k)
    else if m + 1 < Config.attempts then .next (t.requestRead { kind := .sweep k, addr := a, count := n, attempts := m + 1 })
    else .next ((t.memoryFault a 6).nextSweep k)
  | .read { kind := .fetch _, addr := _, count := _, attempts := _ } _ => .next s
  | .free | .controller | .entry => .next s

end Sys2Proof.Machine
end

