-- ==== Sys2Proof/Machine/Settings.lean ====
section
/-! DEFINITION. The Settings Port (spec/10 10.1 and 10.2): operations on the settings line, the preload and its judgement of
the image and the epoch record, the epoch's retries, and SETTINGS_READ and SETTINGS_WRITE. The bytes of the settings memory
are outside the part and come as operands (log 5). -/

namespace Sys2Proof.Machine

/-! ## The image (R181, spec/11 11.7) -/

/-- Bytes of a list from an offset. -/
def bytesAt (bytes : List Byte) (offset n : Nat) : List Byte := (bytes.drop offset).take n

/-- A stored CRC-32 matches the bytes before it. -/
def crcMatches (covered : List Byte) (stored : Nat) : Bool := (crc32 covered).toNat == stored

/-- The length of the records, n. -/
def imageLength (bytes : List Byte) : Nat := leNat bytes 4 2

/-- The image is valid (R181): signature, version, length and CRC-32. -/
def imageValid (bytes : List Byte) : Bool :=
  leNat bytes 0 2 == 0x564C && leNat bytes 2 1 == 1 && decide (9 + imageLength bytes ≤ 999) &&
  crcMatches (bytesAt bytes 0 (6 + imageLength bytes)) (leNat bytes (6 + imageLength bytes) 4)

/-- A record of the image: its tag and its value. -/
structure Record where
  tag   : Nat
  value : List Byte
  deriving DecidableEq, Repr

/-- The records in order, and whether the walk ended at one that would go past the image's end (R181); the first argument
bounds the number of records. -/
def walkRecords : Nat → List Byte → List Record × Bool
  | 0, _ => ([], false)
  | _ + 1, [] => ([], false)
  | _ + 1, [_] => ([], true)
  | n + 1, tag :: len :: rest =>
    if rest.length < len.toNat then ([], true)
    else
      let r := walkRecords n (rest.drop len.toNat)
      ({ tag := tag.toNat, value := rest.take len.toNat } :: r.1, r.2)

/-! ## The records of each tag -/

/-- A record accepted into an image, or none where it is rejected: what SITE carries (R57). -/
def takeSite (v : List Byte) (i : Image) : Option Image :=
  if v.length = 5 ∧ siteInRanges (leNat v 0 4) (leNat v 4 1) then
    some { i with limit := leNat v 0 4, period := leNat v 4 1 }
  else none

/-- The bay configuration of a BAY record. -/
def bayRecordConfig (v : List Byte) : BayConfig :=
  { pmin := leNat v 1 4, pmax := leNat v 5 4, stopDelay := leNat v 9 1, releaseWindow := leNat v 10 1,
    idleTimeout := leNat v 11 2 }

/-- BAY (R24). -/
def takeBay (v : List Byte) (i : Image) : Option Image :=
  match bayOf (leNat v 0 1) with
  | none => none
  | some b => if v.length = 13 ∧ (bayRecordConfig v).inRanges then some { i with bays := i.bays.set b (bayRecordConfig v) } else none

/-- A pair number, none above 5. -/
def pairOfNat (n : Nat) : Option (Fin 6) := if h : n < 6 then some ⟨n, h⟩ else none

/-- PAIR (R24). -/
def takePair (v : List Byte) (i : Image) : Option Image :=
  match pairOfNat (leNat v 0 1) with
  | none => none
  | some p =>
    if v.length = 6 ∧ capInRange (leNat v 1 4) ∧ leNat v 5 1 / 2 = p.val then
      some { i with pairs := i.pairs.set p { cap := leNat v 1 4, evenIsOdd := leNat v 5 1 % 2 == 1 } }
    else none

/-- The channel configuration of a CHANNELS record. -/
def channelsRecord (v : List Byte) : ChannelConfig :=
  { bayWmin := leNat v 0 2, bayWmax := leNat v 2 2, silenceLimit := leNat v 4 2, siteWmin := leNat v 6 2,
    siteWmax := leNat v 8 2, energies := Vector.ofFn fun k : Fin 5 => leNat v (10 + k.val) 1 }

/-- The values of a channel configuration lie in the ranges of R3. -/
def ChannelConfig.inRanges (c : ChannelConfig) : Bool :=
  inRange 1 1000 c.bayWmin && inRange c.bayWmin 5000 c.bayWmax && inRange 10 600 c.silenceLimit &&
  inRange 1 1000 c.siteWmin && inRange c.siteWmin 5000 c.siteWmax && c.energies.toList.all (inRange 1 100)

/-- CHANNELS (R1, R3). -/
def takeChannels (v : List Byte) (i : Image) : Option Image :=
  if v.length = 15 ∧ (channelsRecord v).inRanges then some { i with channels := channelsRecord v } else none

/-- BATTERY (R92). -/
def takeBattery (v : List Byte) (i : Image) : Option Image :=
  if v.length = 16 ∧ batteryInRanges (leNat v 0 4) (leNat v 4 4) (leNat v 8 4) (leNat v 12 4) then
    some { i with cap := leNat v 0 4, reserve := leNat v 4 4, cmax := leNat v 8 4, dmax := leNat v 12 4 }
  else none

/-- RECEIPT_WINDOW (R118). -/
def takeReceiptWindow (v : List Byte) (i : Image) : Option Image :=
  if v.length = 8 ∧ receiptFits (leNat v 0 4) (leNat v 4 2) (leNat v 6 2) then
    some { i with receipt := { base := some (leNat v 0 4), slots := leNat v 4 2, lowWater := leNat v 6 2 } }
  else none

/-- The geometry of a SNAPSHOT_WINDOW record. -/
def snapshotRecord (v : List Byte) : SnapshotWriter :=
  { base := baseOf (leNat v 0 4), stride := leNat v 4 2, decimation := leNat v 6 1 }

/-- SNAPSHOT_WINDOW (R110). -/
def takeSnapshotWindow (v : List Byte) (i : Image) : Option Image :=
  if v.length = 7 ∧ snapshotFits (snapshotRecord v) then some { i with snapshot := snapshotRecord v } else none

/-- ERROR_POLICY (R170). -/
def takeErrorPolicy (v : List Byte) (i : Image) : Option Image :=
  match kindSetOf (leNat v 0 2), kindSetOf (leNat v 2 2) with
  | some m, some h => if v.length = 4 then some { i with masked := m, holds := h } else none
  | none, _ => none
  | some _, none => none

/-- CAUSE_MAP (R165). -/
def takeCauseMap (v : List Byte) (i : Image) : Option Image :=
  match causeMapOf (leNat v 0 4) with
  | some m => if v.length = 4 then some { i with causeMap := m } else none
  | none => none

/-- SUPPLY_MAP (R69). -/
def takeSupplyMap (v : List Byte) (i : Image) : Option Image :=
  match supplyMapOf (leNat v 0 1) (leNat v 1 1) (leNat v 2 1) with
  | some m => if v.length = 3 then some { i with map := m } else none
  | none => none

/-- The defaults put back for one bay, where the record's first byte names one (R181, log 22). -/
def dropBay (v : List Byte) (i : Image) : Image :=
  if v.length = 0 then i
  else match bayOf (leNat v 0 1) with
    | some b => { i with bays := i.bays.set b {} }
    | none => i

/-- The defaults put back for one pair, where the record's first byte names one (R181, log 22). -/
def dropPair (v : List Byte) (i : Image) : Image :=
  if v.length = 0 then i
  else match pairOfNat (leNat v 0 1) with
    | some p => { i with pairs := i.pairs.set p {} }
    | none => i

/-- A record of a known tag taken or rejected: what is accepted, and the image with the defaults for everything the record
carries (R181); none for an unknown tag. -/
def judgeRecord (i : Image) (r : Record) : Option (Option Image × Image) :=
  let v := r.value
  let d : Image := {}
  match r.tag with
  | 1 => some (takeSite v i, { i with limit := d.limit, period := d.period })
  | 2 => some (takeBay v i, dropBay v i)
  | 3 => some (takePair v i, dropPair v i)
  | 4 => some (takeChannels v i, { i with channels := d.channels })
  | 5 => some (takeBattery v i, { i with cap := d.cap, reserve := d.reserve, cmax := d.cmax, dmax := d.dmax })
  | 6 => some (takeReceiptWindow v i, { i with receipt := d.receipt })
  | 7 => some (takeSnapshotWindow v i, { i with snapshot := d.snapshot })
  | 8 => some (takeErrorPolicy v i, { i with masked := d.masked, holds := d.holds })
  | 9 => some (takeCauseMap v i, { i with causeMap := d.causeMap })
  | 10 => some (takeSupplyMap v i, { i with map := d.map })
  | _ => none

/-- An image with the detail codes of SETTINGS_BAD found so far, in order. -/
structure Judged where
  image : Image := {}
  bad   : List Nat := []
  deriving DecidableEq, Repr

/-- A record taken in order (R181). -/
def Judged.take (j : Judged) (r : Record) : Judged :=
  match judgeRecord j.image r with
  | none => j
  | some (some i, _) => { j with image := i }
  | some (none, i) => { image := i, bad := j.bad ++ [r.tag] }

/-- The cross-record check of a pair: its cap is 0 or at least the greater Pmin of its two bays (R24). -/
def Judged.checkPair (j : Judged) (p : Fin 6) : Judged :=
  let c := (j.image.pairs[p]).cap
  if c = 0 ∨ max (j.image.bays[lowerBay p]).pmin (j.image.bays[higherBay p]).pmin ≤ c then j
  else { image := { j.image with pairs := j.image.pairs.set p {} }, bad := j.bad ++ [3] }

/-- The cross-record check of the snapshot window against the receipt window (R110). -/
def Judged.checkSnapshot (j : Judged) : Judged :=
  if windowsMeet j.image.receipt j.image.snapshot then
    { image := { j.image with snapshot := {} }, bad := j.bad ++ [7] }
  else j

/-- The image that bytes supply, with what is found bad (R181). -/
def judgeImage (bytes : List Byte) : Judged :=
  if imageValid bytes then
    let w := walkRecords (imageLength bytes) (bytesAt bytes 6 (imageLength bytes))
    let j := w.1.foldl Judged.take {}
    let k := if w.2 then { j with bad := j.bad ++ [0] } else j
    ((List.finRange 6).foldl Judged.checkPair k).checkSnapshot
  else { bad := [0] }

/-- The stored epoch, none when its CRC-32 does not match (R181). -/
def storedEpoch (bytes : List Byte) : Option Word :=
  if crcMatches (bytesAt bytes 1000 4) (leNat bytes 1004 4) then some (BitVec.ofNat 32 (leNat bytes 1000 4)) else none

/-- The detail code of SETTINGS_BAD for the epoch (spec/11 11.6). -/
def epochDetail : Nat := 255

/-- What the preload found (R181): a failed read is a bad image and a bad epoch. The read has 1008 bytes; of another number, those
that are there are judged (the model's choice, log 42). -/
def preloaded (ok : Bool) (bytes : List Byte) : Preloaded :=
  let j := if ok then judgeImage bytes else { bad := [0] }
  match (if ok then storedEpoch bytes else none) with
  | some e => { image := j.image, epoch := e + 1, bad := j.bad }
  | none => { image := j.image, epoch := 1, bad := j.bad ++ [epochDetail] }

/-! ## Operations on the settings line (R179) -/

/-- An operation joins the request list. -/
def State.requestSettings (s : State) (op : SettingsOp) : State :=
  { s with sp := { s.sp with requests := s.sp.requests ++ [op] } }

/-- The operation in flight has ended. -/
def State.endSettings (s : State) : State := { s with sp := { s.sp with inFlight := none } }

/-- The operation that begins when the line is free (R179): the oldest request. In STARTING the port requests the preload of
itself (R181); the list is empty then, so that request is the oldest and begins as it is made (log 8). -/
def State.nextSettings (s : State) : Option SettingsOp :=
  match s.sp.requests with
  | op :: _ => some op
  | [] => if s.pu.link = .starting then some .preload else none

/-- An operation can begin: the line is free and one is requested (R179). -/
def State.settingsDue (s : State) : Bool := s.sp.inFlight.isNone && s.nextSettings.isSome

/-- SETTINGS_OPERATION_START (R179): the oldest request begins when the line is free. -/
def execSettingsOperationStart (s : State) : Host.Outcome State Fault Refusal :=
  if s.settingsDue then
    .next { s with sp := { s.sp with inFlight := s.nextSettings, requests := s.sp.requests.tail } }
  else .next s

/-- Bytes placed one after another in the settings memory. -/
def placeBytes (offset : Nat) (bytes : List Byte) : List SettingsByte :=
  bytes.zipIdx.map fun b => { offset := offset + b.2, value := b.1 }

/-- The epoch record: an epoch and its CRC-32, into bytes 1000..1007 (R181, R182, spec/11 11.7). -/
def epochRecord (epoch : Word) : List SettingsByte :=
  placeBytes Config.epochOffset (wordBytes epoch ++ wordBytes (crc32 (wordBytes epoch)))

/-- PRELOAD_READ_END (R181): the image and the epoch are judged, and the epoch write-back is requested. -/
def execPreloadReadEnd (ok : Bool) (bytes : List Byte) (s : State) : Host.Outcome State Fault Refusal :=
  if s.sp.inFlight = some .preload then
    let p := preloaded ok bytes
    .next ({ s.endSettings with sp := { s.endSettings.sp with found := p } }.requestSettings (.epochWrite (epochRecord p.epoch)))
  else .next s

/-! ## The end of STARTING (R181) -/

/-- The Battery Account's event (R103). -/
def BatteryAccount.start (b : BatteryAccount) (i : Image) : BatteryAccount :=
  let full := b.fullLine.taken && !b.emptyLine.taken
  let empty := b.emptyLine.taken && !b.fullLine.taken
  { b with
    cap := i.cap, reserve := i.reserve, cmax := i.cmax, dmax := i.dmax, setpoint := 0
    state := if b.readyLine.taken then .idle else .offline
    eb := if full then i.cap else if empty then 0 else min i.cap b.eb
    calibrated := b.calibrated || full || empty }

/-- The Receipt Writer's event (R142). -/
def ReceiptWriter.start (r : ReceiptWriter) (g : ReceiptGeometry) (epoch : Word) : ReceiptWriter :=
  { r with geometry := g, nextSlot := 0, windowFirst := 1, epoch := epoch, chain := chainStart epoch }.judgeGeometry

/-- A Bay Controller's event (R55): PLUGGED if PLUG is taken high, and VACANT otherwise, a level still unset included. -/
def Bay.start (x : Bay) (c : BayConfig) : Bay :=
  { x with config := c, state := if x.plug = some true then .plugged else .vacant }

/-- The Error Log takes the preloaded policy (R178); a kind that it leaves set, unmasked and HOLD holds the site (R173,
log 37). -/
def ErrorLog.start (el : ErrorLog) (masks holds : BitVec 12) : ErrorLog :=
  let n := el.takePolicy masks holds
  { n with hold := n.hold || n.mustHold }

/-- Every block takes its preloaded values (R3, R24, R57, R69, R110, R142, R165, R178), the link becomes DETACHED (R148), and
usability is judged, nothing recorded (log 20), what that would make deliverable released (R168). -/
def State.takeImage (s : State) (f : Preloaded) : State :=
  { s with
    meterConfig := f.image.channels
    bays := Vector.ofFn fun b : Fin 12 => (s.bay b).start f.image.bays[b]
    pairs := f.image.pairs
    al := { s.al with limit := f.image.limit, period := f.image.period, map := f.image.map }
    sw := f.image.snapshot
    rw := s.rw.start f.image.receipt f.epoch
    nu := { s.nu with causeMap := f.image.causeMap }
    el := s.el.start f.image.masked f.image.holds
    pu := { s.pu with link := .detached } }.judgeUsable.releaseVectors

/-- The recordings of the end of STARTING (R178, R181): SETTINGS_BAD in the order found, and EPOCH_UNSAVED after a failed
write-back, which starts the retry timer (R182). -/
def State.recordStart (s : State) (ok : Bool) (f : Preloaded) : State :=
  let t := f.bad.foldl (fun u d => u.record { kind := .settingsBad, detail := field d }) s
  if ok then t
  else { t with sp := { t.sp with retryTimer := some Config.retryMs } }.record { kind := .epochUnsaved, detail := 0 }

/-- Every feedback watch starts (R55). -/
def State.watchAll (s : State) : State := (List.finRange 12).foldl State.watchFeedback s

/-- STARTING ends (R181): every block takes its event, then comes boundary 0 (R56, R60), and the held anchor access is
accepted in DETACHED (R148). -/
def State.endStarting (s : State) (ok : Bool) (order : List Nat) : State :=
  let f := s.sp.found
  let t := (s.endSettings.takeImage f).recordStart ok f
  let u := (t.batteryEvent (t.ba.start f.image)).watchAll
  (u.boundary (emptyPlan u.al.period) { parts := order }).acceptHeld

/-- The operation in flight is the epoch write-back that ends STARTING (R181). -/
def State.epochWriting (s : State) : Bool :=
  s.pu.link == .starting && match s.sp.inFlight with
    | some (.epochWrite _) => true
    | some .preload => false
    | some (.epochRetry _) => false
    | some (.commandRead ..) => false
    | some (.commandWrite ..) => false
    | none => false

/-- STARTING_END (R181): the epoch write-back ends. -/
def execStartingEnd (ok : Bool) (order : List Nat) (s : State) : Host.Outcome State Fault Refusal :=
  if s.epochWriting then .next (s.endStarting ok order) else .next s

/-! ## Epoch retries (R182) -/

/-- EPOCH_RETRY_TIMER_EXPIRY (R182): the same write is requested again. -/
def execEpochRetryTimerExpiry (s : State) : Host.Outcome State Fault Refusal :=
  if s.sp.retryTimer = some 0 then
    .next ({ s with sp := { s.sp with retryTimer := none } }.requestSettings (.epochRetry (epochRecord s.sp.found.epoch)))
  else .next s

/-- EPOCH_RETRY_END (R182): on OK the Error Log takes the clearing of EPOCH_UNSAVED (R176); on failure the timer starts
again. -/
def execEpochRetryEnd (ok : Bool) (s : State) : Host.Outcome State Fault Refusal :=
  match s.sp.inFlight with
  | some (.epochRetry _) =>
    if ok then .next { s.endSettings with el := s.el.clear ErrorKind.epochUnsaved.bit }
    else .next { s with sp := { s.sp with inFlight := none, retryTimer := some Config.retryMs } }
  | some .preload => .next s
  | some (.epochWrite _) => .next s
  | some (.commandRead ..) => .next s
  | some (.commandWrite ..) => .next s
  | none => .next s

/-! ## SETTINGS_READ and SETTINGS_WRITE (R180) -/

/-- The offsets that SETTINGS_READ reads: offset..offset+3, each modulo 2048 (R180). -/
def readOffsets (offset : Nat) : List Nat := (List.range 4).map fun i => (offset + i) % Config.settingsBytes

/-- The bytes that SETTINGS_WRITE writes: those of the four that fall at 2047 or below (R180), the first the lowest. -/
def writtenBytes (offset : Nat) (data : Word) : List SettingsByte :=
  (placeBytes offset (wordBytes data)).filter fun b => decide (b.offset < Config.settingsBytes)

/-- The effect of SETTINGS_READ (R180): refused, or its operation requested and no reply yet. -/
def settingsReadEffect (offset : Word) (s : State) : State × Option Reply :=
  if 2047 < offset.toNat then refuse .badArgument s
  else (s.requestSettings (.commandRead (readOffsets offset.toNat) false), none)

/-- SETTINGS_READ (R180). -/
def execSettingsRead (offset : Word) (s : State) : Host.Outcome State Fault Refusal :=
  .next (s.ringCommand (.settingsRead offset) (settingsReadEffect offset))

/-- The effect of SETTINGS_WRITE (R180). -/
def settingsWriteEffect (offset data : Word) (s : State) : State × Option Reply :=
  if 2047 < offset.toNat then refuse .badArgument s
  else if offset.toNat < 1024 then refuse .isProtected s
  else (s.requestSettings (.commandWrite (writtenBytes offset.toNat data) false), none)

/-- SETTINGS_WRITE (R180). -/
def execSettingsWrite (offset data : Word) (s : State) : Host.Outcome State Fault Refusal :=
  .next (s.ringCommand (.settingsWrite offset data) (settingsWriteEffect offset data))

/-- The reply to the command that waits for its settings operation (R160, R161). -/
def State.replySettings (s : State) (r : Reply) : State :=
  match s.cu.step with
  | .executing position words true => s.queueReply position (slotTag words) r
  | .idle | .fetching .. | .executing .. | .replying _ => s

/-- The reply a settings operation gives (R180). -/
def settingsReply (ok : Bool) (result : Word) : Reply := if ok then .done result 0 else .refused .settingsFault 0

/-- A read's result: its four bytes, the byte at the first offset in the lowest byte (R180); a byte
that the completion does not carry is 0 (the model's choice, log 42). -/
def readResult (bytes : List Byte) : Word := BitVec.ofNat 32 (leNat bytes 0 4)

/-- SETTINGS_COMMAND_END (R180): a read returns the four bytes that the memory holds at the operation's offsets, a write the
number of bytes it wrote; the end of a discarded operation changes nothing further (R163). -/
def execSettingsCommandEnd (ok : Bool) (bytes : List Byte) (s : State) : Host.Outcome State Fault Refusal :=
  match s.sp.inFlight with
  | some (.commandRead _ discarded) =>
    .next (if discarded then s.endSettings else s.endSettings.replySettings (settingsReply ok (readResult bytes)))
  | some (.commandWrite written discarded) =>
    .next (if discarded then s.endSettings
      else s.endSettings.replySettings (settingsReply ok (field written.length)))
  | some .preload => .next s
  | some (.epochWrite _) => .next s
  | some (.epochRetry _) => .next s
  | none => .next s

end Sys2Proof.Machine
end

