-- ==== Sys2Proof/Machine/Clock.lean ====
section
/-! DEFINITION. The Site Clock (spec/10 10.3): the site-time second and SET_TIME. -/

namespace Sys2Proof.Machine

/-- A second of the timebase has passed since the last (R183). -/
def Clock.secondDue (c : Clock) : Bool := decide (1000 ≤ c.subMs)

/-- SITE_TIME_TICK (R183). -/
def execSiteTimeTick (s : State) : Host.Outcome State Fault Refusal :=
  if s.clock.secondDue then
    .next { s with clock := { s.clock with siteTime := s.clock.siteTime + 1, subMs := s.clock.subMs - 1000 } }
  else .next s

/-- The effect of SET_TIME (R183): the value is set, the 1000 ms count restarts, the flag clears. -/
def setTimeEffect (time : Word) (s : State) : State × Option Reply :=
  ({ s with clock := { s.clock with siteTime := time, subMs := 0, timeUnset := false } }, some (.done s.clock.siteTime 0))

/-- SET_TIME (R183). -/
def execSetTime (time : Word) (s : State) : Host.Outcome State Fault Refusal :=
  .next (s.ringCommand (.setTime time) (setTimeEffect time))

end Sys2Proof.Machine
end

