-- ==== Sys2Proof/Machine/Reset.lean ====
section
/-! DEFINITION. The two resets: POR (R19, R55, R86, R103, R109, R110, R142, R156, R163, R169, R178, R179, R183) and CRST
(R156, R163, R169). -/

namespace Sys2Proof.Machine

/-! ## POR -/

/-- A bay after POR: all its state cleared, the levels its lines have (log 7). -/
def Bay.afterPor (x : Bay) : Bay :=
  { plugLine := x.plugLine, readyLine := x.readyLine, releaseLine := x.releaseLine, feedback := x.feedback }

/-- A channel after POR: its record cleared, its line as it is (R4, R19, log 7). -/
def Channel.afterPor (c : Channel) : Channel := { lineActive := c.lineActive }

/-- A battery line after POR: its taken level low, its filter running, its line as it is (R87, log 7). -/
def FilteredLine.afterPor (x : FilteredLine) : FilteredLine := { line := x.line }

/-- The part after POR (R55): every field at its POR value, the levels of the input lines kept (log 7), and the commands that
wait with the model's own counter (log 32). -/
def State.afterPor (s : State) : State :=
  { State.reset with
    pending := s.pending
    free := s.free
    channels := s.channels.map Channel.afterPor
    bays := s.bays.map Bay.afterPor
    ba := { readyLine := s.ba.readyLine.afterPor, fullLine := s.ba.fullLine.afterPor, emptyLine := s.ba.emptyLine.afterPor } }

/-- POR (R55). -/
def execPor (s : State) : Host.Outcome State Fault Refusal := .next s.afterPor

/-! ## CRST -/

/-- The effect of a ring command with its reply; another command has none (R160). -/
def commandEffect (c : Instr) (s : State) : State × Option Reply :=
  match c with
  | .unknownCommand _ => unknownEffect s
  | .authorise b c q r => authoriseEffect b c q r s
  | .stop b n => stopEffect b n s
  | .extendQuota b n a => extendQuotaEffect b n a s
  | .releaseConfirm b n => releaseConfirmEffect b n s
  | .releaseCancel b n => releaseCancelEffect b n s
  | .maintenanceOn b p => maintenanceOnEffect b p s
  | .maintenanceOff b p => maintenanceOffEffect b p s
  | .clearBay b => clearBayEffect b s
  | .setBay b pmin pmax d w i f p => setBayEffect b pmin pmax d w i f p s
  | .setSite g t => setSiteEffect g t s
  | .setSupplyMap p q e => setSupplyMapEffect p q e s
  | .setBattery c r i o => setBatteryEffect c r i o s
  | .setTime t => setTimeEffect t s
  | .collect q => collectEffect q s
  | .setReceiptWindow b n l => setReceiptWindowEffect b n l s
  | .setSnapshotWindow b n d => setSnapshotWindowEffect b n d s
  | .causeMap m => causeMapEffect m s
  | .clearErrors k o => clearErrorsEffect k o s
  | .ackError => ackErrorEffect s
  | .setErrorPolicy m h => setErrorPolicyEffect m h s
  | .clearHold => clearHoldEffect s
  | .settingsRead o => settingsReadEffect o s
  | .settingsWrite o d => settingsWriteEffect o d s
  | _ => (s, none)

/-- A command in execution completes its effect; no reply is queued (R163, log 12). -/
def State.completeExecution (s : State) : State :=
  match s.cu.step with
  | .executing _ words false => (commandEffect (decodeCommand words) s).1
  | .executing _ _ true => s
  | .idle | .fetching .. | .replying _ => s

/-- A command's settings operation is still performed, and its end is discarded (R163). -/
def SettingsOp.discard : SettingsOp → SettingsOp
  | .commandRead o _ => .commandRead o true
  | .commandWrite b _ => .commandWrite b true
  | .preload => .preload
  | .epochWrite b => .epochWrite b
  | .epochRetry b => .epochRetry b

/-- The settings operations of commands marked as discarded (R163). -/
def SettingsPort.discard (p : SettingsPort) : SettingsPort :=
  { p with requests := p.requests.map SettingsOp.discard, inFlight := p.inFlight.map SettingsOp.discard }

/-- A read in performance completes and its data are discarded (R149, R163). -/
def MPort.discard : MPort → MPort
  | .read r _ => .read r true
  | .free => .free
  | .controller => .controller
  | .entry => .entry

/-- A write accepted before the reset is not copied at its completion (R147). -/
def Access.forget : Access → Access
  | .write a w _ => .write a w false
  | .read a o => .read a o

/-- The C-port after CRST: an accepted transaction goes on as it would have done, its copy mark gone (R147, R156). -/
def CPort.forget : CPort → CPort
  | .hitHeld a n => .hitHeld a.forget n
  | .waiting a => .waiting a.forget
  | .granted a => .granted a.forget
  | .empty => .empty
  | .anchorHeld r => .anchorHeld r

/-- A reply entry in performance is reported to no command after CRST (R163). -/
def Entry.orphan (e : Entry) : Entry :=
  match e.kind with
  | .reply _ => { e with kind := .reply true }
  | .receipt .. | .snapshot _ | .notice _ => e

/-- Notices and replies: the entries that CRST removes when they have not begun (R156). -/
def EntryKind.isMessage : EntryKind → Bool
  | .notice _ | .reply _ => true
  | .receipt .. | .snapshot _ => false

/-- The link state after CRST (R148, R156). -/
def LinkState.afterCrst : LinkState → LinkState
  | .starting => .starting
  | .detached | .attaching | .attached => .detached

/-- The Path Unit's own part of CRST, the queue apart (R156). -/
def PathUnit.afterCrst (p : PathUnit) : PathUnit :=
  { p with link := p.link.afterCrst, waitCount := 0, mport := p.mport.discard, partRead := none, cport := p.cport.forget,
           selector := none }

/-- The entries in performance after CRST. -/
def State.orphanReplies (s : State) : State := { s with pu := { s.pu with queue := s.pu.queue.map Entry.orphan } }

/-- A held anchor access is accepted under DETACHED; during STARTING it stays held (R148, R156). -/
def State.acceptAfterCrst (s : State) : State := if s.pu.link = .starting then s else s.acceptHeld

/-- The part after CRST (R156, R163, R169). -/
def State.afterCrst (s : State) : State :=
  let t := s.completeExecution
  let u := { t with pu := t.pu.afterCrst, cu := {}, sp := t.sp.discard }
  ((u.removeEntries EntryKind.isMessage).orphanReplies.resetNotices).acceptAfterCrst

/-- CRST (R156). -/
def execCrst (s : State) : Host.Outcome State Fault Refusal := .next s.afterCrst

end Sys2Proof.Machine
end

