-- ==== Sys2Proof/Machine/Tick.lean ====
section
/-! DEFINITION. What the part does when no command waits (log 1): the events of its own that are due, each a row of the
table, and the passing of one millisecond of the timebase (R2, R183). -/

namespace Sys2Proof.Machine

/-- A timer after a millisecond: one that has run out or is stopped stays as it is. -/
def countDown : Option Nat → Option Nat
  | some (n + 1) => some n
  | some 0 => some 0
  | none => none

/-- A bay's timers after a millisecond. -/
def Bay.tick (x : Bay) : Bay :=
  { x with
    plugTimer := countDown x.plugTimer, readyTimer := countDown x.readyTimer
    releaseLineTimer := countDown x.releaseLineTimer, idleTimer := countDown x.idleTimer
    releaseTimer := countDown x.releaseTimer, stopDelayTimer := countDown x.stopDelayTimer
    feedbackTimer := countDown x.feedbackTimer }

/-- A battery line's timer after a millisecond. -/
def FilteredLine.tick (x : FilteredLine) : FilteredLine := { x with timer := countDown x.timer }

/-- The Battery Account's timers after a millisecond. -/
def BatteryAccount.tick (b : BatteryAccount) : BatteryAccount :=
  { b with readyLine := b.readyLine.tick, fullLine := b.fullLine.tick, emptyLine := b.emptyLine.tick }

/-- One millisecond of the timebase passes (R2, R183). -/
def State.tick (s : State) : State :=
  { s with
    clock := { s.clock with ms := s.clock.ms + 1, subMs := s.clock.subMs + 1 }
    bays := s.bays.map Bay.tick
    ba := s.ba.tick
    al := { s.al with boundaryTimer := countDown s.al.boundaryTimer }
    sp := { s.sp with retryTimer := countDown s.sp.retryTimer } }

/-- An event, where it is due. -/
def dueIf (due : Bool) (c : Instr) : List Instr := if due then [c] else []

/-- The ring command that the Command Unit has fetched and not yet handed over (R160). -/
def CommandUnit.ownEvents (c : CommandUnit) : List Instr :=
  match c.step with
  | .executing _ words false => [decodeCommand words]
  | .executing _ _ true => []
  | .idle | .fetching .. | .replying _ => []

/-- The events due at a bay. -/
def State.bayEvents (s : State) (b : Fin 12) : List Instr :=
  let x := s.bay b
  dueIf (x.plugTimer == some 0) (.plugFilterExpiry b) ++
  dueIf (x.readyTimer == some 0) (.readyFilterExpiry b) ++
  dueIf (x.releaseLineTimer == some 0) (.releaseFilterExpiry b) ++
  dueIf (x.feedbackTimer == some 0) (.feedbackTimerExpiry b) ++
  dueIf (x.idleTimer == some 0 && x.state == .authorised) (.idleTimerExpiry b) ++
  dueIf (x.releaseTimer == some 0 && x.state == .releasePending) (.releaseTimerExpiry b) ++
  dueIf (x.stopDelayTimer == some 0 && x.state == .stopping) (.stopDelayExpiry b) ++
  dueIf x.exitDue (.issuingExit b) ++
  dueIf (s.closedReportDue b) (.sessionClosedReport b) ++
  dueIf (x.meterFaults != 0) (.meterFaultEvent b) ++
  dueIf (s.silenceDue b) (.silenceFound b)

/-- The events due at a channel. -/
def State.channelEvents (s : State) (ch : Fin 17) : List Instr :=
  dueIf (s.widthDue ch) (.pulseWidthExceeded ch) ++ dueIf (s.staleDue ch) (.channelStale ch)

/-- The events due at the Allocator: a plan's computation ends before the boundary that needs it (R62, log 23). -/
def State.roundEvents (s : State) : List Instr :=
  dueIf s.boundaryDue.isSome (.roundBoundary { parts := Config.freeOrder s.free, window := Config.freeWindow s.free }) ++
  dueIf (s.al.boundaryTimer == some 0 && s.computing.isSome) .planComputationEnd

/-- A battery line's filter has run out. -/
def State.lineDue (s : State) (l : BattLine) : Bool := (s.ba.line l).timer == some 0

/-- The events of the part's own that are due now (log 1, log 3). -/
def State.ownEvents (s : State) : List Instr :=
  dueIf s.settingsDue .settingsOperationStart ++
  dueIf (s.sp.retryTimer == some 0) .epochRetryTimerExpiry ++
  dueIf s.clock.secondDue .siteTimeTick ++
  dueIf s.grantDue .mPortGrant ++
  s.cu.ownEvents ++
  s.roundEvents ++
  dueIf (s.lineDue .ready) (.battLineFilterExpiry .ready) ++
  dueIf (s.lineDue .full) (.battLineFilterExpiry .full) ++
  dueIf (s.lineDue .empty) (.battLineFilterExpiry .empty) ++
  (List.finRange 17).flatMap s.channelEvents ++
  (List.finRange 12).flatMap s.bayEvents

/-- The event the part takes by itself: the one that is due, one of several by a free value (log 3), or none. -/
def State.nextOwn (s : State) : Option (Instr × State) :=
  match s.ownEvents with
  | [] => none
  | [c] => some (c, { s with free := s.free + 1 })
  | c :: d :: rest =>
    some ((c :: d :: rest).getD (Config.freeChoice s.free % (rest.length + 2)) c, { s with free := s.free + 1 })

end Sys2Proof.Machine
end

