-- ==== Sys2Proof/Machine/Dispatch.lean ====
section
/-! DEFINITION. One arm for each constructor of Instr: the command's meaning. -/

namespace Sys2Proof.Machine

def exec (i : Instr) (s : State) : Host.Outcome State Fault Refusal :=
  match i with
  | .por => Sys2Proof.Machine.execPor s
  | .crst => Sys2Proof.Machine.execCrst s
  | .settingsOperationStart => Sys2Proof.Machine.execSettingsOperationStart s
  | .preloadReadEnd ok bytes => Sys2Proof.Machine.execPreloadReadEnd ok bytes s
  | .startingEnd ok order => Sys2Proof.Machine.execStartingEnd ok order s
  | .epochRetryTimerExpiry => Sys2Proof.Machine.execEpochRetryTimerExpiry s
  | .epochRetryEnd ok => Sys2Proof.Machine.execEpochRetryEnd ok s
  | .siteTimeTick => Sys2Proof.Machine.execSiteTimeTick s
  | .meterLeadingEdge channel => Sys2Proof.Machine.execMeterLeadingEdge channel s
  | .meterTrailingEdge channel => Sys2Proof.Machine.execMeterTrailingEdge channel s
  | .pulseWidthExceeded channel => Sys2Proof.Machine.execPulseWidthExceeded channel s
  | .channelStale channel => Sys2Proof.Machine.execChannelStale channel s
  | .silenceFound bay => Sys2Proof.Machine.execSilenceFound bay s
  | .meterFaultEvent bay => Sys2Proof.Machine.execMeterFaultEvent bay s
  | .plugFilterExpiry bay => Sys2Proof.Machine.execPlugFilterExpiry bay s
  | .readyFilterExpiry bay => Sys2Proof.Machine.execReadyFilterExpiry bay s
  | .releaseFilterExpiry bay => Sys2Proof.Machine.execReleaseFilterExpiry bay s
  | .feedbackChange bay closed => Sys2Proof.Machine.execFeedbackChange bay closed s
  | .feedbackTimerExpiry bay => Sys2Proof.Machine.execFeedbackTimerExpiry bay s
  | .idleTimerExpiry bay => Sys2Proof.Machine.execIdleTimerExpiry bay s
  | .releaseTimerExpiry bay => Sys2Proof.Machine.execReleaseTimerExpiry bay s
  | .stopDelayExpiry bay => Sys2Proof.Machine.execStopDelayExpiry bay s
  | .issuingExit bay => Sys2Proof.Machine.execIssuingExit bay s
  | .sessionClosedReport bay => Sys2Proof.Machine.execSessionClosedReport bay s
  | .roundBoundary order => Sys2Proof.Machine.execRoundBoundary order s
  | .planComputationEnd => Sys2Proof.Machine.execPlanComputationEnd s
  | .battLineFilterExpiry line => Sys2Proof.Machine.execBattLineFilterExpiry line s
  | .controllerWriteAccept addr words => Sys2Proof.Machine.execControllerWriteAccept addr words s
  | .releaseWrite value => Sys2Proof.Machine.execReleaseWrite value s
  | .postIndexWrite value => Sys2Proof.Machine.execPostIndexWrite value s
  | .viewSelectorWrite value => Sys2Proof.Machine.execViewSelectorWrite value s
  | .eventWordRead => Sys2Proof.Machine.execEventWordRead s
  | .forwardedTransactionComplete ok data => Sys2Proof.Machine.execForwardedTransactionComplete ok data s
  | .mPortGrant => Sys2Proof.Machine.execMPortGrant s
  | .ownWriteAttemptComplete bursts => Sys2Proof.Machine.execOwnWriteAttemptComplete bursts s
  | .sweepReadComplete ok data => Sys2Proof.Machine.execSweepReadComplete ok data s
  | .fetchReadComplete ok data => Sys2Proof.Machine.execFetchReadComplete ok data s
  | .unknownCommand code => Sys2Proof.Machine.execUnknownCommand code s
  | .authorise bay cls quota reference => Sys2Proof.Machine.execAuthorise bay cls quota reference s
  | .stop bay session => Sys2Proof.Machine.execStop bay session s
  | .extendQuota bay session amount => Sys2Proof.Machine.execExtendQuota bay session amount s
  | .releaseConfirm bay session => Sys2Proof.Machine.execReleaseConfirm bay session s
  | .releaseCancel bay session => Sys2Proof.Machine.execReleaseCancel bay session s
  | .maintenanceOn bay pattern => Sys2Proof.Machine.execMaintenanceOn bay pattern s
  | .maintenanceOff bay pattern => Sys2Proof.Machine.execMaintenanceOff bay pattern s
  | .clearBay bay => Sys2Proof.Machine.execClearBay bay s
  | .setBay bay pmin pmax stopDelay releaseWindow idleTimeout cap pairWord => Sys2Proof.Machine.execSetBay bay pmin pmax stopDelay releaseWindow idleTimeout cap pairWord s
  | .setSite limit period => Sys2Proof.Machine.execSetSite limit period s
  | .setSupplyMap priority standard economy => Sys2Proof.Machine.execSetSupplyMap priority standard economy s
  | .setBattery cap reserve cmax dmax => Sys2Proof.Machine.execSetBattery cap reserve cmax dmax s
  | .setTime time => Sys2Proof.Machine.execSetTime time s
  | .collect sequence => Sys2Proof.Machine.execCollect sequence s
  | .setReceiptWindow base slots lowWater => Sys2Proof.Machine.execSetReceiptWindow base slots lowWater s
  | .setSnapshotWindow base stride decimation => Sys2Proof.Machine.execSetSnapshotWindow base stride decimation s
  | .causeMap map => Sys2Proof.Machine.execCauseMap map s
  | .clearErrors kinds overflow => Sys2Proof.Machine.execClearErrors kinds overflow s
  | .ackError => Sys2Proof.Machine.execAckError s
  | .setErrorPolicy masks holds => Sys2Proof.Machine.execSetErrorPolicy masks holds s
  | .clearHold => Sys2Proof.Machine.execClearHold s
  | .settingsRead offset => Sys2Proof.Machine.execSettingsRead offset s
  | .settingsWrite offset data => Sys2Proof.Machine.execSettingsWrite offset data s
  | .settingsCommandEnd ok bytes => Sys2Proof.Machine.execSettingsCommandEnd ok bytes s
  | .plugLineChange bay high => Sys2Proof.Machine.execPlugLineChange bay high s
  | .readyLineChange bay high => Sys2Proof.Machine.execReadyLineChange bay high s
  | .releaseLineChange bay high => Sys2Proof.Machine.execReleaseLineChange bay high s
  | .battLineChange line high => Sys2Proof.Machine.execBattLineChange line high s
  | .controllerReadAccept addr count => Sys2Proof.Machine.execControllerReadAccept addr count s

end Sys2Proof.Machine
end

