-- ==== Sys2Proof/Safety.lean ====
section
/-! DEFINITION. What the statements speak of: the parts of the state and what an operation leaves alone, the effect of a
notice, and the invariants that the spec gives the part. -/

namespace Sys2Proof.Machine

/-! ## What is left alone -/

/-- The parts of the state: one for each field of State. -/
inductive Part where
  | pending | clock | channels | meterConfig | bays | pairs | nextSession | al | ba | sw | rw | pu | cu | nu | el | sp | free
  deriving DecidableEq, Repr

/-- One part of two states is the same. -/
def State.same (k : Part) (s t : State) : Prop :=
  match k with
  | .pending => s.pending = t.pending
  | .clock => s.clock = t.clock
  | .channels => s.channels = t.channels
  | .meterConfig => s.meterConfig = t.meterConfig
  | .bays => s.bays = t.bays
  | .pairs => s.pairs = t.pairs
  | .nextSession => s.nextSession = t.nextSession
  | .al => s.al = t.al
  | .ba => s.ba = t.ba
  | .sw => s.sw = t.sw
  | .rw => s.rw = t.rw
  | .pu => s.pu = t.pu
  | .cu => s.cu = t.cu
  | .nu => s.nu = t.nu
  | .el => s.el = t.el
  | .sp => s.sp = t.sp
  | .free => s.free = t.free

/-- Every part outside a list is the same in both states. -/
structure State.changesOnly (ps : List Part) (s t : State) : Prop where
  same : ∀ k, k ∉ ps → State.same k s t

/-- The parts of the state that a row may change; the rest of the state a row leaves as it is. A ring command also queues its
reply and moves the Command Unit on; CRST may complete any ring command. -/
def touchedBy : Instr → List Part
  | .por => [.clock, .channels, .meterConfig, .bays, .pairs, .nextSession, .al, .ba, .sw, .rw, .pu, .cu, .nu, .el, .sp]
  | .crst => [.clock, .channels, .bays, .pairs, .nextSession, .al, .ba, .sw, .rw, .pu, .cu, .nu, .el, .sp]
  | .startingEnd .. => [.channels, .meterConfig, .bays, .pairs, .al, .ba, .sw, .rw, .pu, .cu, .nu, .el, .sp]
  | .settingsOperationStart | .preloadReadEnd .. | .epochRetryTimerExpiry => [.sp]
  | .epochRetryEnd _ => [.sp, .el]
  | .siteTimeTick => [.clock]
  | .meterLeadingEdge _ | .channelStale _ => [.channels]
  | .meterTrailingEdge _ => [.bays, .channels, .ba, .rw, .el, .nu, .pu]
  | .pulseWidthExceeded _ | .silenceFound _ => [.bays, .channels, .el, .nu, .pu]
  | .meterFaultEvent _ | .plugFilterExpiry _ | .idleTimerExpiry _ | .releaseTimerExpiry _ => [.bays, .channels, .rw, .nu, .pu]
  | .readyFilterExpiry _ | .feedbackChange .. | .stopDelayExpiry _ => [.bays, .channels, .rw, .pu]
  | .feedbackTimerExpiry _ => [.bays, .channels, .rw, .el, .nu, .pu]
  | .releaseFilterExpiry _ | .issuingExit _ => [.bays, .nu, .pu]
  | .sessionClosedReport _ => [.bays, .rw]
  | .plugLineChange .. | .readyLineChange .. | .releaseLineChange .. => [.bays]
  | .battLineChange .. => [.ba]
  | .battLineFilterExpiry _ => [.ba, .el, .nu, .pu]
  | .roundBoundary _ => [.bays, .channels, .al, .ba, .sw, .el, .nu, .pu, .cu]
  | .planComputationEnd => [.al, .bays]
  | .controllerWriteAccept .. | .releaseWrite _ | .postIndexWrite _ | .viewSelectorWrite _ => [.cu, .el, .nu, .pu]
  | .controllerReadAccept .. | .eventWordRead => [.bays, .pu]
  | .forwardedTransactionComplete .. => [.el, .nu, .pu]
  | .mPortGrant => [.nu, .pu]
  | .ownWriteAttemptComplete _ => [.bays, .rw, .cu, .el, .nu, .pu]
  | .sweepReadComplete .. => [.bays, .cu, .el, .nu, .pu]
  | .fetchReadComplete .. => [.cu, .el, .nu, .pu]
  | .unknownCommand _ => [.cu, .pu]
  | .authorise .. => [.bays, .nextSession, .rw, .nu, .cu, .pu]
  | .stop .. | .releaseConfirm .. => [.bays, .channels, .rw, .nu, .cu, .pu]
  | .extendQuota .. | .releaseCancel .. | .maintenanceOn .. | .clearBay _ => [.bays, .cu, .pu]
  | .maintenanceOff .. => [.bays, .nu, .cu, .pu]
  | .setBay .. => [.bays, .pairs, .cu, .pu]
  | .setSite .. | .setSupplyMap .. => [.al, .cu, .pu]
  | .setBattery .. => [.ba, .nu, .cu, .pu]
  | .setTime _ => [.clock, .cu, .pu]
  | .collect _ => [.rw, .cu, .pu]
  | .setReceiptWindow .. => [.rw, .el, .nu, .cu, .pu]
  | .setSnapshotWindow .. => [.sw, .el, .nu, .cu, .pu]
  | .causeMap _ => [.nu, .cu, .pu]
  | .clearErrors .. | .ackError => [.el, .cu, .pu]
  | .setErrorPolicy .. | .clearHold => [.el, .nu, .cu, .pu]
  | .settingsRead _ | .settingsWrite .. | .settingsCommandEnd .. => [.sp, .cu, .pu]

/-- Every other bay and every other bay channel is the same in both states. -/
def State.otherBaysSame (b : Fin 12) (s t : State) : Prop :=
  ∀ c, c ≠ b → t.bay c = s.bay c ∧ t.channel (bayChannel c) = s.channel (bayChannel c)

/-- The Command Unit is executing a command it has not handed over yet, at a position, from these fetched words (R160). -/
def State.executes (s : State) (c : Instr) (position : BitVec 4) (words : List Word) : Prop :=
  s.cu.step = .executing position words false ∧ decodeCommand words = c

/-- The event is one the part takes by itself now (log 1, log 3): its occasion stands, and for PLAN_COMPUTATION_END the boundary that
needs the plan has come (log 23). The order and the window of a boundary of its own are free values (log 4, log 25). -/
def State.comesDue (s : State) (c : Instr) : Prop :=
  match c with
  | .plugFilterExpiry b => (s.bay b).plugTimer = some 0
  | .readyFilterExpiry b => (s.bay b).readyTimer = some 0
  | .releaseFilterExpiry b => (s.bay b).releaseLineTimer = some 0
  | .feedbackTimerExpiry b => (s.bay b).feedbackTimer = some 0
  | .idleTimerExpiry b => (s.bay b).idleTimer = some 0 ∧ (s.bay b).state = .authorised
  | .releaseTimerExpiry b => (s.bay b).releaseTimer = some 0 ∧ (s.bay b).state = .releasePending
  | .stopDelayExpiry b => (s.bay b).stopDelayTimer = some 0 ∧ (s.bay b).state = .stopping
  | .issuingExit b => (s.bay b).receiptFinished = true ∧ (s.bay b).state = .issuing
  | .sessionClosedReport b => (s.bay b).closedReports ≠ 0
  | .meterFaultEvent b => (s.bay b).meterFaults ≠ 0
  | .silenceFound b =>
    (s.bay b).drive = true ∧ (s.bay b).allowance ≠ 0 ∧ (s.channel (bayChannel b)).silent = false ∧
    (s.channel (bayChannel b)).inProgress = none ∧
    1000 * s.meterConfig.silenceLimit < (s.clock.ms - (s.channel (bayChannel b)).silenceRef).toNat
  | .pulseWidthExceeded ch =>
    ∃ a, (s.channel ch).inProgress = some a ∧
      (if ch.val < 12 then s.meterConfig.bayWmax else s.meterConfig.siteWmax) < (s.clock.ms - a).toNat
  | .channelStale ch => ∃ e, (s.channel ch).lastEdge = some e ∧ 3600000 < (s.clock.ms - e).toNat
  | .battLineFilterExpiry l => (s.ba.line l).timer = some 0
  | .roundBoundary order =>
    s.al.boundaryTimer = some 0 ∧ s.al.staged ≠ none ∧ order = ⟨Config.freeOrder s.free, Config.freeWindow s.free⟩
  | .planComputationEnd => s.al.boundaryTimer = some 0 ∧ s.al.latched ≠ none ∧ s.al.staged = none
  | .settingsOperationStart => s.sp.inFlight = none ∧ (s.sp.requests ≠ [] ∨ s.pu.link = .starting)
  | .epochRetryTimerExpiry => s.sp.retryTimer = some 0
  | .siteTimeTick => 1000 ≤ s.clock.subMs
  | .mPortGrant => s.pu.mport = .free ∧ ((∃ a, s.pu.cport = .waiting a) ∨ s.pu.queue ≠ [] ∨ s.pu.partRead ≠ none)
  | .unknownCommand _ | .authorise .. | .stop .. | .extendQuota .. | .releaseConfirm .. | .releaseCancel .. | .maintenanceOn ..
  | .maintenanceOff .. | .clearBay _ | .setBay .. | .setSite .. | .setSupplyMap .. | .setBattery .. | .setTime _ | .collect _
  | .setReceiptWindow .. | .setSnapshotWindow .. | .causeMap _ | .clearErrors .. | .ackError | .setErrorPolicy .. | .clearHold
  | .settingsRead _ | .settingsWrite .. => ∃ position words, s.executes c position words
  | .por | .crst | .preloadReadEnd .. | .startingEnd .. | .epochRetryEnd _ | .meterLeadingEdge _ | .meterTrailingEdge _
  | .plugLineChange .. | .readyLineChange .. | .releaseLineChange .. | .battLineChange .. | .feedbackChange ..
  | .controllerWriteAccept .. | .releaseWrite _ | .postIndexWrite _ | .viewSelectorWrite _ | .controllerReadAccept ..
  | .eventWordRead | .forwardedTransactionComplete .. | .ownWriteAttemptComplete _ | .sweepReadComplete .. | .fetchReadComplete ..
  | .settingsCommandEnd .. => False

/-- A ring command's answer: executed, it leaves the part in t with the reply r queued for its slot (R160, R161). -/
def State.answers (s : State) (c : Instr) (t : State) (r : Reply) : Prop :=
  ∀ position words, s.executes c position words → exec c s = .next (t.queueReply position (slotTag words) r)

/-- A ring command's answer: refused, with nothing changed but the reply. -/
def State.refuses (s : State) (c : Instr) (r : Reason) : Prop := s.answers c s (.refused r 0)

/-- The word that a transaction carries for an address, if any (R143). -/
def wordFor (addr : Nat) (words : List WriteWord) (a : Nat) : Option WriteWord :=
  if addr ≤ a ∧ (a - addr) % 4 = 0 then words[(a - addr) / 4]? else none

/-- A transaction that the C-port can accept now: nothing else is there, it has the shape of R143, and the link state does not
hold it (R148). -/
def State.takes (s : State) (r : Request) : Prop :=
  s.pu.cport = .empty ∧ r.wellFormed = true ∧ (s.pu.link.holdsAnchor && inAnchor r.addr) = false

/-! ## Invariants -/

/-- The Error Log (R170, R172, R173): at most 4 records; the first-error pointer is NONE or names a kind whose status is set;
while a kind is set, unmasked and HOLD the site is in HOLD; EPOCH_UNSAVED is unmasked and HOLD. -/
def ErrorLog.sound (el : ErrorLog) : Prop :=
  el.records.length ≤ 4 ∧ (∀ k, el.first = some k → inKindSet el.status k = true) ∧ (el.mustHold = true → el.hold = true) ∧
  inKindSet el.masked .epochUnsaved = false ∧ inKindSet el.holds .epochUnsaved = true

/-- The Notice Unit (R168): a pending vector has notices enabled and is masked, unusable or under the all-mask. -/
def NoticeUnit.sound (n : NoticeUnit) : Prop :=
  ∀ v : Fin 8, (n.vectors[v]).pending = true →
    n.enable = true ∧ ((n.vectors[v]).masked = true ∨ (n.vectors[v]).usable = false ∨ n.allMask = true)

/-- The Battery Account (R89, R91, R94, R95): 0 ≤ Eb ≤ Cap; at-reserve as judged; the state follows the sign of the driven
setpoint, which is 0 while OFFLINE and lies between -Dmax and Cmax. -/
def BatteryAccount.sound (b : BatteryAccount) : Prop :=
  b.eb ≤ b.cap ∧ (b.atReserve = true ↔ b.calibrated = true ∧ b.eb ≤ b.reserve) ∧
  (b.state = .offline → b.setpoint = 0) ∧ (b.state ≠ .offline → b.state = batteryStateOf b.setpoint) ∧
  -(b.dmax : Int) ≤ b.setpoint ∧ b.setpoint ≤ b.cmax

/-- A bay's outputs follow its state (R27, R32), its tallies add up, and over-quota is no more than the total (R107). -/
def Bay.sound (x : Bay) : Prop :=
  (0 < x.allowance ↔ x.state = .charging) ∧
  (x.drive = true → x.state = .paused ∨ x.state = .charging ∨ x.state = .releasePending ∨ x.state = .stopping) ∧
  (x.state = .paused ∨ x.state = .charging → x.drive = true) ∧
  x.session.tallies.solar + x.session.tallies.battery + x.session.tallies.grid = x.session.tallies.total ∧
  x.session.tallies.total ≤ wordMax ∧ x.session.tallies.overQuota ≤ x.session.tallies.total

/-- Until STARTING ends the bays are held safe (R23), no command is taken (R142), no boundary is due, nothing is latched or staged
(R56, R86), and there is no snapshot window (R110). -/
def State.heldSafe (s : State) : Prop :=
  s.pu.link = .starting →
    s.cu.step = .idle ∧ s.al.boundaryTimer = none ∧ s.al.latched = none ∧ s.al.staged = none ∧ s.sw.base = none ∧
    ∀ b, (s.bay b).state.isOpen = false ∧ (s.bay b).drive = false ∧ (s.bay b).allowance = 0

/-- The bays (R23, R27, R107). -/
def State.baysSound (s : State) : Prop := s.heldSafe ∧ ∀ b, (s.bay b).sound

/-- The number of sessions that hold a reservation: open and not yet ISSUING (R119). -/
def State.holders (s : State) : Nat := (s.bays.toList.filter fun x => x.state.countsPulses).length

/-- The receipt ring (R117, R119, R120): R is the number of sessions that hold a reservation, R + U is at most N, U is last
issued less last collected, and no sequence number is promised past the last; nothing is reserved or uncollected before
STARTING ends (R142). -/
def State.ringSound (s : State) : Prop :=
  s.rw.reserved = s.holders ∧ s.rw.reserved + s.rw.uncollected ≤ s.rw.geometry.slots ∧
  s.rw.uncollected + s.rw.lastCollected = s.rw.lastIssued ∧ s.rw.lastIssued + s.rw.reserved ≤ wordMax ∧
  (s.pu.link = .starting → s.cu.step = .idle ∧ s.rw.reserved = 0 ∧ s.rw.uncollected = 0)

/-- The place of an entry's kind among the entries that wait: a receipt for each bay, a snapshot for each index, a notice for each
vector, and the reply (R150). -/
def EntryKind.place : EntryKind → Fin 34
  | .receipt b _ _ => ⟨b.val, by omega⟩
  | .snapshot i => ⟨12 + i.val, by omega⟩
  | .notice v => ⟨25 + v.val, by omega⟩
  | .reply _ => 33

/-- The block that waits for the report of an entry (R131, R161): a bay, the Command Unit (12), or none. -/
def EntryKind.reportsTo : EntryKind → Option (Fin 13)
  | .receipt b _ _ => some ⟨b.val, by omega⟩
  | .reply false => some 12
  | .reply true => none
  | .snapshot _ => none
  | .notice _ => none

/-- What an entry's presence in the queue says of the block that added it: an issuing bay whose receipt is not finished (R124), a
snapshot at its place in the window unless begun (R114, R115), a vector marked queued unless begun (R167), a Command Unit that is
replying, or a reply in performance at a CRST (R161, R163). -/
def State.accounts (s : State) (e : Entry) : Prop :=
  match e.kind with
  | .receipt b _ _ => (s.bay b).state = .issuing ∧ (s.bay b).receiptFinished = false
  | .snapshot i => e.begun = true ∨ ∃ a, s.sw.base = some a ∧ e.addr = a + i.val * s.sw.stride
  | .notice v => e.begun = true ∨ (s.vector v).queued = true
  | .reply false => ∃ position, s.cu.step = .replying position
  | .reply true => e.begun = true

/-- The outbound queue (R150): only its head has begun, of those that wait there is at most one receipt for a bay, one snapshot for
an index, one notice for a vector and one reply, and no two entries report to one bay or to the Command Unit. With it what keeps
it so: what each entry says of its block, a finished receipt only at an issuing bay, and only notices and replies before STARTING
ends. -/
def State.queueSound (s : State) : Prop :=
  (∀ e ∈ s.pu.queue.tail, e.begun = false) ∧
  ((s.pu.queue.filter fun e => !e.begun).map fun e => e.kind.place).Nodup ∧
  (s.pu.queue.filterMap fun e => e.kind.reportsTo).Nodup ∧
  (∀ e ∈ s.pu.queue, s.accounts e) ∧
  (∀ b, (s.bay b).receiptFinished = true → (s.bay b).state = .issuing) ∧
  (s.pu.link = .starting → ∀ e ∈ s.pu.queue, e.kind.isMessage = true)

/-- The receipt window and the snapshot window have no address in common, those found by the preload included (R110, R115,
R118, R138). -/
def State.windowsApart (s : State) : Prop :=
  windowsMeet s.rw.geometry s.sw = false ∧ windowsMeet s.sp.found.image.receipt s.sp.found.image.snapshot = false

/-! ## Legal latched inputs -/

/-- The latched configuration lies in the ranges that R24, R57 and R92 give it, and an eligible bay has a class (R59). -/
def Latched.legal (l : Latched) : Prop :=
  (∀ b, (l.bay b).pmin % 100 = 0 ∧ (l.bay b).pmin ≤ (l.bay b).pmax ∧ (l.bay b).pmax % 100 = 0 ∧ 0 < (l.bay b).pmin) ∧
  (∀ b, ((l.bay b).cls.isSome ↔ (l.bay b).eligible = true)) ∧
  (∀ p : Fin 6, (l.pairs[p]).cap % 100 = 0 ∧
    ((l.pairs[p]).cap = 0 ∨ max (l.bay (lowerBay p)).pmin (l.bay (higherBay p)).pmin ≤ (l.pairs[p]).cap)) ∧
  0 < l.period

/-- A configuration of bays, pairs, G and T lies in the ranges of R24 and R57. -/
def configLegal (bays : Vector BayConfig 12) (pairs : Vector PairConfig 6) (limit period : Nat) : Prop :=
  (∀ b : Fin 12, (bays[b]).inRanges = true) ∧
  (∀ p : Fin 6, (pairs[p]).cap % 100 = 0 ∧ (pairs[p]).cap ≤ 44000 ∧
    ((pairs[p]).cap = 0 ∨ max (bays[lowerBay p]).pmin (bays[higherBay p]).pmin ≤ (pairs[p]).cap)) ∧
  limit ≤ 1000000 ∧ 1 ≤ period ∧ period ≤ 10

/-- A grant that a bay's configuration allows (R32, R72): a multiple of 100 between Pmin and Pmax. -/
def BayConfig.allows (c : BayConfig) (grant : Nat) : Prop := grant % 100 = 0 ∧ c.pmin ≤ grant ∧ grant ≤ c.pmax

/-- The sessions opened since POR: every one reserved a slot, and each reservation becomes one issued receipt (R120, R122). -/
def State.opened (s : State) : Nat := s.rw.lastIssued + s.rw.reserved

/-- What a plan or its inputs know of a bay under a session number: no session opened later has that number (R26), and while the
session is open its bay's configuration is as the plan took it (R25). -/
def State.knows (s : State) (b : Fin 12) (session : Word) (p : BayConfig → Prop) : Prop :=
  session.toNat ≤ s.opened ∧ ((s.bay b).state.isOpen = true → (s.bay b).session.number = session → p (s.bay b).config)

/-- Allowances (R24, R25, R26, R32, R59): a CHARGING bay presents a multiple of 100 W between its Pmin and Pmax. With it what keeps
it so: session numbers follow the sessions opened, and what is latched and staged for an open session agrees with its bay's
configuration. -/
def State.allowancesSound (s : State) : Prop :=
  (∀ b, (s.bay b).state = .charging → (s.bay b).config.allows (s.bay b).allowance) ∧
  s.nextSession.toNat = (if s.opened = wordMax then 1 else s.opened + 1) ∧
  (∀ b, (s.bay b).state.isOpen = true → (s.bay b).session.number.toNat ≤ s.opened) ∧
  (∀ l, s.al.latched = some l → ∀ b n, (l.bay b).session = some n →
    s.knows b n fun c => c.pmin = (l.bay b).pmin ∧ c.pmax = (l.bay b).pmax) ∧
  (∀ p, s.al.staged = some p → ∀ b : Fin 12, ∀ n, (p.bays[b]).session = some n → s.knows b n fun c => c.allows (p.bays[b]).grant)

/-- The configuration in use and the one the preload found are legal (R24, R57, R181), an open session has a class (R26,
R29), and what is latched is legal (R59). -/
def State.configSound (s : State) : Prop :=
  configLegal (s.bays.map Bay.config) s.pairs s.al.limit s.al.period ∧
  configLegal s.sp.found.image.bays s.sp.found.image.pairs s.sp.found.image.limit s.sp.found.image.period ∧
  (∀ b, (s.bay b).state.isOpen = true → (s.bay b).session.cls.isSome = true) ∧
  (∀ l, s.al.latched = some l → l.legal)

end Sys2Proof.Machine
end

