-- ==== Sys2Proof/Certificates/Slice0/Obligations.lean ====
section
/-! DEFINITION. The statements for the provers. -/

section
open Sys2Proof Sys2Proof.Machine

/-! ## Steps and rows -/

/-- A step with a command waiting runs the command at the front on the state with the queue's rest. -/
def Obligations.StepRunsTheFrontCommand : Prop :=
  ∀ (s : State) (c : Instr) (rest : List Instr), s.pending = c :: rest → step s = exec c { s with pending := rest }

/-- The model's choice (log 1, log 3): a step with no command waiting runs one of the part's own events that are due, and
with none due lets a millisecond pass, which moves the two clocks and every running timer by one and nothing else. An event of the
part's own is due just when its occasion stands. -/
def Obligations.IdleStepRunsAnOwnEventOrAMillisecond : Prop :=
  ∀ s : State, s.pending = [] →
    (s.ownEvents ≠ [] → ∃ c ∈ s.ownEvents, step s = exec c { s with free := s.free + 1 }) ∧
    (s.ownEvents = [] → step s = .next s.tick) ∧
    (∀ c, c ∈ s.ownEvents ↔ s.comesDue c) ∧
    let run : Option Nat → Option Nat := fun timer => timer.map fun n => n - 1
    let line : FilteredLine → FilteredLine := fun l => { l with timer := run l.timer }
    s.tick = { s with
      clock := { s.clock with ms := s.clock.ms + 1, subMs := s.clock.subMs + 1 }
      bays := s.bays.map fun x => { x with
        plugTimer := run x.plugTimer, readyTimer := run x.readyTimer, releaseLineTimer := run x.releaseLineTimer
        feedbackTimer := run x.feedbackTimer, idleTimer := run x.idleTimer, releaseTimer := run x.releaseTimer
        stopDelayTimer := run x.stopDelayTimer }
      ba := { s.ba with
        readyLine := line s.ba.readyLine, fullLine := line s.ba.fullLine, emptyLine := line s.ba.emptyLine }
      al := { s.al with boundaryTimer := run s.al.boundaryTimer }
      sp := { s.sp with retryTimer := run s.sp.retryTimer } }

/-- Every row completes in every state: the spec stops the part nowhere. -/
def Obligations.EveryRowCompletes : Prop := ∀ (c : Instr) (s : State), ∃ t, exec c s = .next t

/-- The frame of every row: the parts of the state outside the row's list are left as they are; no row touches the queue of
commands that wait. -/
def Obligations.RowsTouchOnlyTheirParts : Prop :=
  ∀ (c : Instr) (s t : State), exec c s = .next t → State.changesOnly (touchedBy c) s t ∧ t.pending = s.pending

/-- The frame of a bay's rows: a row of one bay leaves every other bay and every other bay's channel as it is. -/
def Obligations.BayRowsLeaveOtherBaysAlone : Prop :=
  ∀ (b : Fin 12) (s t : State) (c : Instr),
    c ∈ [.plugFilterExpiry b, .readyFilterExpiry b, .releaseFilterExpiry b, .feedbackChange b true, .feedbackChange b false,
      .feedbackTimerExpiry b, .idleTimerExpiry b, .releaseTimerExpiry b, .stopDelayExpiry b, .issuingExit b,
      .sessionClosedReport b, .meterFaultEvent b, .silenceFound b, .meterLeadingEdge (bayChannel b),
      .meterTrailingEdge (bayChannel b), .pulseWidthExceeded (bayChannel b), .channelStale (bayChannel b),
      .plugLineChange b true, .plugLineChange b false, .readyLineChange b true, .readyLineChange b false,
      .releaseLineChange b true, .releaseLineChange b false] →
    exec c s = .next t → State.otherBaysSame b s t

/-- The model's choice (log 2): a row of the part's own events whose occasion does not stand changes nothing. One clause for
each such row, its occasion the one under which the row's own statement gives it an effect. -/
def Obligations.RowsWithoutOccasionChangeNothing : Prop :=
  ∀ (s : State) (b : Fin 12) (ch : Fin 17) (order : List Nat) (window : Option Nat) (l : BattLine) (ok : Bool) (bytes : List Byte)
    (data : List Word) (bursts : List Bool),
    let x := s.bay b
    let c := s.channel (bayChannel b)
    let wmax := if ch.val < 12 then s.meterConfig.bayWmax else s.meterConfig.siteWmax
    (x.plugTimer ≠ some 0 → exec (.plugFilterExpiry b) s = .next s) ∧
    (x.readyTimer ≠ some 0 → exec (.readyFilterExpiry b) s = .next s) ∧
    (x.releaseLineTimer ≠ some 0 → exec (.releaseFilterExpiry b) s = .next s) ∧
    (x.feedbackTimer ≠ some 0 → exec (.feedbackTimerExpiry b) s = .next s) ∧
    (x.idleTimer ≠ some 0 ∨ x.state ≠ .authorised → exec (.idleTimerExpiry b) s = .next s) ∧
    (x.releaseTimer ≠ some 0 ∨ x.state ≠ .releasePending → exec (.releaseTimerExpiry b) s = .next s) ∧
    (x.stopDelayTimer ≠ some 0 ∨ x.state ≠ .stopping → exec (.stopDelayExpiry b) s = .next s) ∧
    (x.receiptFinished = false ∨ x.state ≠ .issuing → exec (.issuingExit b) s = .next s) ∧
    (x.closedReports = 0 → exec (.sessionClosedReport b) s = .next s) ∧
    (x.meterFaults = 0 → exec (.meterFaultEvent b) s = .next s) ∧
    (x.drive = false ∨ x.allowance = 0 ∨ c.silent = true ∨ c.inProgress ≠ none ∨
      (s.clock.ms - c.silenceRef).toNat ≤ 1000 * s.meterConfig.silenceLimit → exec (.silenceFound b) s = .next s) ∧
    ((s.channel ch).inProgress = none → exec (.pulseWidthExceeded ch) s = .next s) ∧
    (∀ a, (s.channel ch).inProgress = some a → (s.clock.ms - a).toNat ≤ wmax → exec (.pulseWidthExceeded ch) s = .next s) ∧
    ((s.channel ch).lastEdge = none → exec (.channelStale ch) s = .next s) ∧
    (∀ e, (s.channel ch).lastEdge = some e → (s.clock.ms - e).toNat ≤ 3600000 → exec (.channelStale ch) s = .next s) ∧
    ((s.ba.line l).timer ≠ some 0 → exec (.battLineFilterExpiry l) s = .next s) ∧
    (s.al.boundaryTimer ≠ some 0 ∨ s.al.staged = none → exec (.roundBoundary ⟨order, window⟩) s = .next s) ∧
    (s.al.latched = none ∨ s.al.staged ≠ none → exec .planComputationEnd s = .next s) ∧
    (s.sp.inFlight ≠ none ∨ (s.sp.requests = [] ∧ s.pu.link ≠ .starting) → exec .settingsOperationStart s = .next s) ∧
    (s.sp.inFlight ≠ some .preload → exec (.preloadReadEnd ok bytes) s = .next s) ∧
    (s.pu.link ≠ .starting ∨ (∀ e, s.sp.inFlight ≠ some (.epochWrite e)) → exec (.startingEnd ok order) s = .next s) ∧
    (s.sp.retryTimer ≠ some 0 → exec .epochRetryTimerExpiry s = .next s) ∧
    ((∀ e, s.sp.inFlight ≠ some (.epochRetry e)) → exec (.epochRetryEnd ok) s = .next s) ∧
    ((∀ n d, s.sp.inFlight ≠ some (.commandRead n d)) → (∀ w d, s.sp.inFlight ≠ some (.commandWrite w d)) →
      exec (.settingsCommandEnd ok bytes) s = .next s) ∧
    (s.clock.subMs < 1000 → exec .siteTimeTick s = .next s) ∧
    (s.pu.mport ≠ .free ∨ ((∀ a, s.pu.cport ≠ .waiting a) ∧ s.pu.queue = [] ∧ s.pu.partRead = none) →
      exec .mPortGrant s = .next s) ∧
    (s.pu.mport ≠ .controller ∨ (∀ a, s.pu.cport ≠ .granted a) →
      exec (.forwardedTransactionComplete ok data) s = .next s) ∧
    (s.pu.mport ≠ .entry ∨ s.pu.queue = [] → exec (.ownWriteAttemptComplete bursts) s = .next s) ∧
    (∀ e rest, s.pu.queue = e :: rest →
      bursts.length ≠ (match e.kind with | .receipt .. => 2 | .snapshot _ => 1 | .reply _ => 1 | .notice _ => 1) →
      exec (.ownWriteAttemptComplete bursts) s = .next s) ∧
    ((∀ r d, s.pu.mport = .read r d → ∀ k, r.kind ≠ .sweep k) → exec (.sweepReadComplete ok data) s = .next s) ∧
    ((∀ r d, s.pu.mport = .read r d → ∀ k, r.kind ≠ .fetch k) → exec (.fetchReadComplete ok data) s = .next s)

/-- A ring command in execution is taken by its owner as one event and answered, and outside its execution its row changes
nothing (R160; the second part is the model's choice, log 11). -/
def Obligations.RingRowsExecuteTheCommandHeld : Prop :=
  ∀ (c : Instr) (s : State), (encodeSlot c 0).isSome = true →
    (∀ position words, s.executes c position words →
      exec c s = .next ((commandEffect c s).1.endExecution position words (commandEffect c s).2)) ∧
    ((∀ position words, ¬ s.executes c position words) → exec c s = .next s)

/-! ## Slots -/

/-- Decode and encode agree: the slot written for a ring command with a tag has twelve words, and is read back as that
command, every field at every value, with that tag. -/
def Obligations.SlotsReadBack : Prop :=
  ∀ (c : Instr) (tag : BitVec 16) (words : List Word), encodeSlot c tag = some words →
    words.length = 12 ∧ decodeCommand words = c ∧ slotTag words = tag

/-! ## Resets -/

/-- The state after power-on reset, as the reset tables give it. Not stated here are the levels of the input lines (log 6) and
what no rule gives (log 24); the fields of an emptied session record are 0 or absent and the RELEASE filter runs like the
other two (the model's readings, log 24 and log 7). -/
def Obligations.ResetState : Prop :=
  let s := State.reset
  let filter : FilteredLine → Prop := fun l => l.taken = false ∧ l.timer = some 200
  (∀ ch, s.channel ch = { s.channel ch with
    total := 0, round := 0, lastRound := 0, lastEdge := none, lastPeriod := none, inProgress := none, noise := 0
    noiseReported := false, silent := false, silenceRef := 0, runCount := 0, runaway := false }) ∧
  s.clock = { siteTime := 0, timeUnset := true, subMs := 0, ms := 0 } ∧
  s.meterConfig = { bayWmin := 10, bayWmax := 200, silenceLimit := 60, siteWmin := 10, siteWmax := 200
                    energies := Vector.replicate 5 10 } ∧
  (∀ b, s.bay b = { s.bay b with
    plug := none, ready := false, release := false, plugTimer := some 200, readyTimer := some 200, releaseLineTimer := some 50
    drive := false, allowance := 0, roundOverQuota := 0, lastSession := none, maintenance := none, deferredRelease := false
    weldMark := false, events := 0, waitCount := 0, idleTimer := none, releaseTimer := none, stopDelayTimer := none
    feedbackTimer := none, keptPortions := { solar := 0, battery := 0, grid := 0 }, keptSession := none, sessionPulses := 0
    unownedPulses := 0
    session := { number := 0, cls := none, quota := 0, remaining := 0, reference := 0, startTime := 0, stopTime := none
                 tallies := { total := 0, solar := 0, battery := 0, grid := 0, overQuota := 0 }, stopCause := none
                 timeUnset := false, fault := false, chargedMark := false }
    config := { pmin := 1400, pmax := 7400, stopDelay := 3, releaseWindow := 10, idleTimeout := 900 } } ∧
    (s.bay b).lock = false ∧ (s.bay b).light = .off) ∧
  (∀ p, s.pair p = { cap := 0, evenIsOdd := false }) ∧ s.nextSession = 1 ∧
  s.al = { round := 0, roundLength := none, boundaryTimer := none, limit := 0, period := 2
           map := { priority := 7, standard := 7, economy := 3 }, latched := none, staged := none, applied := none
           correction := 0, episodes := 0, episodeReported := false } ∧
  filter s.ba.readyLine ∧ filter s.ba.fullLine ∧ filter s.ba.emptyLine ∧
  s.ba = { s.ba with eb := 0, calibrated := false, atReserve := false, cap := 100000, reserve := 20000, cmax := 10000
                     dmax := 10000, state := .offline, setpoint := 0, lastEvent := none } ∧
  s.sw = { base := none, stride := 32, decimation := 1 } ∧
  s.rw = { s.rw with
    geometry := { base := none, slots := 0, lowWater := 0 }, nextSlot := 0, windowFirst := 1, reserved := 0, uncollected := 0
    issuing := 0, lastIssued := 0, lastCollected := 0, abandoned := 0, lastAbandoned := none } ∧
  s.pu = { s.pu with link := .starting, queue := [], waitCount := 0, mport := .free, partRead := none, cport := .empty
                     quietDrops := 0, selector := none } ∧
  s.cu = { post := 0, taken := 0, step := .idle } ∧
  s.nu.enable = false ∧ s.nu.allMask = true ∧ (∀ c : Fin 8, s.nu.causeMap[c] = 0) ∧
  (∀ v, s.vector v = { addr := 0, data := 0, masked := true, usable := true, pending := false, queued := false }) ∧
  s.el = { status := 0, masked := ErrorKind.meterNoise.bit, records := [], overflow := false, first := none, hold := false
           holds := ErrorKind.contactorFault.bit ||| ErrorKind.memoryFault.bit ||| ErrorKind.epochUnsaved.bit } ∧
  s.sp.requests = [] ∧ s.sp.inFlight = none ∧ s.sp.retryTimer = none ∧ s.pending = []

/-- POR takes the part to its state after reset from every state. The levels of the input lines are outside the part and
stay (log 7), and so do the commands that wait and the model's own counter (log 32). -/
def Obligations.PorRestartsThePart : Prop :=
  ∀ s : State, ∃ t, exec .por s = .next t ∧
    State.changesOnly [.pending, .channels, .bays, .ba, .free] State.reset t ∧ t.pending = s.pending ∧
    (∀ ch, t.channel ch = { lineActive := (s.channel ch).lineActive }) ∧
    (∀ b, t.bay b = { plugLine := (s.bay b).plugLine, readyLine := (s.bay b).readyLine,
                      releaseLine := (s.bay b).releaseLine, feedback := (s.bay b).feedback }) ∧
    t.ba = { readyLine := { line := s.ba.readyLine.line }, fullLine := { line := s.ba.fullLine.line },
             emptyLine := { line := s.ba.emptyLine.line } }

/-- CRST (R156, R163, R169): a command in execution completes its effect (also one fetched and not yet handed over to its
owner: the model's reading, log 12), and then the link is DETACHED (or still STARTING), the indices, the Command Unit, the wait
count, the selector and the Notice Unit take their values after CRST, and notices and replies whose performance has not begun
leave the queue. The data of a part-side read in performance and the ends of commands' settings operations will be discarded,
and a write accepted before is not copied at its completion (R147). A transaction held by hit-promote waits for the last entry it
touches among those left of the ones it waited for, and is judged again when there is none (R152). A held anchor access is
accepted under DETACHED after all that. -/
def Obligations.CrstResetsTheControllerSide : Prop :=
  ∀ s : State, ∃ t,
    exec .crst s = .next (if t.pu.link = .starting then t else t.acceptHeld) ∧
    let d := s.completeExecution
    let mark : SettingsOp → SettingsOp := fun op => match op with
      | .commandRead offsets _ => .commandRead offsets true
      | .commandWrite bytes _ => .commandWrite bytes true
      | other => other
    (∀ words position, s.cu.step = .executing position words false → d = (commandEffect (decodeCommand words) s).1) ∧
    ((∀ words position, s.cu.step ≠ .executing position words false) → d = s) ∧
    t.pu.link = (if d.pu.link = .starting then .starting else .detached) ∧
    t.cu = { post := 0, taken := 0, step := .idle } ∧ t.pu.waitCount = 0 ∧ t.pu.selector = none ∧ t.pu.partRead = none ∧
    t.pu.quietDrops = d.pu.quietDrops ∧
    t.pu.queue = (d.pu.queue.filter fun e => e.begun || !e.kind.isMessage).map Entry.orphan ∧
    (∀ r k, d.pu.mport = .read r k → t.pu.mport = .read r true) ∧
    ((∀ r k, d.pu.mport ≠ .read r k) → t.pu.mport = d.pu.mport) ∧
    t.sp = { d.sp with requests := d.sp.requests.map mark, inFlight := d.sp.inFlight.map mark } ∧
    (∀ a w k, d.pu.cport = .waiting (.write a w k) → t.pu.cport = .waiting (.write a w false)) ∧
    (∀ a w k, d.pu.cport = .granted (.write a w k) → t.pu.cport = .granted (.write a w false)) ∧
    (∀ a o, d.pu.cport = .waiting (.read a o) ∨ d.pu.cport = .granted (.read a o) → t.pu.cport = d.pu.cport) ∧
    (∀ r, d.pu.cport = .empty ∨ d.pu.cport = .anchorHeld r → t.pu.cport = d.pu.cport) ∧
    (∀ a n, d.pu.cport = .hitHeld a n →
      let access := match a with | .write addr words _ => Access.write addr words false | .read addr owned => .read addr owned
      let keep := fun e : Entry => e.begun || !e.kind.isMessage
      let awaited := (d.pu.queue.take n).filter keep
      let judged := { d with pu := { d.pu with queue := d.pu.queue.filter keep } }.judgeHit access
      ((∀ e ∈ awaited, access.meets e = false) → t.pu.cport = judged.pu.cport ∧ t.pu.completion = judged.pu.completion) ∧
      (∀ ahead e behind, awaited = ahead ++ e :: behind → access.meets e = true → (∀ y ∈ behind, access.meets y = false) →
        t.pu.cport = .hitHeld access (ahead.length + 1) ∧ t.pu.completion = d.pu.completion)) ∧
    ((∀ a n, d.pu.cport ≠ .hitHeld a n) → t.pu.completion = d.pu.completion) ∧
    (∀ k : EntryKind, k.isMessage = true ↔ (∃ v, k = .notice v) ∨ ∃ orphan, k = .reply orphan) ∧
    (∀ e : Entry, (∀ orphan, e.kind = .reply orphan → e.orphan = { e with kind := .reply true }) ∧
      ((∀ orphan, e.kind ≠ .reply orphan) → e.orphan = e)) ∧
    t.nu.enable = false ∧ t.nu.allMask = true ∧ t.nu.causeMap = d.nu.causeMap ∧
    (∀ v, t.vector v = { usable := d.addrUsable 0 }) ∧
    State.changesOnly [.pu, .cu, .nu, .sp] d t

/-! ## Settings and power-up -/

/-- The settings line carries one operation at a time, the oldest request first (R179); in STARTING, with nothing requested
before, that is the preload (R181; that its request begins as it is made is log 8). The epoch's retries (R182, R176): at the
timer's end the same write of the epoch and its CRC-32 into bytes 1000..1007 is requested; on OK EPOCH_UNSAVED is cleared, on
failure the timer starts again. -/
def Obligations.SettingsLineOperations : Prop :=
  ∀ s : State,
    let e := s.sp.found.epoch
    let epochBytes : List SettingsByte := (wordBytes e ++ wordBytes (crc32 (wordBytes e))).zipIdx.map fun b =>
      { offset := 1000 + b.2, value := b.1 }
    (∀ op rest, s.sp.inFlight = none → s.sp.requests = op :: rest →
      exec .settingsOperationStart s = .next { s with sp := { s.sp with inFlight := some op, requests := rest } }) ∧
    (s.sp.inFlight = none → s.sp.requests = [] → s.pu.link = .starting →
      exec .settingsOperationStart s = .next { s with sp := { s.sp with inFlight := some .preload } }) ∧
    (∀ op, s.sp.inFlight = some op → exec .settingsOperationStart s = .next s) ∧
    (s.sp.retryTimer = some 0 →
      exec .epochRetryTimerExpiry s = .next { s with sp := { s.sp with
        retryTimer := none, requests := s.sp.requests ++ [.epochRetry epochBytes] } }) ∧
    (∀ bytes, s.sp.inFlight = some (.epochRetry bytes) →
      exec (.epochRetryEnd true) s = .next { s with
        sp := { s.sp with inFlight := none }
        el := { s.el with status := s.el.status &&& ~~~ErrorKind.epochUnsaved.bit,
                          first := if s.el.first = some .epochUnsaved then none else s.el.first } } ∧
      exec (.epochRetryEnd false) s = .next { s with sp := { s.sp with inFlight := none, retryTimer := some 10000 } })

/-- The preload's judgement (R181, spec/11 11.7). A failed read or an invalid image gives every setting its default and detail
code 0; an epoch whose CRC-32 does not match counts as 0 and gives detail code EPOCH; the write-back of the stored epoch plus 1
with its CRC-32, into bytes 1000..1007, is requested. The records of a valid image are walked by their lengths, one that goes past
the end ending the walk with detail code 0 (a lone last byte does so too: log 34); then the pairs are checked against the bays and
the snapshot window against the receipt window. A record of each tag replaces what it carries when its length and values are
right, and otherwise puts the defaults back (of a BAY or PAIR record, for the bay or pair its first byte names: log 22) and gives
its tag as detail code; unknown tags are skipped. (A preload reads 1008 bytes: what bytes of another number give, here stated as well,
is the model's choice, log 42.) -/
def Obligations.PreloadIsJudged : Prop :=
  ∀ (s : State) (ok : Bool) (bytes : List Byte),
    let e := (preloaded ok bytes).epoch
    let epochBytes : List SettingsByte := (wordBytes e ++ wordBytes (crc32 (wordBytes e))).zipIdx.map fun b =>
      { offset := 1000 + b.2, value := b.1 }
    let n := leNat bytes 4 2
    (s.sp.inFlight = some .preload →
      exec (.preloadReadEnd ok bytes) s = .next { s with sp := { s.sp with
        inFlight := none, found := preloaded ok bytes, requests := s.sp.requests ++ [.epochWrite epochBytes] } }) ∧
    preloaded false bytes = { image := {}, epoch := 1, bad := [0, 255] } ∧
    ((crc32 (bytesAt bytes 1000 4)).toNat = leNat bytes 1004 4 →
      preloaded true bytes = { image := (judgeImage bytes).image, epoch := BitVec.ofNat 32 (leNat bytes 1000 4) + 1,
                               bad := (judgeImage bytes).bad }) ∧
    ((crc32 (bytesAt bytes 1000 4)).toNat ≠ leNat bytes 1004 4 →
      preloaded true bytes = { image := (judgeImage bytes).image, epoch := 1, bad := (judgeImage bytes).bad ++ [255] }) ∧
    (imageValid bytes = true ↔ leNat bytes 0 2 = 0x564C ∧ leNat bytes 2 1 = 1 ∧ 9 + n ≤ 999 ∧
      (crc32 (bytesAt bytes 0 (6 + n))).toNat = leNat bytes (6 + n) 4) ∧
    (imageValid bytes = false → judgeImage bytes = { image := {}, bad := [0] }) ∧
    (imageValid bytes = true →
      let walk := walkRecords n (bytesAt bytes 6 n)
      let taken := walk.1.foldl Judged.take { image := {}, bad := [] }
      judgeImage bytes = ((List.finRange 6).foldl Judged.checkPair
        { image := taken.image, bad := if walk.2 then taken.bad ++ [0] else taken.bad }).checkSnapshot) ∧
    (∀ (k : Nat) (tag len : Byte) (rest : List Byte),
      walkRecords k [] = ([], false) ∧ walkRecords (k + 1) [tag] = ([], true) ∧
      (rest.length < len.toNat → walkRecords (k + 1) (tag :: len :: rest) = ([], true)) ∧
      (len.toNat ≤ rest.length →
        let r := walkRecords k (rest.drop len.toNat)
        walkRecords (k + 1) (tag :: len :: rest) = ({ tag := tag.toNat, value := rest.take len.toNat } :: r.1, r.2))) ∧
    (∀ (j : Judged) (p : Fin 6),
      let i := j.image
      let fp := (i.pairs[p]).cap
      let fits := fp = 0 ∨ max (i.bays[lowerBay p]).pmin (i.bays[higherBay p]).pmin ≤ fp
      (fits → j.checkPair p = j) ∧
      (¬ fits → j.checkPair p = { image := { i with pairs := i.pairs.set p { cap := 0, evenIsOdd := false } }, bad := j.bad ++ [3] }) ∧
      (windowsMeet i.receipt i.snapshot = false → j.checkSnapshot = j) ∧
      (windowsMeet i.receipt i.snapshot = true → j.checkSnapshot =
        { image := { i with snapshot := { base := none, stride := 32, decimation := 1 } }, bad := j.bad ++ [7] })) ∧
    (∀ (j : Judged) (r : Record),
      let i := j.image
      let v := r.value
      let f := leNat v
      let accepts := fun (k : Nat) (good : Prop) (new old : Image) => r.tag = k →
        (good → j.take r = { j with image := new }) ∧ (¬ good → j.take r = { image := old, bad := j.bad ++ [k] })
      (r.tag = 0 ∨ 10 < r.tag → j.take r = j) ∧
      accepts 1 (v.length = 5 ∧ f 0 4 ≤ 1000000 ∧ 1 ≤ f 4 1 ∧ f 4 1 ≤ 10)
        { i with limit := f 0 4, period := f 4 1 } { i with limit := 0, period := 2 } ∧
      (∀ b : Fin 12, v ≠ [] → f 0 1 = b.val → accepts 2
        (v.length = 13 ∧ (1400 ≤ f 1 4 ∧ f 1 4 ≤ 11000 ∧ f 1 4 % 100 = 0) ∧ (f 1 4 ≤ f 5 4 ∧ f 5 4 ≤ 22000 ∧ f 5 4 % 100 = 0) ∧
          (1 ≤ f 9 1 ∧ f 9 1 ≤ 10) ∧ (2 ≤ f 10 1 ∧ f 10 1 ≤ 60) ∧ (f 11 2 = 0 ∨ 60 ≤ f 11 2 ∧ f 11 2 ≤ 3600))
        { i with bays := i.bays.set b
                  { pmin := f 1 4, pmax := f 5 4, stopDelay := f 9 1, releaseWindow := f 10 1, idleTimeout := f 11 2 } }
        { i with bays := i.bays.set b { pmin := 1400, pmax := 7400, stopDelay := 3, releaseWindow := 10, idleTimeout := 900 } }) ∧
      (v = [] ∨ 11 < f 0 1 → r.tag = 2 → j.take r = { j with bad := j.bad ++ [2] }) ∧
      (∀ p : Fin 6, v ≠ [] → f 0 1 = p.val → accepts 3
        (v.length = 6 ∧ (f 1 4 = 0 ∨ 1 ≤ f 1 4 ∧ f 1 4 ≤ 44000 ∧ f 1 4 % 100 = 0) ∧ (f 5 1 = 2 * p.val ∨ f 5 1 = 2 * p.val + 1))
        { i with pairs := i.pairs.set p { cap := f 1 4, evenIsOdd := f 5 1 % 2 == 1 } }
        { i with pairs := i.pairs.set p { cap := 0, evenIsOdd := false } }) ∧
      (v = [] ∨ 5 < f 0 1 → r.tag = 3 → j.take r = { j with bad := j.bad ++ [3] }) ∧
      accepts 4 (v.length = 15 ∧ (1 ≤ f 0 2 ∧ f 0 2 ≤ 1000) ∧ (f 0 2 ≤ f 2 2 ∧ f 2 2 ≤ 5000) ∧ (10 ≤ f 4 2 ∧ f 4 2 ≤ 600) ∧
          (1 ≤ f 6 2 ∧ f 6 2 ≤ 1000) ∧ (f 6 2 ≤ f 8 2 ∧ f 8 2 ≤ 5000) ∧ ∀ k : Fin 5, 1 ≤ f (10 + k.val) 1 ∧ f (10 + k.val) 1 ≤ 100)
        { i with channels := { bayWmin := f 0 2, bayWmax := f 2 2, silenceLimit := f 4 2, siteWmin := f 6 2, siteWmax := f 8 2,
                               energies := Vector.ofFn fun k => f (10 + k.val) 1 } }
        { i with channels := { bayWmin := 10, bayWmax := 200, silenceLimit := 60, siteWmin := 10, siteWmax := 200,
                               energies := Vector.replicate 5 10 } } ∧
      accepts 5 (v.length = 16 ∧ (1000 ≤ f 0 4 ∧ f 0 4 ≤ 2000000) ∧ f 4 4 ≤ f 0 4 ∧ f 8 4 ≤ 250000 ∧ f 12 4 ≤ 250000)
        { i with cap := f 0 4, reserve := f 4 4, cmax := f 8 4, dmax := f 12 4 }
        { i with cap := 100000, reserve := 20000, cmax := 10000, dmax := 10000 } ∧
      accepts 6 (v.length = 8 ∧ (16 ≤ f 4 2 ∧ f 4 2 ≤ 512) ∧ f 6 2 ≤ f 4 2 ∧ f 0 4 % 64 = 0 ∧ f 0 4 + 64 * f 4 2 ≤ 0x3FFF000)
        { i with receipt := { base := some (f 0 4), slots := f 4 2, lowWater := f 6 2 } }
        { i with receipt := { base := none, slots := 0, lowWater := 0 } } ∧
      accepts 7 (v.length = 7 ∧ (32 ≤ f 4 2 ∧ f 4 2 ≤ 256 ∧ f 4 2 % 32 = 0) ∧ (1 ≤ f 6 1 ∧ f 6 1 ≤ 16) ∧
          (f 0 4 = 0xFFFFFFFF ∨ f 0 4 % 32 = 0 ∧ f 0 4 + 13 * f 4 2 ≤ 0x3FFF000))
        { i with snapshot := { base := if f 0 4 = 0xFFFFFFFF then none else some (f 0 4), stride := f 4 2, decimation := f 6 1 } }
        { i with snapshot := { base := none, stride := 32, decimation := 1 } } ∧
      accepts 8 (v.length = 4 ∧ f 0 2 < 4096 ∧ f 2 2 < 4096)
        { i with masked := BitVec.ofNat 12 (f 0 2), holds := BitVec.ofNat 12 (f 2 2) } { i with masked := 0x010, holds := 0x520 } ∧
      accepts 9 (v.length = 4 ∧ ∀ k : Fin 8, f 0 4 / 16 ^ k.val % 16 ≤ 7)
        { i with causeMap := Vector.ofFn fun k => Fin.ofNat 8 (f 0 4 / 16 ^ k.val % 16) } { i with causeMap := Vector.replicate 8 0 } ∧
      accepts 10 (v.length = 3 ∧ (1 ≤ f 0 1 ∧ f 0 1 ≤ 7) ∧ (1 ≤ f 1 1 ∧ f 1 1 ≤ 7) ∧ (1 ≤ f 2 1 ∧ f 2 1 ≤ 7))
        { i with map := { priority := BitVec.ofNat 3 (f 0 1), standard := BitVec.ofNat 3 (f 1 1), economy := BitVec.ofNat 3 (f 2 1) } }
        { i with map := { priority := 7, standard := 7, economy := 3 } })

/-- The end of STARTING (R181, R148, R55, R56, R60, R103, R142, R165, R178, R182): the preloaded values are taken, boundary 0
applies the empty plan, a failed write-back records EPOCH_UNSAVED and starts the retry timer, and an anchor access that was held
is accepted after all that, in DETACHED. -/
def Obligations.StartingEndTakesThePreloadedValues : Prop :=
  ∀ (s : State) (ok : Bool) (order : List Nat) (e : List SettingsByte),
    s.pu.link = .starting → s.sp.inFlight = some (.epochWrite e) →
    let f := s.sp.found
    let i := f.image
    ∃ t : State, exec (.startingEnd ok order) s = .next t.acceptHeld ∧
      t.pu.cport = s.pu.cport ∧
      (∀ r, s.pu.cport = .anchorHeld r → t.acceptHeld = { t with pu := { t.pu with cport := .empty } }.accept r) ∧
      ((∀ r, s.pu.cport ≠ .anchorHeld r) → t.acceptHeld = t) ∧
      t.pu.link = .detached ∧ t.sp.inFlight = none ∧ t.sp.retryTimer = (if ok then s.sp.retryTimer else some 10000) ∧
      t.meterConfig = i.channels ∧ t.pairs = i.pairs ∧ t.sw = i.snapshot ∧ t.nextSession = s.nextSession ∧ t.cu = s.cu ∧
      (∀ b, (t.bay b).config = i.bays[b] ∧
        (t.bay b).state = (if (s.bay b).plug = some true then .plugged else .vacant)) ∧
      t.al.round = s.al.round ∧ t.al.limit = i.limit ∧ t.al.period = i.period ∧ t.al.map = i.map ∧
      t.al.roundLength = some i.period ∧ t.al.boundaryTimer = some (1000 * i.period) ∧ t.al.staged = none ∧
      t.al.applied = some { roundLength := i.period } ∧ t.al.latched.isSome = true ∧
      t.rw = { s.rw with geometry := i.receipt, nextSlot := 0, windowFirst := 1, epoch := f.epoch, chain := chainStart f.epoch,
                         armed := decide (i.receipt.lowWater < i.receipt.slots - s.rw.reserved - s.rw.uncollected) } ∧
      t.nu.causeMap = i.causeMap ∧ t.el.masked = i.masked &&& 0xBFF ∧ t.el.holds = i.holds ||| 0x400 ∧
      t.ba.cap = i.cap ∧ t.ba.reserve = i.reserve ∧ t.ba.cmax = i.cmax ∧ t.ba.dmax = i.dmax ∧ t.ba.setpoint = 0 ∧
      t.ba.state = (if s.ba.readyLine.taken then .idle else .offline) ∧
      t.ba.eb = (if s.ba.fullLine.taken && !s.ba.emptyLine.taken then i.cap
        else if s.ba.emptyLine.taken && !s.ba.fullLine.taken then 0 else min i.cap s.ba.eb) ∧
      (t.ba.calibrated = true ↔ s.ba.calibrated = true ∨ s.ba.fullLine.taken ≠ s.ba.emptyLine.taken) ∧
      (t.ba.atReserve = true ↔ t.ba.calibrated = true ∧ t.ba.eb ≤ i.reserve) ∧
      (f.bad ≠ [] → inKindSet t.el.status .settingsBad = true) ∧
      (ok = false → inKindSet t.el.status .epochUnsaved = true ∧ t.el.hold = true)

/-- SETTINGS_READ and SETTINGS_WRITE (R180): their refusals in order, the operation they request with the offsets it reads, each
modulo 2048, or the bytes it writes, those past 2047 dropped, and its end. -/
def Obligations.SettingsCommands : Prop :=
  ∀ (s : State) (offset data : Word) (position : BitVec 4) (words : List Word) (bytes : List Byte),
    let n := offset.toNat
    let written : List SettingsByte := ([0, 1, 2, 3].filter fun i => decide (n + i < 2048)).map fun i =>
      { offset := n + i, value := data.extractLsb' (8 * i) 8 }
    (2047 < n → s.refuses (.settingsRead offset) .badArgument ∧ s.refuses (.settingsWrite offset data) .badArgument) ∧
    (n < 1024 → s.refuses (.settingsWrite offset data) .isProtected) ∧
    (n ≤ 2047 → s.executes (.settingsRead offset) position words →
      exec (.settingsRead offset) s = .next { s with
        sp := { s.sp with
          requests := s.sp.requests ++ [.commandRead [n, (n + 1) % 2048, (n + 2) % 2048, (n + 3) % 2048] false] }
        cu := { s.cu with step := .executing position words true } }) ∧
    (1024 ≤ n → n ≤ 2047 → written.length = min 4 (2048 - n) ∧ (s.executes (.settingsWrite offset data) position words →
      exec (.settingsWrite offset data) s = .next { s with
        sp := { s.sp with requests := s.sp.requests ++ [.commandWrite written false] }
        cu := { s.cu with step := .executing position words true } })) ∧
    (s.cu.step = .executing position words true →
      (∀ offsets, s.sp.inFlight = some (.commandRead offsets false) →
        (∀ a b c d : Byte, exec (.settingsCommandEnd true [a, b, c, d]) s
          = .next (s.endSettings.queueReply position (slotTag words) (.done (d ++ c ++ b ++ a) 0))) ∧
        exec (.settingsCommandEnd false bytes) s
          = .next (s.endSettings.queueReply position (slotTag words) (.refused .settingsFault 0))) ∧
      (∀ w, s.sp.inFlight = some (.commandWrite w false) →
        exec (.settingsCommandEnd true bytes) s
          = .next (s.endSettings.queueReply position (slotTag words) (.done (field w.length) 0)) ∧
        exec (.settingsCommandEnd false bytes) s
          = .next (s.endSettings.queueReply position (slotTag words) (.refused .settingsFault 0)))) ∧
    (∀ offsets w, s.sp.inFlight = some (.commandRead offsets true) ∨ s.sp.inFlight = some (.commandWrite w true) →
      exec (.settingsCommandEnd true bytes) s = .next s.endSettings ∧
      exec (.settingsCommandEnd false bytes) s = .next s.endSettings) ∧
    s.endSettings = { s with sp := { s.sp with inFlight := none } }

/-! ## Meter channels -/

/-- The edges of a meter line (R4, R5): a leading edge opens a pulse in progress when none is; a trailing edge judges it by its
width; passing wmax rejects it at once with width wmax + 1; an edge that repeats the line's level is none. -/
def Obligations.MeterEdgesJudgePulses : Prop :=
  ∀ (s : State) (ch : Fin 17),
    let c := s.channel ch
    let t := s.setChannel ch { c with lineActive := false }
    let lo := if ch.val < 12 then s.meterConfig.bayWmin else s.meterConfig.siteWmin
    let hi := if ch.val < 12 then s.meterConfig.bayWmax else s.meterConfig.siteWmax
    (c.lineActive = true → exec (.meterLeadingEdge ch) s = .next s) ∧
    (c.lineActive = false → exec (.meterTrailingEdge ch) s = .next s) ∧
    (c.lineActive = false → c.inProgress = none →
      exec (.meterLeadingEdge ch) s = .next (s.setChannel ch { c with lineActive := true, inProgress := some s.clock.ms })) ∧
    (c.lineActive = true → c.inProgress = none → exec (.meterTrailingEdge ch) s = .next t) ∧
    (∀ a, c.inProgress = some a → c.lineActive = true →
      let width := (s.clock.ms - a).toNat
      (width < lo → exec (.meterTrailingEdge ch) s = .next (t.reject ch width)) ∧
      (lo ≤ width → width ≤ hi → exec (.meterTrailingEdge ch) s = .next (t.acceptPulse ch a))) ∧
    (∀ a, c.inProgress = some a → hi < (s.clock.ms - a).toNat →
      exec (.pulseWidthExceeded ch) s = .next (s.reject ch (hi + 1)))

/-- An accepted pulse (R6, R12, R16, R17): its channel's total, round pulses, last edge, last period and pulse in progress; on a bay
channel the silent flag and the silence reference, the runaway judgement, and the hand-over to the Bay Controller; on a site
channel BATT_IN and BATT_OUT are handed to the Battery Account (R89, R91), and the three others to no block. (Round pulses
counted on from their greatest value are a free value, log 17.) -/
def Obligations.AcceptedPulseChangesItsChannel : Prop :=
  ∀ (s : State) (ch : Fin 17) (a : Word),
    let c := s.channel ch
    let t := s.acceptPulse ch a
    let n := t.channel ch
    let e := s.meterConfig.energy ch
    let period := c.lastEdge.map fun p => a - p
    let counted := fun r : Nat => { c with
      inProgress := none, total := c.total + 1, round := r, lastEdge := some a, lastPeriod := period.or c.lastPeriod }
    n.total = c.total + 1 ∧ n.lastEdge = some a ∧ n.inProgress = none ∧ n.noise = c.noise ∧ n.lastRound = c.lastRound ∧
    n.noiseReported = c.noiseReported ∧ n.lineActive = c.lineActive ∧ n.lastPeriod = period.or c.lastPeriod ∧
    (∀ d, d ≠ ch → t.channel d = s.channel d) ∧
    (∀ b, ch = bayChannel b → n.silent = false ∧ n.silenceRef = a ∧
      State.changesOnly [.channels, .bays, .rw, .el, .nu, .pu] s t ∧ State.otherBaysSame b s t ∧
      ∃ r, (c.round < wordMax → r = c.round + 1) ∧
        t = ((s.setChannel ch (counted r)).judgeBayPulse b period a).bayPulse b) ∧
    (12 ≤ ch.val → ∃ r, (c.round < wordMax → r = c.round + 1) ∧ n = counted r) ∧
    (12 ≤ ch.val → ch.val ≤ 14 → State.changesOnly [.channels] s t) ∧
    (15 ≤ ch.val →
      let eb := if ch.val = 15 then min s.ba.cap (s.ba.eb + e) else min s.ba.cap (s.ba.eb - e)
      let low := s.ba.calibrated && decide (eb ≤ s.ba.reserve)
      State.changesOnly [.channels, .ba, .nu, .pu] s t ∧
      (low = s.ba.atReserve → t.ba = { s.ba with eb := eb }) ∧
      (low ≠ s.ba.atReserve → t.ba = { s.ba with eb := eb, atReserve := low, lastEvent := some {
        reasons := { state := false, reserve := true, calibrated := false }, stateAfter := s.ba.state
        time := s.clock.siteTime, round := s.al.round } }))

/-- A rejected pulse (R5, R11): only the pulse in progress and the noise count change on the record; the sixteenth rejection of
a round records METER_NOISE once; and a silence that waited for the pulse is found (R13), after METER_NOISE where one rejection
gives both (the model's choice, log 39). A silence is found at a bay's channel that presents an allowance, is not silent
yet, has no pulse in progress, and has had no pulse for longer than the limit; any other channel is left. -/
def Obligations.RejectedPulseCountsAsNoise : Prop :=
  ∀ (s : State) (ch : Fin 17) (width : Nat),
    let c := s.channel ch
    let d := { c with inProgress := none, noise := min 65535 (c.noise + 1) }
    let t := s.setChannel ch d
    (∀ b, ch = bayChannel b →
      let gone := (s.clock.ms - c.silenceRef).toNat
      let due := (s.bay b).drive = true ∧ 0 < (s.bay b).allowance ∧ c.silent = false ∧ c.inProgress = none ∧
        s.meterConfig.silenceLimit * 1000 < gone
      (due → s.judgeSilence ch = ((s.setChannel ch { c with silent := true }).record
        { kind := .meterSilent, bay := some b, data := some (field gone), detail := field b.val }).onBay b fun x =>
          { x with meterFaults := x.meterFaults + 1 }) ∧
      (¬ due → s.judgeSilence ch = s)) ∧
    (12 ≤ ch.val → s.judgeSilence ch = s) ∧
    (s.pu.link = .starting ∨ c.noise + 1 < 16 ∨ c.noiseReported = true → s.reject ch width = t.judgeSilence ch) ∧
    (s.pu.link ≠ .starting → 16 ≤ c.noise + 1 → c.noiseReported = false →
      s.reject ch width = ((t.setChannel ch { d with noiseReported := true }).record
        { kind := .meterNoise, bay := bayOf ch.val, data := some (field width), detail := field ch.val }).judgeSilence ch)

/-- Staleness (R7) and silence (R12, R13): what the two findings change, and when they are due; and the power estimate (R10):
floor(e x 3,600,000 / max(last period, t - last edge)), 0 W without a last period, with the energy e of a pulse (R1): 1 Wh on a
bay channel, the configured energy on a site channel. (That silence waits for a pulse in progress at the very instant the limit
passes too, where R13 allows either order, is the model's choice, log 43.) -/
def Obligations.StalenessAndSilence : Prop :=
  ∀ (s : State) (ch : Fin 17) (b : Fin 12),
    (∀ e, (s.channel ch).lastEdge = some e → 3600000 < (s.clock.ms - e).toNat →
      exec (.channelStale ch) s = .next (s.setChannel ch
        { s.channel ch with lastEdge := none, lastPeriod := none, runCount := 0, runaway := false })) ∧
    (∀ e, (s.channel ch).lastEdge = some e → (s.clock.ms - e).toNat ≤ 3600000 → exec (.channelStale ch) s = .next s) ∧
    (let c := s.channel (bayChannel b)
     let gone := (s.clock.ms - c.silenceRef).toNat
     (s.bay b).drive = true → 0 < (s.bay b).allowance → c.silent = false → c.inProgress = none →
      s.meterConfig.silenceLimit * 1000 < gone →
      exec (.silenceFound b) s = .next (((s.setChannel (bayChannel b) { c with silent := true }).record
        { kind := .meterSilent, bay := some b, data := some (field gone), detail := field b.val }).onBay b fun x =>
          { x with meterFaults := x.meterFaults + 1 })) ∧
    ((s.bay b).drive = false ∨ (s.bay b).allowance = 0 ∨ (s.channel (bayChannel b)).silent = true →
      exec (.silenceFound b) s = .next s) ∧
    (∀ p e, (s.channel ch).lastPeriod = some p → (s.channel ch).lastEdge = some e →
      s.estimate ch = s.meterConfig.energy ch * 3600000 / max p.toNat (s.clock.ms - e).toNat) ∧
    ((s.channel ch).lastPeriod = none → s.estimate ch = 0) ∧
    s.meterConfig.energy (bayChannel b) = 1 ∧ (∀ k : Fin 5, s.meterConfig.energy ⟨12 + k.val, by omega⟩ = s.meterConfig.energies[k])

/-- The runaway judgement of a measured period (R6, R14, R15): a period p is a runaway period of a bay with Pmax when
14,400,000 > 5 x Pmax x p; the third in a row records METER_RUNAWAY and hands a meter-fault event to the bay, once while the flag
is set; any other period clears count and flag. An accepted pulse of a bay channel that measures a period is judged by the Pmax
configured then, before the Bay Controller takes it; one that measures none is not judged. -/
def Obligations.RunawayIsJudgedPerPeriod : Prop :=
  (∀ (c : Channel) (pmax p : Nat),
    (14400000 ≤ 5 * pmax * p → c.judgeRunaway pmax p = ({ c with runCount := 0, runaway := false }, false)) ∧
    (5 * pmax * p < 14400000 → c.runCount < 2 → c.judgeRunaway pmax p = ({ c with runCount := c.runCount + 1 }, false)) ∧
    (5 * pmax * p < 14400000 → 2 ≤ c.runCount →
      c.judgeRunaway pmax p = ({ c with runCount := 0, runaway := true }, !c.runaway))) ∧
  (∀ (s : State) (b : Fin 12) (p : Word),
    s.findRunaway b p = (s.record { kind := .meterRunaway, bay := some b, data := some p, detail := field b.val }).onBay b
      fun x => { x with meterFaults := x.meterFaults + 1 }) ∧
  (∀ (s : State) (b : Fin 12) (a : Word),
    let ch := bayChannel b
    let c := s.channel ch
    let counted := fun r : Nat => { c with
      inProgress := none, total := c.total + 1, round := r, lastEdge := some a, silent := false, silenceRef := a }
    ∃ r, (c.round < wordMax → r = c.round + 1) ∧
      (c.lastEdge = none → s.acceptPulse ch a = (s.setChannel ch (counted r)).bayPulse b) ∧
      (∀ p, c.lastEdge = some p →
        let judged := { counted r with lastPeriod := some (a - p) }.judgeRunaway (s.bay b).config.pmax (a - p).toNat
        let t := s.setChannel ch judged.1
        s.acceptPulse ch a = (if judged.2 then t.findRunaway b (a - p) else t).bayPulse b))

/-! ## Bay lines -/

/-- A change of a filtered line starts its stability timer afresh (R20, R21, R22, R87), and a repeated level is no change. -/
def Obligations.LineChangesRestartFilters : Prop :=
  ∀ (s : State) (b : Fin 12) (high : Bool) (l : BattLine),
    ((s.bay b).plugLine ≠ high → exec (.plugLineChange b high) s
      = .next (s.onBay b fun x => { x with plugLine := high, plugTimer := some 200 })) ∧
    ((s.bay b).readyLine ≠ high → exec (.readyLineChange b high) s
      = .next (s.onBay b fun x => { x with readyLine := high, readyTimer := some 200 })) ∧
    ((s.bay b).releaseLine ≠ high → exec (.releaseLineChange b high) s
      = .next (s.onBay b fun x => { x with releaseLine := high, releaseLineTimer := some 50 })) ∧
    ((s.ba.line l).line ≠ high → exec (.battLineChange l high) s
      = .next (s.setLine l { s.ba.line l with line := high, timer := some 200 })) ∧
    ((s.bay b).plugLine = high → exec (.plugLineChange b high) s = .next s) ∧
    ((s.bay b).readyLine = high → exec (.readyLineChange b high) s = .next s) ∧
    ((s.bay b).releaseLine = high → exec (.releaseLineChange b high) s = .next s) ∧
    ((s.ba.line l).line = high → exec (.battLineChange l high) s = .next s)

/-- The PLUG filter runs out (R20, R28, R23): the level is taken; from the end of STARTING on, a change is a plug-in or a
plug-out event, acting by the bay's state. -/
def Obligations.PlugFilterTakesPlugEvents : Prop :=
  ∀ (s : State) (b : Fin 12),
    let x := s.bay b
    let t := s.onBay b fun x => { x with plugTimer := none, plug := some x.plugLine }
    x.plugTimer = some 0 →
    (s.pu.link = .starting ∨ x.plug.getD false = x.plugLine → exec (.plugFilterExpiry b) s = .next t) ∧
    (s.pu.link ≠ .starting → x.plug ≠ some true → x.plugLine = true →
      exec (.plugFilterExpiry b) s = .next
        (if x.state = .vacant then (t.raise b .plugIn).onBay b fun y => { y with state := .plugged } else t.raise b .plugIn)) ∧
    (s.pu.link ≠ .starting → x.plug = some true → x.plugLine = false →
      (x.state.isActive = true → exec (.plugFilterExpiry b) s = .next ((t.raise b .plugOut).enterStopping b .plugLost)) ∧
      (x.state = .plugged ∨ x.state = .ended → exec (.plugFilterExpiry b) s
        = .next ((t.raise b .plugOut).onBay b fun y => { y with state := .vacant })) ∧
      (x.state = .vacant ∨ x.state = .stopping ∨ x.state = .issuing ∨ x.state = .faulted →
        exec (.plugFilterExpiry b) s = .next (t.raise b .plugOut)))

/-- The READY filter runs out (R21, R31, R39, R46). -/
def Obligations.ReadyFilterTakesReadyEvents : Prop :=
  ∀ (s : State) (b : Fin 12),
    let x := s.bay b
    let t := s.onBay b fun x => { x with readyTimer := none, ready := x.readyLine }
    x.readyTimer = some 0 →
    (s.pu.link = .starting ∨ x.ready = x.readyLine → exec (.readyFilterExpiry b) s = .next t) ∧
    (s.pu.link ≠ .starting → x.ready = false → x.readyLine = true →
      (x.state = .authorised → exec (.readyFilterExpiry b) s = .next ((t.onBay b fun y => { y with
        state := .paused, drive := true, allowance := 0, releaseTimer := none, idleTimer := none }).watchFeedback b)) ∧
      (x.state ≠ .authorised → exec (.readyFilterExpiry b) s = .next t)) ∧
    (s.pu.link ≠ .starting → x.ready = true → x.readyLine = false →
      (x.state = .paused ∨ x.state = .charging → exec (.readyFilterExpiry b) s = .next ((t.onBay b fun y => { y with
        state := .authorised, drive := false, allowance := 0, releaseTimer := none
        idleTimer := if y.config.idleTimeout = 0 then none else some (1000 * y.config.idleTimeout) }).watchFeedback b)) ∧
      (x.state = .releasePending →
        exec (.readyFilterExpiry b) s = .next ((t.onBay b fun y => { y with drive := false }).watchFeedback b)) ∧
      (x.state = .stopping → x.drive = true → exec (.readyFilterExpiry b) s
        = .next ((t.onBay b fun y => { y with drive := false, stopDelayTimer := none }).judgeIssuing b)) ∧
      (x.state = .stopping → x.drive = false → exec (.readyFilterExpiry b) s = .next t) ∧
      (x.state = .vacant ∨ x.state = .plugged ∨ x.state = .authorised ∨ x.state = .issuing ∨ x.state = .ended ∨
        x.state = .faulted → exec (.readyFilterExpiry b) s = .next t))

/-- The RELEASE filter runs out (R22, R38): a press opens the release window, is deferred by maintenance, sets
RELEASE_PRESSED, or is ignored, by the bay's state. -/
def Obligations.ReleaseFilterTakesPresses : Prop :=
  ∀ (s : State) (b : Fin 12),
    let x := s.bay b
    let t := s.onBay b fun x => { x with releaseLineTimer := none, release := x.releaseLine }
    x.releaseLineTimer = some 0 →
    (s.pu.link = .starting ∨ x.release = true ∨ x.releaseLine = false → exec (.releaseFilterExpiry b) s = .next t) ∧
    (s.pu.link ≠ .starting → x.release = false → x.releaseLine = true →
      (x.state = .authorised ∨ x.state = .paused ∨ x.state = .charging →
        (x.maintenance = none → exec (.releaseFilterExpiry b) s = .next (((t.onBay b fun y => { y with
          state := .releasePending, allowance := 0, idleTimer := none
          releaseTimer := some (1000 * y.config.releaseWindow) }).raise b .releasePressed).fire .releaseRequest)) ∧
        (x.maintenance ≠ none → exec (.releaseFilterExpiry b) s
          = .next ((t.onBay b fun y => { y with deferredRelease := true }).raise b .releaseDeferred))) ∧
      (x.state = .releasePending → exec (.releaseFilterExpiry b) s = .next t) ∧
      (x.state = .vacant ∨ x.state = .plugged ∨ x.state = .stopping ∨ x.state = .issuing ∨ x.state = .ended ∨
        x.state = .faulted → exec (.releaseFilterExpiry b) s = .next (t.raise b .releasePressed)))

/-! ## Contactor feedback -/

/-- The feedback watch (R49): the timer starts at a fresh disagreement of drive and FEEDBACK and stops at agreement; it does
not run in FAULTED or before the end of STARTING. (That a disagreement whose fault is found gives no second finding, and the
first millisecond past 500, are the model's, log 9.) A contactor fault (R49, R50) is recorded with the bay and the detail
code, FAULT set, and the bay acted on by its state. -/
def Obligations.FeedbackIsWatchedAndItsFaultActs : Prop :=
  ∀ (s : State) (b : Fin 12) (closed : Bool),
    let x := s.bay b
    let y := (s.watchFeedback b).bay b
    let t := (((s.onBay b fun x => { x with feedbackTimer := none, feedbackFound := true }).record
      { kind := .contactorFault, bay := some b, detail := if x.drive then 2 else 1 }).raise b .fault)
    let faulted := t.onBay b fun y => { y with drive := false, session := { y.session with fault := true } }
    (x.feedback ≠ closed →
      exec (.feedbackChange b closed) s = .next ((s.onBay b fun x => { x with feedback := closed }).judgeIssuing b)) ∧
    (x.feedback = closed → exec (.feedbackChange b closed) s = .next s) ∧
    (x.drive = x.feedback ∨ x.state = .faulted ∨ s.pu.link = .starting → y.feedbackTimer = none) ∧
    (s.pu.link ≠ .starting → x.state ≠ .faulted → x.drive ≠ x.feedback → x.feedbackFound = false →
      (x.feedbackTimer = none → y.feedbackTimer = some 501) ∧ (∀ n, x.feedbackTimer = some n → y.feedbackTimer = some n)) ∧
    State.changesOnly [.bays] s (s.watchFeedback b) ∧ State.otherBaysSame b s (s.watchFeedback b) ∧
    (x.feedbackTimer = some 0 →
      (x.state.isActive = true → exec (.feedbackTimerExpiry b) s = .next (faulted.enterStopping b .contactorFault)) ∧
      (x.state = .stopping → exec (.feedbackTimerExpiry b) s = .next (faulted.judgeIssuing b)) ∧
      (x.state = .issuing → exec (.feedbackTimerExpiry b) s = .next (t.onBay b fun y => { y with weldMark := true })) ∧
      (x.state = .vacant ∨ x.state = .plugged ∨ x.state = .ended →
        exec (.feedbackTimerExpiry b) s = .next ((t.onBay b fun y => { y with state := .faulted }).watchFeedback b)) ∧
      (x.state = .faulted → exec (.feedbackTimerExpiry b) s = .next t))

/-! ## Timers, meter faults and stopping -/

/-- The idle, release and stop-delay timers run out (R33, R42, R46), a meter-fault event is taken (R53), and a bay enters
STOPPING (R45) with the judgement of R47 after it: the cause is recorded, the allowance is 0, the idle and release timers
stop, STOPPED is set, the stop-delay timer starts when the drive is closed; a bay whose drive is open with FEEDBACK open or
the session's FAULT set enters ISSUING. Setting an event flag of a bay, here as everywhere, fires SESSION_EVENT (R54). -/
def Obligations.TimersAndMeterFaultsStopABay : Prop :=
  ∀ (s : State) (b : Fin 12) (cause : StopCause),
    let x := s.bay b
    (x.idleTimer = some 0 → x.state = .authorised → exec (.idleTimerExpiry b) s = .next (s.enterStopping b .idle)) ∧
    (x.releaseTimer = some 0 → x.state = .releasePending →
      exec (.releaseTimerExpiry b) s = .next (s.enterStopping b .release)) ∧
    (x.stopDelayTimer = some 0 → x.state = .stopping → exec (.stopDelayExpiry b) s
      = .next ((s.onBay b fun y => { y with stopDelayTimer := none, drive := false }).judgeIssuing b)) ∧
    (∀ n, x.meterFaults = n + 1 →
      let t := s.onBay b fun y => { y with meterFaults := n }
      (s.pu.link ≠ .starting → x.state.isActive = true → exec (.meterFaultEvent b) s = .next (t.enterStopping b .meterFault)) ∧
      (x.state.isActive = false → exec (.meterFaultEvent b) s = .next t)) ∧
    s.enterStopping b cause = ((s.onBay b fun x => { x with
      state := .stopping, allowance := 0, idleTimer := none, releaseTimer := none
      stopDelayTimer := if x.drive then some (1000 * x.config.stopDelay) else none
      session := { x.session with stopCause := some cause } }).raise b .stopped).judgeIssuing b ∧
    (x.state = .stopping → x.drive = false → x.feedback = false ∨ x.session.fault = true →
      s.judgeIssuing b = (s.enterIssuing b).watchFeedback b) ∧
    (x.state ≠ .stopping ∨ x.drive = true ∨ (x.feedback = true ∧ x.session.fault = false) →
      s.judgeIssuing b = s.watchFeedback b) ∧
    (∀ f, s.raise b f = (s.onBay b fun y => { y with events := y.events ||| f.bit }).fire .sessionEvent) ∧
    [EventFlag.plugIn, .plugOut, .authorised, .chargingStarted, .releasePressed, .releaseDeferred, .stopped, .quotaReached,
      .receiptIssued, .fault].map EventFlag.bit = [1, 2, 4, 8, 16, 32, 64, 128, 256, 512]

/-- Entry to ISSUING (R47, R122, R130): the stop time is the site time, the partial round is attributed and its counts become
0, and the receipt is issued: the counts, the sequence number, the slot, the check over the chain value and the entry at
the queue's tail. -/
def Obligations.EntryToIssuingIssuesTheReceipt : Prop :=
  ∀ (s : State) (b : Fin 12),
    let t := s.enterIssuing b
    let x := s.bay b
    let y := t.bay b
    let sequence := s.rw.lastIssued + 1
    let body := receiptBody b y.session s.rw.epoch sequence
    let check := crc32 (wordBytes s.rw.chain ++ body)
    y.state = .issuing ∧ y.session.stopTime = some s.clock.siteTime ∧ y.session.tallies = x.attribute.session.tallies ∧
    y.session.stopCause = x.session.stopCause ∧ y.session.number = x.session.number ∧
    y.sessionPulses = 0 ∧ y.unownedPulses = 0 ∧ y.roundOverQuota = 0 ∧ y.stopDelayTimer = none ∧
    (t.channel (bayChannel b)) = { s.channel (bayChannel b) with round := 0 } ∧
    t.rw = { s.rw with
      reserved := s.rw.reserved - 1, uncollected := s.rw.uncollected + 1, issuing := s.rw.issuing + 1
      lastIssued := sequence, nextSlot := (s.rw.nextSlot + 1) % s.rw.geometry.slots, chain := check } ∧
    t.pu.queue = s.pu.queue ++ [{
      kind := .receipt b sequence check
      addr := s.rw.geometry.base.getD 0 + s.rw.nextSlot * 64
      bytes := body ++ wordBytes check }] ∧
    State.changesOnly [.bays, .channels, .rw, .pu] s t ∧ State.otherBaysSame b s t

/-- The receipt record's first 60 bytes (R126, spec/11 11.4): each field at its offset, least significant byte first; the
CRC-32 of R129 on its nine-byte example, and the chain start (R130). -/
def Obligations.ReceiptFieldsStandAtTheirOffsets : Prop :=
  ∀ (b : Fin 12) (x : Session) (epoch : Word) (sequence : Nat),
    let body := receiptBody b x epoch sequence
    body.length = 60 ∧ leNat body 0 1 = b.val ∧ leNat body 1 1 = classCode x.cls ∧ leNat body 2 1 = stopCode x.stopCause ∧
    leNat body 3 1 = bit x.timeUnset + 2 * bit x.fault + 4 * bit (decide (0 < x.tallies.overQuota)) ∧
    leNat body 4 4 = epoch.toNat ∧ leNat body 8 4 = min sequence wordMax ∧ leNat body 12 4 = x.number.toNat ∧
    leNat body 16 4 = x.startTime.toNat ∧ (∀ w, x.stopTime = some w → leNat body 20 4 = w.toNat) ∧
    leNat body 24 4 = min x.tallies.total wordMax ∧ leNat body 28 4 = min x.tallies.solar wordMax ∧
    leNat body 32 4 = min x.tallies.battery wordMax ∧ leNat body 36 4 = min x.tallies.grid wordMax ∧
    leNat body 40 4 = min x.tallies.overQuota wordMax ∧ leNat body 44 16 = x.reference.toNat ∧
    crc32 [0x31, 0x32, 0x33, 0x34, 0x35, 0x36, 0x37, 0x38, 0x39] = 0xCBF43926 ∧ chainStart epoch = crc32 (leBytes 4 epoch.toNat)

/-- Leaving ISSUING (R48) on the finished receipt's report, and the closing report that lowers I (R125). -/
def Obligations.IssuingEndsWithTheClosingReport : Prop :=
  ∀ (s : State) (b : Fin 12),
    let x := s.bay b
    (x.state = .issuing → x.receiptFinished = true →
      exec (.issuingExit b) s = .next (((s.raise b .receiptIssued).onBay b fun y => { y with
        state := if x.session.fault = true ∨ x.weldMark = true then .faulted
          else if x.plug = some true then .ended else .vacant
        weldMark := false, receiptFinished := false, closedReports := y.closedReports + 1 }).watchFeedback b)) ∧
    (∀ n, x.closedReports = n + 1 → exec (.sessionClosedReport b) s
      = .next { (s.onBay b fun y => { y with closedReports := n }) with rw := { s.rw with issuing := s.rw.issuing - 1 } }) ∧
    (∀ sequence check,
      s.receiptComplete b sequence check false = (s.onBay b fun y => { y with receiptFinished := true }).fire .receiptIssued ∧
      s.receiptComplete b sequence check true = ({ s with rw := { s.rw with
        abandoned := min 65535 (s.rw.abandoned + 1), lastAbandoned := some (sequence, check) } }.onBay b fun y =>
          { y with receiptFinished := true }).fire .receiptIssued)
/-! ## Sessions -/

/-- AUTHORISE (R29, R30, R31, R33, R120, R137): the refusals in their order, and past them the slot reserved, the session
record filled and the bay in PAUSED with READY high and in AUTHORISED otherwise. -/
def Obligations.AuthoriseOpensASession : Prop :=
  ∀ (s : State) (bay : Byte) (cls quota : Word) (reference : BitVec 128),
    let c := Instr.authorise bay cls quota reference
    (11 < bay.toNat ∨ cls = 0 ∨ 3 < cls.toNat ∨ 1000000 < quota.toNat → s.refuses c .badArgument) ∧
    ∀ (b : Fin 12) (k : SessionClass), bay.toNat = b.val → cls.toNat = k.code → quota.toNat ≤ 1000000 →
      let x := s.bay b
      let free := s.rw.geometry.slots - s.rw.reserved - s.rw.uncollected
      (s.el.hold = true → s.refuses c .held) ∧
      (s.el.hold = false → x.maintenance ≠ none → s.refuses c .wrongState) ∧
      (s.el.hold = false → x.maintenance = none → x.state = .vacant → s.refuses c .notPlugged) ∧
      (s.el.hold = false → x.maintenance = none → x.state ≠ .vacant → x.state ≠ .plugged → x.state ≠ .ended →
        s.refuses c .wrongState) ∧
      (s.el.hold = false → x.maintenance = none → x.state = .plugged ∨ x.state = .ended →
        (free = 0 ∨ s.rw.lastIssued + s.rw.reserved = wordMax → s.refuses c .noSlot) ∧
        (0 < free → s.rw.lastIssued + s.rw.reserved ≠ wordMax → ∃ t, s.answers c t (.done s.nextSession 0) ∧
          let y := t.bay b
          y.session = { number := s.nextSession, cls := some k, quota := quota.toNat, remaining := quota.toNat
                        reference := reference, startTime := s.clock.siteTime, timeUnset := s.clock.timeUnset } ∧
          y.lastSession = some s.nextSession ∧ y.roundOverQuota = 0 ∧ y.events = x.events ||| EventFlag.authorised.bit ∧
          y.allowance = 0 ∧ y.state = (if x.ready then .paused else .authorised) ∧ y.drive = x.ready ∧
          y.idleTimer = (if x.ready = true ∨ x.config.idleTimeout = 0 then none else some (1000 * x.config.idleTimeout)) ∧
          t.nextSession = (if s.nextSession = 0xFFFFFFFF then 1 else s.nextSession + 1) ∧
          t.rw = { s.rw with reserved := s.rw.reserved + 1, armed := s.rw.armed && decide (s.rw.geometry.lowWater < free - 1) } ∧
          State.changesOnly [.bays, .nextSession, .rw, .nu, .pu] s t ∧ State.otherBaysSame b s t))

/-- The commands that name a session (R35, R36, R37, R41): the checks they share, in their order, and what STOP,
EXTEND_QUOTA and RELEASE_CANCEL do past them. -/
def Obligations.SessionCommandsAreCheckedAndAct : Prop :=
  ∀ (s : State) (bay : Byte) (session amount : Word),
    let named := [Instr.stop bay session, .releaseConfirm bay session, .releaseCancel bay session] ++
      (if amount = 0 then [] else [.extendQuota bay session amount])
    (amount = 0 → s.refuses (.extendQuota bay session amount) .badArgument) ∧
    (11 < bay.toNat → ∀ c ∈ named, s.refuses c .badArgument) ∧
    ∀ b : Fin 12, bay.toNat = b.val →
      let x := s.bay b
      let n := x.session
      (x.lastSession ≠ some session → ∀ c ∈ named, s.refuses c .staleSession) ∧
      (x.lastSession = some session → x.state.isActive = false → ∀ c ∈ named,
        s.answers c s (.refused .tooLate (field (stopCode n.stopCause)))) ∧
      (x.lastSession = some session → x.state.isActive = true →
        s.answers (.stop bay session) (s.enterStopping b .command) (.done 0 0) ∧
        (amount ≠ 0 → n.quota = 0 → s.refuses (.extendQuota bay session amount) .wrongState) ∧
        (amount ≠ 0 → n.quota ≠ 0 → 1000000 < n.quota + amount.toNat →
          s.refuses (.extendQuota bay session amount) .badArgument) ∧
        (amount ≠ 0 → n.quota ≠ 0 → n.quota + amount.toNat ≤ 1000000 → s.answers (.extendQuota bay session amount)
          (s.onBay b fun x => { x with
            session := { n with quota := n.quota + amount.toNat, remaining := n.remaining + amount.toNat } })
          (.done (field (n.quota + amount.toNat)) (field (n.remaining + amount.toNat)))) ∧
        (x.state ≠ .releasePending → s.refuses (.releaseCancel bay session) .wrongState) ∧
        (x.state = .releasePending → s.answers (.releaseCancel bay session) ((s.onBay b fun y => { y with
            state := if y.ready then .paused else .authorised, drive := y.ready, allowance := 0, releaseTimer := none
            idleTimer := if y.ready = true ∨ y.config.idleTimeout = 0 then none else some (1000 * y.config.idleTimeout)
            }).watchFeedback b) (.done 0 0)))

/-- RELEASE_CONFIRM past the checks of R36 (R40). -/
def Obligations.ReleaseConfirmStopsAReleasePendingBay : Prop :=
  ∀ (s : State) (bay : Byte) (session : Word) (b : Fin 12),
    let x := s.bay b
    let t := s.enterStopping b .release
    bay.toNat = b.val → x.lastSession = some session →
    (x.state = .releasePending → s.answers (.releaseConfirm bay session) t (.done 0 0) ∧ (t.bay b).releaseTimer = none ∧
      (t.bay b).session.stopCause = some .release ∧ (t.bay b).events = x.events ||| EventFlag.stopped.bit ∧
      (t.bay b).allowance = 0 ∧ ((t.bay b).state = .stopping ∨ (t.bay b).state = .issuing)) ∧
    (x.state = .authorised ∨ x.state = .paused ∨ x.state = .charging → s.refuses (.releaseConfirm bay session) .wrongState)

/-- READY events of a RELEASE_PENDING bay, and a plan applied to it (R39): the drive follows READY low and not READY high, and
nothing else of the bay changes but the taken level, its filter and the feedback watch; a plan presents 0. -/
def Obligations.ReleasePendingKeepsItsState : Prop :=
  ∀ (s : State) (b : Fin 12) (p : PlanBay),
    let x := s.bay b
    let y := (s.takePlan b p).bay b
    x.state = .releasePending →
    (s.pu.link ≠ .starting → x.readyTimer = some 0 → ∃ t timer found, exec (.readyFilterExpiry b) s = .next t ∧
      State.otherBaysSame b s t ∧ t.bay b = { x with
        readyTimer := none, ready := x.readyLine, feedbackTimer := timer, feedbackFound := found
        drive := if x.ready = true ∧ x.readyLine = false then false else x.drive }) ∧
    y.state = .releasePending ∧ y.allowance = x.allowance ∧ y.drive = x.drive ∧ (x.sound → y.allowance = 0)

/-- MAINTENANCE in its two settings (R43, R44): its refusals; on sets the pattern; off clears it, and a deferred press acts as
a press at a bay that still takes one. -/
def Obligations.MaintenanceIsSetAndEnds : Prop :=
  ∀ (s : State) (bay : Byte) (pattern : Word),
    (11 < bay.toNat ∨ 5 < pattern.toNat →
      s.refuses (.maintenanceOn bay pattern) .badArgument ∧ s.refuses (.maintenanceOff bay pattern) .badArgument) ∧
    ∀ (b : Fin 12) (l : Light), bay.toNat = b.val → pattern.toNat = l.code →
      let x := s.bay b
      let t := s.onBay b fun y => { y with maintenance := none, deferredRelease := false }
      s.answers (.maintenanceOn bay pattern) (s.onBay b fun y => { y with maintenance := some l }) (.done 0 0) ∧
      (x.maintenance = none → s.answers (.maintenanceOff bay pattern) s (.done 0 0)) ∧
      (x.maintenance ≠ none → x.deferredRelease = true → x.state = .authorised ∨ x.state = .paused ∨ x.state = .charging →
        s.answers (.maintenanceOff bay pattern) (((t.onBay b fun y => { y with
          state := .releasePending, allowance := 0, idleTimer := none
          releaseTimer := some (1000 * y.config.releaseWindow) }).raise b .releasePressed).fire .releaseRequest) (.done 0 0)) ∧
      (x.maintenance ≠ none →
        x.deferredRelease = false ∨ (x.state ≠ .authorised ∧ x.state ≠ .paused ∧ x.state ≠ .charging) →
        s.answers (.maintenanceOff bay pattern) t (.done 0 0)) ∧
      (∀ y : Bay, y.maintenance = some l → y.light = l) ∧ (∀ y : Bay, y.maintenance = none → y.light = y.state.light)

/-- CLEAR_BAY (R52) and SET_BAY (R24, R25): their refusals in order and their effects. -/
def Obligations.ClearBayAndSetBay : Prop :=
  ∀ (s : State) (bay : Byte) (pmin pmax stopDelay releaseWindow idleTimeout cap pairWord : Word),
    let c := Instr.setBay bay pmin pmax stopDelay releaseWindow idleTimeout cap pairWord
    (11 < bay.toNat → s.refuses (.clearBay bay) .badArgument ∧ s.refuses c .badArgument) ∧
    ∀ b : Fin 12, bay.toNat = b.val →
      let x := s.bay b
      let present := pairWord.getLsbD 31 = true
      let member := pairWord.toNat % 16
      let fp := if pairWord.getLsbD 31 then cap.toNat else (s.pair (pairOf b)).cap
      let legal :=
        1400 ≤ pmin.toNat ∧ pmin.toNat ≤ 11000 ∧ pmin.toNat % 100 = 0 ∧ pmin.toNat ≤ pmax.toNat ∧ pmax.toNat ≤ 22000 ∧
        pmax.toNat % 100 = 0 ∧ 1 ≤ stopDelay.toNat ∧ stopDelay.toNat ≤ 10 ∧ 2 ≤ releaseWindow.toNat ∧
        releaseWindow.toNat ≤ 60 ∧ (idleTimeout = 0 ∨ 60 ≤ idleTimeout.toNat ∧ idleTimeout.toNat ≤ 3600) ∧
        (present → cap.toNat ≤ 44000 ∧ cap.toNat % 100 = 0 ∧ member / 2 = b.val / 2) ∧
        (fp = 0 ∨ max pmin.toNat (s.bay (partnerOf b)).config.pmin ≤ fp)
      let inUse := x.state.isOpen = true ∨ (present ∧ (s.bay (partnerOf b)).state.isOpen = true)
      (x.state ≠ .faulted ∨ x.feedback = true → s.refuses (.clearBay bay) .wrongState) ∧
      (x.state = .faulted → x.feedback = false → s.answers (.clearBay bay) ((s.onBay b fun y => { y with
        state := if y.plug = some true then .plugged else .vacant }).watchFeedback b) (.done 0 0)) ∧
      (¬ legal → s.refuses c .badArgument) ∧
      (legal → inUse → s.refuses c .wrongState) ∧
      (legal → ¬ inUse → s.answers c ((s.onBay b fun y => { y with config := {
          pmin := pmin.toNat, pmax := pmax.toNat, stopDelay := stopDelay.toNat, releaseWindow := releaseWindow.toNat
          idleTimeout := idleTimeout.toNat } }).setPair (pairOf b)
        (if pairWord.getLsbD 31 then { cap := cap.toNat, evenIsOdd := member % 2 == 1 } else s.pair (pairOf b))) (.done 0 0))

/-! ## Pulses, attribution and grants -/

/-- A pulse taken by a bay (R34, R104), its counts below the end of their range: unowned with no session counted; else a
session pulse, and against the quota: over it, down by 1, or the last of it, which stops an active bay. -/
def Obligations.PulsesCountAgainstTheQuota : Prop :=
  ∀ (s : State) (b : Fin 12),
    let x := s.bay b
    let t := s.onBay b fun y => { y with sessionPulses := x.sessionPulses + 1 }
    let last := (t.onBay b fun y => { y with session := { y.session with remaining := 0 } }).raise b .quotaReached
    (x.state.countsPulses = false → x.unownedPulses < wordMax →
      s.bayPulse b = s.onBay b fun y => { y with unownedPulses := x.unownedPulses + 1 }) ∧
    (x.state.countsPulses = true → x.sessionPulses < wordMax →
      (x.session.quota = 0 → s.bayPulse b = t) ∧
      (x.session.quota ≠ 0 → x.session.remaining = 0 → x.roundOverQuota < wordMax →
        s.bayPulse b = t.onBay b fun y => { y with roundOverQuota := x.roundOverQuota + 1 }) ∧
      (x.session.quota ≠ 0 → 1 < x.session.remaining →
        s.bayPulse b = t.onBay b fun y => { y with session := { y.session with remaining := x.session.remaining - 1 } }) ∧
      (x.session.quota ≠ 0 → x.session.remaining = 1 → x.state = .stopping → s.bayPulse b = last) ∧
      (x.session.quota ≠ 0 → x.session.remaining = 1 → x.state.isActive = true → s.bayPulse b = last.enterStopping b .quota))

/-- Attribution (R105, R106, R107): the round's pulses enter the tallies by the kept portions when those name the session and
are not all 0, and as grid otherwise; over-quota takes the round's count, and no more than the pulses entered; the round's counts
become 0. -/
def Obligations.AttributionSplitsTheRound : Prop :=
  ∀ x : Bay,
    let t := x.session.tallies
    let k := x.keptPortions
    let sum := k.solar + k.battery + k.grid
    let e := x.sessionPulses
    let y := x.attribute
    let beyond := t.overQuota + min x.roundOverQuota e
    (x.state.countsPulses = true → t.total + e ≤ wordMax →
      (x.keptSession = some x.session.number → 0 < sum → y.session.tallies =
        { total := t.total + e, solar := t.solar + e * k.solar / sum, battery := t.battery + e * k.battery / sum
          grid := t.grid + (e - e * k.solar / sum - e * k.battery / sum), overQuota := beyond }) ∧
      (x.keptSession ≠ some x.session.number ∨ sum = 0 → y.session.tallies =
        { total := t.total + e, solar := t.solar, battery := t.battery, grid := t.grid + e, overQuota := beyond })) ∧
    (x.state.countsPulses = true → wordMax < t.total + e → t.total ≤ wordMax → y.session.tallies.total = wordMax ∧
      y.session.tallies.overQuota = t.overQuota + min x.roundOverQuota (wordMax - t.total)) ∧
    (x.state.countsPulses = true → t.solar + t.battery + t.grid = t.total →
      y.session.tallies.solar + y.session.tallies.battery + y.session.tallies.grid = y.session.tallies.total) ∧
    (x.state.countsPulses = false → y.session = x.session) ∧
    y = { x with session := { x.session with tallies := y.session.tallies }, roundOverQuota := 0, sessionPulses := 0, unownedPulses := 0 }

/-- A bay takes its part of a plan (R12, R32, R61): it attributes the round, keeps the portions and their session, and uses
the grant only when it names the session open there. (That a bay PAUSED again in the same round uses the grant staged before is the
model's choice, log 40.) -/
def Obligations.BayTakesItsGrant : Prop :=
  ∀ (s : State) (b : Fin 12) (p : PlanBay),
    let x := (s.bay b).attribute
    let grant := if x.state.isOpen = true ∧ p.session = some x.session.number then p.grant else 0
    let kept := { x with keptPortions := p.portions, keptSession := p.session }
    let t := s.takePlan b p
    let c := s.channel (bayChannel b)
    let charging := { kept with state := .charging, allowance := grant, session := { x.session with chargedMark := true } }
    (x.state = .paused → 0 < grant → x.session.chargedMark = true → t.bay b = charging) ∧
    (x.state = .paused → 0 < grant → x.session.chargedMark = false →
      t.bay b = { charging with events := x.events ||| EventFlag.chargingStarted.bit }) ∧
    (x.state = .charging → 0 < grant → t.bay b = { kept with allowance := grant }) ∧
    (x.state = .charging → grant = 0 → t.bay b = { kept with state := .paused, allowance := 0 }) ∧
    (x.state = .paused → grant = 0 → t.bay b = kept) ∧
    (x.state ≠ .paused → x.state ≠ .charging → t.bay b = kept) ∧
    (x.allowance = 0 → 0 < (t.bay b).allowance →
      t.channel (bayChannel b) = { c with silenceRef := s.clock.ms, silent := false }) ∧
    (0 < x.allowance ∨ (t.bay b).allowance = 0 → t.channel (bayChannel b) = c) ∧
    State.changesOnly [.bays, .channels, .nu, .pu] s t ∧ State.otherBaysSame b s t

/-! ## Rounds and plans -/

/-- A boundary (R8, R56, R59, R60, R61, R63, R95): the staged plan becomes the applied plan, the next inputs are latched, every
channel hands over its round, every bay and the Battery Account takes its part once, whatever the order of the parts and whether
a window change is taken between them (R111, log 25); and what the latched inputs are (R59). (That the inputs are read before
GRID_OVERLIMIT is recorded is the model's choice, log 21, and so is that a boundary waits for its staged plan, log 23.) -/
def Obligations.BoundaryAppliesTheStagedPlan : Prop :=
  ∀ (s : State) (order : List Nat) (window : Option Nat) (p : Plan), s.al.boundaryTimer = some 0 → s.al.staged = some p →
    let u : State := { s with al := { s.al with round := s.al.round + 1 } }
    let grid := s.estimate 14
    let l := s.readInputs
    l.solar = s.estimate 12 ∧ l.shop = s.estimate 13 ∧ l.grid = s.estimate 14 ∧ l.limit = s.al.limit ∧ l.period = s.al.period ∧
    l.map = s.al.map ∧ l.pairs = s.pairs ∧
    (∀ b, let x := s.bay b
      let may := (x.state = .paused ∨ x.state = .charging) ∧ x.drive = true ∧ x.ready = true
      (may → l.bay b = { eligible := true, cls := x.session.cls, session := some x.session.number
                         pmin := x.config.pmin, pmax := x.config.pmax, wait := x.waitCount }) ∧
      (¬ may → l.bay b = { eligible := false, cls := none, session := none
                           pmin := x.config.pmin, pmax := x.config.pmax, wait := x.waitCount })) ∧
    l.eb = s.ba.eb ∧ l.cap = s.ba.cap ∧ l.reserve = s.ba.reserve ∧ l.cmax = s.ba.cmax ∧ l.dmax = s.ba.dmax ∧
    l.calibrated = s.ba.calibrated ∧ (l.offline = true ↔ s.ba.state = .offline) ∧ l.hold = s.el.hold ∧
    (l.attached = true ↔ s.pu.link = .attached) ∧
    (arrange 14 order boundaryParts).Perm boundaryParts ∧
    ∃ t, exec (.roundBoundary ⟨order, window⟩) s = .next t ∧
      t.al.round = s.al.round + 1 ∧ t.al.applied = some p ∧ t.al.staged = none ∧ t.al.roundLength = some p.roundLength ∧
      t.al.boundaryTimer = some (1000 * p.roundLength) ∧ t.al.latched = some s.readInputs ∧
      (s.al.limit < grid → t.al.correction = grid - s.al.limit ∧ t.al.episodes = min 65535 (s.al.episodes + 1)) ∧
      (grid ≤ s.al.limit → t.al.correction = 0 ∧ t.al.episodes = 0 ∧ t.al.episodeReported = false) ∧
      (s.al.limit < grid → s.al.episodes = 2 → s.al.episodeReported = false →
        t.al.episodeReported = true ∧ inKindSet t.el.status .gridOverlimit = true) ∧
      (∀ b, t.bay b = (u.takePlan b p.bays[b]).bay b) ∧
      (∀ ch, (t.channel ch).lastRound = (s.channel ch).round ∧ (t.channel ch).round = 0 ∧ (t.channel ch).noise = 0 ∧
        (t.channel ch).noiseReported = false ∧ (t.channel ch).total = (s.channel ch).total ∧
        (t.channel ch).lastEdge = (s.channel ch).lastEdge ∧ (t.channel ch).lastPeriod = (s.channel ch).lastPeriod) ∧
      t.ba = (u.takeSetpoint p.setpoint).ba ∧ t.al.limit = s.al.limit ∧ t.al.period = s.al.period ∧ t.al.map = s.al.map

/-- The end of a plan's computation (R62, R75), and the pots it shares (R65 to R68): with H = G - L - X, the solar and battery
cover of the shop, SHOP_OVER, and the three pots. -/
def Obligations.PlanIsStagedFromItsPots : Prop :=
  ∀ (s : State) (l : Latched) (x : Nat),
    (s.al.latched = some l → s.al.staged = none → ∃ t, exec .planComputationEnd s = .next t ∧
      t.al = { s.al with staged := some (l.plan s.al.correction (s.al.round + 1)) } ∧
      let v := l.serving (l.pots s.al.correction)
      ∀ b, t.bay b = { s.bay b with waitCount :=
        if (l.bay b).eligible = true ∧ v.served b = false then min 65535 ((l.bay b).wait + 1) else 0 }) ∧
    let d := l.shop + x - l.limit
    let usable := l.offline = false ∧ l.calibrated = true
    (l.shop + x ≤ l.limit → l.solarCover x = 0 ∧ l.batteryCover x = 0 ∧ (l.pots x).grid = l.limit - (l.shop + x) ∧
      (l.pots x).solar = l.solar ∧ l.shopOver x = false) ∧
    (l.limit ≤ l.shop + x → (l.pots x).grid = 0) ∧
    l.solarCover x = min l.solar d ∧ (l.pots x).solar = l.solar - min l.solar d ∧
    (usable → l.batteryCover x = min (d - min l.solar d) (min l.dmax (l.eb * 3600 / l.period))) ∧
    (¬ usable → l.batteryCover x = 0 ∧ (l.pots x).battery = 0) ∧
    (l.shopOver x = true ↔ l.solarCover x + l.batteryCover x < d) ∧
    (usable → l.reserve < l.eb →
      (l.pots x).battery = min (l.dmax - l.batteryCover x) ((l.eb - l.reserve) * 3600 / l.period)) ∧
    (l.eb ≤ l.reserve → (l.pots x).battery = 0) ∧
    (l.plan x s.al.round).potSolar = (l.pots x).solar ∧ (l.plan x s.al.round).potBattery = (l.pots x).battery ∧
    (l.plan x s.al.round).potGrid = (l.pots x).grid

/-- The headline of the allocation (R71 to R84): for legal latched inputs the portions a plan gives the bays draw no source beyond
its pot, every bay's portions add up to its grant, and the planned import stays within G unless SHOP_OVER; the setpoint is the
solar leftover's charge (R82) less the battery cover and the battery portions, between -Dmax and Cmax (R83); and what else the
plan holds (R84). The portions of a class (R81), from its deductions as O42 states them: a bay's base portions are the floors of its
grant times the class fractions, and its remainder, at most 2 W, is placed in ascending bay number on grid, then battery, then solar,
as far as each has room: the class's deduction less the portions of the bays before and the base portions of the others. No source
gives a class more than the class's deduction from it, nor anything where the class's set omits it (R69). -/
def Obligations.PlanStaysWithinThePots : Prop :=
  ∀ (l : Latched) (x : Nat) (round : Word), l.legal →
    let p := l.plan x round
    let solar := sumBays p.bays fun b => b.portions.solar
    let battery := sumBays p.bays fun b => b.portions.battery
    let grid := sumBays p.bays fun b => b.portions.grid
    let charge := if l.offline then 0 else min (p.potSolar - solar) (min l.cmax ((l.cap - l.eb) * 3600 / l.period))
    solar ≤ p.potSolar ∧ battery ≤ p.potBattery ∧ grid ≤ p.potGrid ∧
    (∀ b : Fin 12, (p.bays[b]).portions.sum = (p.bays[b]).grant) ∧
    (p.flags.shopOver = false → l.shop + x + grid ≤ l.limit + p.coverSolar + p.coverBattery) ∧
    p.setpoint = (charge : Int) - p.coverBattery - battery ∧ -(l.dmax : Int) ≤ p.setpoint ∧ p.setpoint ≤ l.cmax ∧
    p.round = round ∧ p.roundLength = l.period ∧ p.coverSolar = l.solarCover x ∧ p.coverBattery = l.batteryCover x ∧
    p.flags = { shopOver := l.shopOver x, held := l.hold, detached := !l.attached, corrected := decide (0 < x) } ∧
    -- the portions of each class
    ∀ c : SessionClass,
      let d := ((l.serving (l.pots x)).of c).deductions
      let total := d.solar + d.battery + d.grid
      let set := match c with | .priority => l.map.priority | .standard => l.map.standard | .economy => l.map.economy
      let bs := (List.finRange 12).filter fun b => (l.bay b).eligible && (l.bay b).cls == some c
      let base := fun (source : Portions → Nat) (b : Fin 12) => (p.bays[b]).grant * source d / total
      let got := fun (source : Portions → Nat) (b : Fin 12) => source (p.bays[b]).portions
      let within := fun (k : Nat) (source : Portions → Nat) =>
        (bs.map (got source)).sum ≤ source d ∧ (set.getLsbD k = false → ∀ b ∈ bs, got source b = 0)
      within 0 Portions.solar ∧ within 1 Portions.battery ∧ within 2 Portions.grid ∧
      ∀ before b after, bs = before ++ b :: after →
        let solar := base Portions.solar b
        let battery := base Portions.battery b
        let grid := base Portions.grid b
        let rest := (p.bays[b]).grant - solar - battery - grid
        let room := fun (source : Portions → Nat) => source d - (before.map (got source)).sum - ((b :: after).map (base source)).sum
        let toGrid := min rest (room Portions.grid)
        let toBattery := min (rest - toGrid) (room Portions.battery)
        rest ≤ 2 ∧ (p.bays[b]).portions =
          { solar := solar + (rest - toGrid - toBattery), battery := battery + toBattery, grid := grid + toGrid }

/-- What a grant is (R72 to R80, R84): 0, or at an eligible bay a multiple of 100 between Pmin and Pmax, Pmin under HOLD or
unless ATTACHED, naming the latched session; and the grants of a capped pair add up to no more than its cap. The grants come from
serving the classes in turn, each from what its set permits of the pots left (R71): in full when that covers every Pmin of its
bays (R72), and otherwise by admission, the higher wait count and then the lower bay number first, while the running amount covers a
Pmin (R74); what is left is shared by water-filling (R73: floor100 of Pmin and the lesser of headroom and level, the level the
quotient of two numbers that makes these additions the amount, or all headrooms when it covers them). The class total is deducted
solar, battery, grid (R76). Then come the caps: of a pair as O43 states them, and Pmin under HOLD or unless ATTACHED (R80). -/
def Obligations.GrantsAreLegalAndPairsWithinCaps : Prop :=
  ∀ (l : Latched) (x : Nat) (round : Word), l.legal →
    let p := l.plan x round
    (∀ b : Fin 12,
      let g := (p.bays[b]).grant
      g = 0 ∧ (p.bays[b]).session = none ∨
      (l.bay b).eligible = true ∧ g % 100 = 0 ∧ (l.bay b).pmin ≤ g ∧ g ≤ (l.bay b).pmax ∧
        (l.hold = true ∨ l.attached = false → g = (l.bay b).pmin) ∧ (p.bays[b]).session = (l.bay b).session) ∧
    (∀ q : Fin 6, (l.pairs[q]).cap ≠ 0 →
      (p.bays[lowerBay q]).grant + (p.bays[higherBay q]).grant ≤ (l.pairs[q]).cap) ∧
    let v := l.serving (l.pots x)
    let granted := grantIn v.grants
    let pmin := fun b => (l.bay b).pmin
    let head := fun b => (l.bay b).pmax - (l.bay b).pmin
    let fills := fun (q : Nat) (bs : List (Fin 12)) (gs : List (Fin 12 × Nat)) => ∃ n d : Nat, 0 < d ∧
      (bs.map fun b => min (head b * d) n).sum = min (q * d) (bs.map fun b => head b * d).sum ∧
      gs = bs.map fun b => (b, (pmin b * d + min (head b * d) n) / (100 * d) * 100)
    (∀ c : SessionClass,
      let left := match c with
        | .priority => l.pots x
        | .standard => (l.pots x).less v.priority.deductions
        | .economy => ((l.pots x).less v.priority.deductions).less v.standard.deductions
      let set := match c with | .priority => l.map.priority | .standard => l.map.standard | .economy => l.map.economy
      let solar := if set.getLsbD 0 then left.solar else 0
      let battery := if set.getLsbD 1 then left.battery else 0
      let grid := if set.getLsbD 2 then left.grid else 0
      let bs := (List.finRange 12).filter fun b => (l.bay b).eligible && (l.bay b).cls == some c
      let need := (bs.map pmin).sum
      let pot := solar + battery + grid
      let gs := (v.of c).grants
      let total := (gs.map Prod.snd).sum
      (need ≤ pot → fills (pot - need) bs gs) ∧
      (pot < need → ∃ order : List (Fin 12), order.Perm bs ∧
        (order.Pairwise fun a b => (l.bay b).wait < (l.bay a).wait ∨ ((l.bay a).wait = (l.bay b).wait ∧ a < b)) ∧
        let run := order.foldl (fun (r : List (Fin 12) × Nat) b =>
          if pmin b ≤ r.2 then (r.1 ++ [b], r.2 - pmin b) else r) ([], pot)
        fills run.2 run.1 gs) ∧
      (v.of c).deductions =
        { solar := min solar total, battery := min battery (total - solar), grid := min grid (total - solar - battery) }) ∧
    (∀ b, v.served b = true ↔ ∃ c g, (b, g) ∈ (v.of c).grants) ∧
    (∀ b c g, (b, g) ∈ (v.of c).grants → granted b = g) ∧
    (∀ b, v.served b = false → granted b = 0) ∧
    (∀ q : Fin 6,
      let r := l.pairGrants round granted q
      let held := fun g m : Nat => if l.hold = true ∨ l.attached = false then min g m else g
      (p.bays[lowerBay q]).grant = held r.1 (pmin (lowerBay q)) ∧ (p.bays[higherBay q]).grant = held r.2 (pmin (higherBay q)))

/-- A capped pair one of whose grants is 0, and a pair within its cap (R79). With two grants above 0 the pair shares its cap by
reduction when it covers both Pmins (R77), and otherwise one bay keeps the lesser of its grant and the cap: the pair even member on
an even round, the other on an odd one (R78). -/
def Obligations.LoneGrantOfACappedPairIsCutToTheCap : Prop :=
  ∀ (l : Latched) (round : Word) (g : Fin 12 → Nat) (p : Fin 6), l.legal →
    let fp := (l.pairs[p]).cap
    let a := g (lowerBay p)
    let b := g (higherBay p)
    (fp ≠ 0 → b = 0 → fp < a → l.pairGrants round g p = (fp, 0)) ∧
    (fp ≠ 0 → a = 0 → fp < b → l.pairGrants round g p = (0, fp)) ∧
    (a + b ≤ fp → l.pairGrants round g p = (a, b)) ∧ (fp = 0 → l.pairGrants round g p = (a, b)) ∧
    (fp ≠ 0 → 0 < a → 0 < b → fp < a + b →
      let pa := (l.bay (lowerBay p)).pmin
      let pb := (l.bay (higherBay p)).pmin
      let half := (fp - pa - pb) / 2 / 100 * 100
      let lowerTurn := if (l.pairs[p]).evenIsOdd then 1 else 0
      (pa + pb ≤ fp → l.pairGrants round g p = (pa + min (a - pa) half, pb + min (b - pb) half)) ∧
      (fp < pa + pb → round.toNat % 2 = lowerTurn → l.pairGrants round g p = (min a fp, 0)) ∧
      (fp < pa + pb → round.toNat % 2 ≠ lowerTurn → l.pairGrants round g p = (0, min b fp))) ∧
    (fp ≠ 0 → fp % 100 = 0 ∧ (l.bay (lowerBay p)).pmin ≤ fp ∧ (l.bay (higherBay p)).pmin ≤ fp)

/-! ## Site configuration and battery -/

/-- SET_SITE (R57), SET_SUPPLY_MAP (R70), SET_BATTERY (R93) and CAUSE_MAP (R165): refused outside their ranges, and otherwise
the values replaced in one event; nothing else but the battery's bounded count and setpoint. The site time (R183): it
advances at each second of the timebase (a tick taken late keeps the milliseconds past the second: the model's choice, log 38), and
SET_TIME sets it, restarts the count, clears the flag and returns the previous
time. -/
def Obligations.SiteSettingsAreReplaced : Prop :=
  ∀ (s : State) (a b c d : Word),
    (1000 ≤ s.clock.subMs → exec .siteTimeTick s
      = .next { s with clock := { s.clock with siteTime := s.clock.siteTime + 1, subMs := s.clock.subMs - 1000 } }) ∧
    s.answers (.setTime a) { s with clock := { s.clock with siteTime := a, subMs := 0, timeUnset := false } }
      (.done s.clock.siteTime 0) ∧
    (1000000 < a.toNat ∨ b = 0 ∨ 10 < b.toNat → s.refuses (.setSite a b) .badArgument) ∧
    (a.toNat ≤ 1000000 → b ≠ 0 → b.toNat ≤ 10 →
      s.answers (.setSite a b) { s with al := { s.al with limit := a.toNat, period := b.toNat } } (.done 0 0)) ∧
    (a = 0 ∨ 7 < a.toNat ∨ b = 0 ∨ 7 < b.toNat ∨ c = 0 ∨ 7 < c.toNat → s.refuses (.setSupplyMap a b c) .badArgument) ∧
    (a ≠ 0 → a.toNat ≤ 7 → b ≠ 0 → b.toNat ≤ 7 → c ≠ 0 → c.toNat ≤ 7 → s.answers (.setSupplyMap a b c)
      { s with al := { s.al with map := {
        priority := a.setWidth 3, standard := b.setWidth 3, economy := c.setWidth 3 } } } (.done 0 0)) ∧
    (a.toNat < 1000 ∨ 2000000 < a.toNat ∨ 250000 < c.toNat ∨ 250000 < d.toNat ∨ a.toNat < b.toNat →
      s.refuses (.setBattery a b c d) .badArgument) ∧
    (1000 ≤ a.toNat → a.toNat ≤ 2000000 → c.toNat ≤ 250000 → d.toNat ≤ 250000 → b.toNat ≤ a.toNat →
      ∃ t, s.answers (.setBattery a b c d) t (.done (field (min a.toNat s.ba.eb)) 0) ∧
        let driven := max (-(d.toNat : Int)) (min c.toNat s.ba.setpoint)
        t.ba.cap = a.toNat ∧ t.ba.reserve = b.toNat ∧ t.ba.cmax = c.toNat ∧ t.ba.dmax = d.toNat ∧
        t.ba.eb = min a.toNat s.ba.eb ∧ t.ba.calibrated = s.ba.calibrated ∧
        (t.ba.atReserve = true ↔ s.ba.calibrated = true ∧ min a.toNat s.ba.eb ≤ b.toNat) ∧
        (s.ba.state = .offline → t.ba.setpoint = s.ba.setpoint ∧ t.ba.state = .offline) ∧
        (s.ba.state ≠ .offline → t.ba.setpoint = driven ∧ t.ba.state =
          (if 0 < driven then .charging else if driven < 0 then .discharging else .idle)) ∧
        State.changesOnly [.ba, .nu, .pu] s t) ∧
    ((∃ k : Fin 8, 7 < a.toNat / 16 ^ k.val % 16) → s.refuses (.causeMap a) .badArgument) ∧
    ((∀ k : Fin 8, a.toNat / 16 ^ k.val % 16 ≤ 7) → ∃ m : Vector (Fin 8) 8,
      s.answers (.causeMap a) { s with nu := { s.nu with causeMap := m } } (.done 0 0) ∧
      ∀ k : Fin 8, (m[k]).val = a.toNat / 16 ^ k.val % 16)

/-- The battery lines after their filters (R87, R90, R96, R97, R98), the setpoint taken at a boundary (R95) and the one event of
the account (R91, R94, R100). -/
def Obligations.BatteryLinesAndEvents : Prop :=
  ∀ (s : State) (l : BattLine) (b : BatteryAccount) (w : Int),
    let x := s.ba.line l
    let t := s.setLine l { x with timer := none, taken := x.line }
    let a := t.ba
    let rest : BatteryAccount := { a with setpoint := 0, state := if a.state = .offline then .offline else .idle }
    (x.timer = some 0 → s.pu.link = .starting ∨ x.taken = x.line → exec (.battLineFilterExpiry l) s = .next t) ∧
    (x.timer = some 0 → s.pu.link ≠ .starting → x.taken = true → x.line = false →
      (l ≠ .ready → exec (.battLineFilterExpiry l) s = .next t) ∧
      (l = .ready → a.setpoint = 0 →
        exec (.battLineFilterExpiry l) s = .next (t.batteryEvent { a with setpoint := 0, state := .offline })) ∧
      (l = .ready → a.setpoint ≠ 0 →
        exec (.battLineFilterExpiry l) s = .next ((t.record { kind := .batteryLost, data := some (BitVec.ofInt 32 a.setpoint)
                                                              detail := if a.state = .charging then 1 else 2 }).batteryEvent
          { a with setpoint := 0, state := .offline }))) ∧
    (x.timer = some 0 → s.pu.link ≠ .starting → x.taken = false → x.line = true →
      (l = .ready → exec (.battLineFilterExpiry l) s = .next (t.batteryEvent { a with setpoint := 0, state := .idle })) ∧
      (l = .full → exec (.battLineFilterExpiry l) s
        = .next (t.batteryEvent { (if 0 < a.setpoint then rest else a) with eb := a.cap, calibrated := true })) ∧
      (l = .empty → exec (.battLineFilterExpiry l) s
        = .next (t.batteryEvent { (if a.setpoint < 0 then rest else a) with eb := 0, calibrated := true }))) ∧
    (let driven := max (-(s.ba.dmax : Int)) (min s.ba.cmax w)
     (s.ba.state = .offline → s.takeSetpoint w = s.batteryEvent s.ba) ∧
     (s.ba.state ≠ .offline → s.takeSetpoint w = s.batteryEvent { s.ba with setpoint := driven, state :=
       if 0 < driven then .charging else if driven < 0 then .discharging else .idle })) ∧
    (let low := b.calibrated && decide (b.eb ≤ b.reserve)
     let r : BatteryReasons := { state := b.state != s.ba.state, reserve := low != s.ba.atReserve
                                 calibrated := b.calibrated && !s.ba.calibrated }
     (r = { state := false, reserve := false, calibrated := false } →
       s.batteryEvent b = { s with ba := { b with atReserve := low } }) ∧
     (r ≠ { state := false, reserve := false, calibrated := false } →
       s.batteryEvent b = { s with ba := { b with atReserve := low, lastEvent := some {
         reasons := r, stateAfter := b.state, time := s.clock.siteTime, round := s.al.round } } }.fire .batteryEvent))
/-! ## Windows -/

/-- SET_SNAPSHOT_WINDOW (R110, R115, R116), a record handed over for its place base + index x stride (R110, R111, R114), the fields
of a bay record and the site record at their offsets (R112, R113, spec/11 11.5), and the trigger (R60, R111): at a boundary whose
round number D divides, with a window, each of the thirteen records waits in the queue for its place, and at any other
boundary none is queued. A window change that is executing and is taken between the parts of a boundary (R111; the operand and its
extent are the model's, log 25): no record of a part before it waits any longer, each record of a part after it waits for its place
in the new window, and none does with no base. The receipt window of N slots of 64 bytes and the snapshot window of thirteen strides
meet just when some address lies in both (R115, R118, R138). -/
def Obligations.SnapshotsGoToTheirWindow : Prop :=
  ∀ (s : State) (base stride decimation : Word) (index : Fin 13) (target : Nat) (bytes : List Byte) (b : Fin 12) (p : Plan)
    (order : List Nat) (k : Nat) (position : BitVec 4) (slot : List Word),
    let w : SnapshotWriter :=
      { base := if base = 0xFFFFFFFF then none else some base.toNat, stride := stride.toNat, decimation := decimation.toNat }
    let legal := 32 ≤ stride.toNat ∧ stride.toNat ≤ 256 ∧ stride.toNat % 32 = 0 ∧ 1 ≤ decimation.toNat ∧
      decimation.toNat ≤ 16 ∧ (base = 0xFFFFFFFF ∨ base.toNat % 32 = 0 ∧ base.toNat + 13 * stride.toNat ≤ 0x3FFF000) ∧
      windowsMeet s.rw.geometry w = false
    let record := s.bayRecord b
    let site := s.siteRecord p
    let x := s.bay b
    let waits := fun (e : Entry) (place : Nat) => (∃ i, e.kind = .snapshot i) ∧ e.begun = false ∧ e.addr = place
    let one : Bool → Nat := fun flag => if flag then 1 else 0
    let place : BoundaryPart → Option Nat := fun part => match part with
      | .bay b => some b.val | .trigger => some 12 | .setpoint => none
    let due := s.sw.base ≠ none ∧ (s.al.round + 1).toNat % s.sw.decimation = 0
    (¬ legal → s.refuses (.setSnapshotWindow base stride decimation) .badArgument) ∧
    (legal → s.answers (.setSnapshotWindow base stride decimation)
      { s.removeEntries EntryKind.isSnapshot with sw := w }.windowsChanged (.done 0 0)) ∧
    (∀ (g : ReceiptGeometry) (v : SnapshotWriter), 0 < v.stride → (windowsMeet g v = true ↔ ∃ a c m : Nat,
      g.base = some a ∧ v.base = some c ∧ a ≤ m ∧ m < a + 64 * g.slots ∧ c ≤ m ∧ m < c + 13 * v.stride)) ∧
    (∀ k : EntryKind, k.isSnapshot = true ↔ ∃ i, k = .snapshot i) ∧
    (s.sw.base = none → s.queueSnapshot index bytes = s) ∧
    (∀ a, s.sw.base = some a → s.queueSnapshot index bytes = s.queueRecord index (a + index.val * s.sw.stride) bytes) ∧
    ((∀ e ∈ s.pu.queue, ¬ waits e target) → s.queueRecord index target bytes = { s with pu := { s.pu with
      queue := s.pu.queue ++ [{ kind := .snapshot index, addr := target, bytes := bytes }] } }) ∧
    ((∃ e ∈ s.pu.queue, waits e target) → ∃ queue, s.queueRecord index target bytes = { s with pu := { s.pu with queue := queue } } ∧
      queue.length = s.pu.queue.length ∧ ∀ (k : Nat) (e : Entry), s.pu.queue[k]? = some e →
        (waits e target → queue[k]? = some { e with bytes := bytes }) ∧ (¬ waits e target → queue[k]? = some e)) ∧
    (s.al.boundaryTimer = some 0 → s.al.staged = some p → ∃ t, exec (.roundBoundary ⟨order, none⟩) s = .next t ∧
      (∀ a, s.sw.base = some a → 0 < s.sw.stride → (s.al.round + 1).toNat % s.sw.decimation = 0 →
        (∀ k : Fin 12, (∃ e ∈ t.pu.queue, waits e (a + k.val * s.sw.stride)) ∧
          ∀ e ∈ t.pu.queue, waits e (a + k.val * s.sw.stride) → e.bytes = t.bayRecord k) ∧
        (∃ e ∈ t.pu.queue, waits e (a + 12 * s.sw.stride)) ∧
          ∀ e ∈ t.pu.queue, waits e (a + 12 * s.sw.stride) → e.bytes = t.siteRecord p) ∧
      (s.sw.base = none ∨ (s.al.round + 1).toNat % s.sw.decimation ≠ 0 →
        (t.pu.queue.filter fun e => e.kind.isSnapshot) = s.pu.queue.filter fun e => e.kind.isSnapshot)) ∧
    ((∀ x y z i words, ¬ s.executes (.setSnapshotWindow x y z) i words) →
      exec (.roundBoundary ⟨order, some k⟩) s = exec (.roundBoundary ⟨order, none⟩) s) ∧
    (s.al.boundaryTimer = some 0 → s.al.staged = some p → s.executes (.setSnapshotWindow base stride decimation) position slot →
      legal → ∃ t : State, exec (.roundBoundary ⟨order, some k⟩) s = .next t ∧ t.sw = w ∧ t.cu = { s.cu with step := .replying position } ∧
        let parts := arrange 14 order boundaryParts
        (¬ due ∨ w.base = none → ∀ e ∈ t.pu.queue, e.kind.isSnapshot = true → e.begun = true) ∧
        (due → ∀ a, w.base = some a → ∀ part i, place part = some i →
          (part ∈ parts.take k → ∀ e ∈ t.pu.queue, ¬ waits e (a + i * w.stride)) ∧
          (part ∈ parts.drop k → (∃ e ∈ t.pu.queue, waits e (a + i * w.stride)) ∧
            ∀ e ∈ t.pu.queue, waits e (a + i * w.stride) →
              e.bytes = match part with | .bay b => t.bayRecord b | .trigger => t.siteRecord p | .setpoint => []))) ∧
    record.length = 32 ∧ leNat record 0 1 = b.val ∧ leNat record 1 1 = x.state.code ∧
    leNat record 2 1 = (if x.state.isOpen then classCode x.session.cls else 0) ∧
    leNat record 3 1 = one x.state.isOpen + 2 * one x.session.timeUnset + 4 * one x.session.fault +
      8 * one (decide (0 < x.session.tallies.overQuota)) + 16 * one x.maintenance.isSome ∧
    leNat record 4 4 = s.al.round.toNat ∧
    leNat record 8 4 = (if x.state.isOpen then x.session.number else x.lastSession.getD 0).toNat ∧
    leNat record 12 4 = min x.session.tallies.total wordMax ∧ leNat record 16 4 = min x.session.tallies.solar wordMax ∧
    leNat record 20 4 = min x.session.tallies.battery wordMax ∧ leNat record 24 4 = min x.session.tallies.grid wordMax ∧
    leNat record 28 2 = min x.session.tallies.overQuota 65535 ∧ leNat record 30 1 = min (x.allowance / 100) 255 ∧
    leNat record 31 1 = min (s.estimate (bayChannel b) / 100) 255 ∧
    site.length = 32 ∧ leNat site 0 4 = s.al.round.toNat ∧ leNat site 4 4 = min (s.estimate 12) wordMax ∧
    leNat site 8 4 = min (s.estimate 13) wordMax ∧ leNat site 12 4 = min (s.estimate 14) wordMax ∧
    leNat site 16 4 = min s.ba.eb wordMax ∧ leNat site 20 4 = (BitVec.ofInt 32 p.setpoint).toNat ∧
    leNat site 24 4 = min p.budget wordMax ∧ p.budget = sumBays p.bays PlanBay.grant ∧
    leNat site 28 1 = one p.flags.shopOver + 2 * one p.flags.held + 4 * one p.flags.detached + 8 * one p.flags.corrected ∧
    leNat site 29 1 = one s.el.hold ∧ leNat site 30 1 = (if s.pu.link = .attached then 1 else 0) ∧ leNat site 31 1 = 0

/-- COLLECT (R135, R137) and SET_RECEIPT_WINDOW (R118, R138, R139): their refusals in order and their effects. -/
def Obligations.CollectAndReceiptWindow : Prop :=
  ∀ (s : State) (q base slots lowWater : Word),
    let r := s.rw
    let c := Instr.setReceiptWindow base slots lowWater
    let g : ReceiptGeometry :=
      { base := if slots = 0 then none else some base.toNat, slots := slots.toNat, lowWater := lowWater.toNat }
    let legal := (slots = 0 ∧ lowWater = 0) ∨
      (16 ≤ slots.toNat ∧ slots.toNat ≤ 512 ∧ lowWater.toNat ≤ slots.toNat ∧ base.toNat % 64 = 0 ∧
        base.toNat + 64 * slots.toNat ≤ 0x3FFF000 ∧ windowsMeet g s.sw = false)
    let inUse := 0 < r.reserved ∨ 0 < r.uncollected ∨ 0 < r.issuing
    (q.toNat < r.lastCollected ∨ r.lastIssued < q.toNat → s.refuses (.collect q) .badArgument) ∧
    (q.toNat = r.lastCollected → r.lastCollected ≤ r.lastIssued →
      s.answers (.collect q) s (.done (field r.uncollected) (field (r.geometry.slots - r.reserved - r.uncollected)))) ∧
    (r.lastCollected < q.toNat → q.toNat ≤ r.lastIssued →
      let u := r.lastIssued - q.toNat
      let free := r.geometry.slots - r.reserved - u
      s.answers (.collect q) { s with rw := { r with
          lastCollected := q.toNat, uncollected := u, armed := r.armed || decide (r.geometry.lowWater < free) } }
        (.done (field u) (field free))) ∧
    (¬ legal → s.refuses c .badArgument) ∧ (legal → inUse → s.refuses c .ringInUse) ∧
    (legal → ¬ inUse →
      let first := if r.lastIssued = wordMax then 0 else r.lastIssued + 1
      s.answers c { s with rw := { r with
          geometry := g, nextSlot := 0, windowFirst := first, armed := decide (lowWater.toNat < slots.toNat) } }.windowsChanged
        (.done (field first) 0))

/-! ## The memory path -/

/-- Controller transactions (R143, R144, R145, R146, R148, R152): accepted when the C-port can take them (another shape, or a second
transaction, is log 16); an anchor access is held in STARTING and ATTACHING. An accepted write does what each word does by
its class as the part stood, in ascending address, a guard write recorded while ATTACHED and else counted, and goes on with
the lanes of OWNED and GUARDED words cleared (the order, and a word with no written lane as a guard write, are log 15); an
accepted read has the data of its OWNED words taken then, and a read of the event word clears it. Hit-promote: a transaction
that touches a queued entry is held until the last one it touches is gone, then judged afresh with the classes it has; one that
touches none is completed OK by the part when nothing of it is for memory, and else waits for the arbiter. (That an entry queued
while it waits does not hold it is the model's choice, log 41.) -/
def Obligations.ControllerAccessesAreAcceptedOrHeld : Prop :=
  ∀ (s : State) (addr : BitVec 26) (words : List WriteWord) (count a : Nat) (w : WriteWord) (x : Access) (drop : EntryKind → Bool),
    let first := addr.toNat
    let write := Request.write first words
    let read := Request.read first count
    let holds := s.pu.link = .starting ∨ s.pu.link = .attaching
    let attached := s.pu.link == .attached
    let cls := fun i : Nat => s.classOf (first + 4 * i)
    let records := fun (detail : Word) => s.record
      { kind := .guardWrite, addr := some (field a), data := some (writtenData w), detail := detail }
    let drops := { s with pu := { s.pu with quietDrops := min 65535 (s.pu.quietDrops + 1) } }
    let misses := fun (t : State) => ∀ e ∈ t.pu.queue, x.meets e = false
    let heldFor := fun (t : State) (n : Nat) => { t with pu := { t.pu with cport := .hitHeld x n } }
    -- acceptance
    (s.takes write → exec (.controllerWriteAccept addr words) s = .next (s.acceptWrite first words)) ∧
    (s.takes read → exec (.controllerReadAccept addr count) s = .next (s.acceptRead first count)) ∧
    (s.pu.cport = .empty → holds → inAnchor first = true → write.wellFormed = true →
      exec (.controllerWriteAccept addr words) s = .next { s with pu := { s.pu with cport := .anchorHeld write } }) ∧
    (s.pu.cport = .empty → holds → inAnchor first = true → read.wellFormed = true →
      exec (.controllerReadAccept addr count) s = .next { s with pu := { s.pu with cport := .anchorHeld read } }) ∧
    s.acceptWrite first words = (words.zipIdx.foldl (fun u k => u.writeWord attached (cls k.2) (first + 4 * k.2) k.1) s).judgeHit
      (.write first (words.zipIdx.map fun k =>
        if cls k.2 = .watched ∨ cls k.2 = .plain then k.1 else { k.1 with lanes := 0 }) attached) ∧
    (let access := Access.read first ((List.range count).map fun i =>
       if cls i = .owned then some (s.ownedWord (first + 4 * i - 0x3FFF000)) else none)
     let asks := s.pu.link ≠ .starting ∧ first ≤ 0x3FFF294 ∧ 0x3FFF294 < first + 4 * count
     (∀ b : Fin 12, asks → s.pu.selector = some ⟨b.val, by omega⟩ →
       s.acceptRead first count = (s.onBay b fun y => { y with events := 0 }).judgeHit access) ∧
     (¬ asks ∨ s.pu.selector = none ∨ (∃ k, s.pu.selector = some k ∧ 12 ≤ k.val) →
       s.acceptRead first count = s.judgeHit access)) ∧
    -- what a word does
    s.writeWord true .receiptWindow a w = records 2 ∧ s.writeWord true .snapshotWindow a w = records 3 ∧
    (w.lanes ≠ 0xF ∨ (a ≠ 0x3FFF008 ∧ a ≠ 0x3FFF040 ∧ a ≠ 0x3FFF048) ∨ (a = 0x3FFF008 ∧ w.data.getLsbD 8 = false) →
      s.writeWord true .owned a w = records 1) ∧
    (∀ k, k = .receiptWindow ∨ k = .snapshotWindow ∨
      (k = .owned ∧ (w.lanes ≠ 0xF ∨ a ≠ 0x3FFF008 ∨ w.data.getLsbD 8 = false)) → s.writeWord false k a w = drops) ∧
    (∀ k, k = .watched ∨ k = .plain → s.writeWord true k a w = s ∧ s.writeWord false k a w = s) ∧
    (w.lanes = 0xF → w.data.getLsbD 8 = true → s.writeWord true .owned 0x3FFF008 w = s ∧
      s.writeWord false .owned 0x3FFF008 w = { s with pu := { s.pu with
        link := .attaching, partRead := some { kind := .sweep 0, addr := 0x3FFF04C, count := 1 } } }) ∧
    (w.lanes = 0xF → s.writeWord true .owned 0x3FFF040 w = s.postRequest w.data ∧
      s.writeWord true .owned 0x3FFF048 w = { s with pu := { s.pu with
        selector := if h : w.data.toNat < 18 then some ⟨w.data.toNat, h⟩ else none } }) ∧
    -- the class of an address
    (s.pu.link = .starting → s.classOf a = .plain) ∧
    (s.pu.link ≠ .starting →
      (0x3FFF000 ≤ a → a < 0x3FFF04C → s.classOf a = .owned) ∧ (0x3FFF04C ≤ a → a < 0x3FFF050 → s.classOf a = .watched) ∧
      (0x3FFF050 ≤ a → a < 0x3FFF100 → s.classOf a = .plain) ∧ (0x3FFF100 ≤ a → a < 0x3FFF180 → s.classOf a = .watched) ∧
      (0x3FFF180 ≤ a → a < 0x3FFF184 → s.classOf a = .owned) ∧ (0x3FFF184 ≤ a → a < 0x3FFF200 → s.classOf a = .plain) ∧
      (0x3FFF200 ≤ a → a < 0x3FFF400 → s.classOf a = .owned) ∧ (0x3FFF400 ≤ a → a < 0x4000000 → s.classOf a = .plain) ∧
      (a < 0x3FFF000 →
        let inReceipts := ∃ b, s.rw.geometry.base = some b ∧ b ≤ a ∧ a < b + 64 * s.rw.geometry.slots
        let inSnapshots := ∃ b, s.sw.base = some b ∧ b ≤ a ∧ a < b + 13 * s.sw.stride
        (inReceipts → s.classOf a = .receiptWindow) ∧ (¬ inReceipts → inSnapshots → s.classOf a = .snapshotWindow) ∧
        (¬ inReceipts → ¬ inSnapshots → s.classOf a = .plain))) ∧
    -- hit-promote
    (∀ e : Entry, x.meets e = true ↔ x.addr < e.addr + e.bytes.length ∧ e.addr < x.addr + 4 * x.count) ∧
    (∀ ahead e behind, s.pu.queue = ahead ++ e :: behind → x.meets e = true → (∀ y ∈ behind, x.meets y = false) →
      s.judgeHit x = heldFor s (ahead.length + 1)) ∧
    (misses s → ∀ owned, x = .read a owned →
      ((∀ o ∈ owned, o ≠ none) → s.judgeHit x = s.completeC true (owned.map fun o => o.getD 0)) ∧
      (none ∈ owned → s.judgeHit x = { s with pu := { s.pu with cport := .waiting x } })) ∧
    (misses s → ∀ passed copied, x = .write a passed copied →
      ((∀ k ∈ passed, k.lanes = 0) → s.judgeHit x = s.completeC true []) ∧
      ((∃ k ∈ passed, k.lanes ≠ 0) → s.judgeHit x = { s with pu := { s.pu with cport := .waiting x } })) ∧
    (∀ e : Entry, (s.enqueue e).pu.cport = s.pu.cport) ∧
    (let popped := { s with pu := { s.pu with queue := s.pu.queue.tail } }
     (∀ n, s.pu.cport = .hitHeld x n →
       (n ≤ 1 → s.popHead = popped.judgeHit x) ∧ (1 < n → s.popHead = heldFor popped (n - 1))) ∧
     ((∀ y n, s.pu.cport ≠ .hitHeld y n) → s.popHead = popped)) ∧
    (let keep := fun e : Entry => e.begun || !drop e.kind
     let left := { s with pu := { s.pu with queue := s.pu.queue.filter keep } }
     (∀ n, s.pu.cport = .hitHeld x n →
       let awaited := (s.pu.queue.take n).filter keep
       ((∀ e ∈ awaited, x.meets e = false) → s.removeEntries drop = left.judgeHit x) ∧
       (∀ ahead e behind, awaited = ahead ++ e :: behind → x.meets e = true → (∀ y ∈ behind, x.meets y = false) →
         s.removeEntries drop = heldFor left (ahead.length + 1))) ∧
     ((∀ y n, s.pu.cport ≠ .hitHeld y n) → s.removeEntries drop = left))

/-- The request words (R148, R154, R155, R158), no queued entry touching them: a release write, a post request, a view
selection and a read of the event word, each completed OK by the part itself. -/
def Obligations.RequestWordsAct : Prop :=
  ∀ (s : State) (v : Word) (k : Fin 18) (b : Fin 12),
    let attached := s.pu.link = .attached
    let clear := fun (t : State) (a : Nat) => ∀ e ∈ t.pu.queue, rangesMeet a 4 e.addr e.bytes.length = false
    let pending := (s.cu.post - s.cu.taken).toNat
    let ahead := (v.toNat + 16 - s.cu.taken.toNat) % 16
    s.pu.cport = .empty →
    (s.pu.link = .detached → v.getLsbD 8 = true → clear s 0x3FFF008 → exec (.releaseWrite v) s = .next { s with pu := { s.pu with
      link := .attaching, partRead := some { kind := .sweep 0, addr := 0x3FFF04C, count := 1 }
      completion := some { ok := true, data := [] } } }) ∧
    (attached → v.getLsbD 8 = true → clear s 0x3FFF008 → exec (.releaseWrite v) s = .next (s.completeC true [])) ∧
    (attached → clear (s.postRequest v) 0x3FFF040 → exec (.postIndexWrite v) s = .next ((s.postRequest v).completeC true [])) ∧
    (s.pu.link = .detached → clear s 0x3FFF040 → exec (.postIndexWrite v) s = .next
      ({ s with pu := { s.pu with quietDrops := min 65535 (s.pu.quietDrops + 1) } }.completeC true [])) ∧
    (v.toNat ≤ 15 → pending ≤ ahead → ahead ≤ 8 →
      s.postRequest v = { s with cu := { s.cu with post := v.setWidth 4 } }.tryFetch) ∧
    (15 < v.toNat ∨ ahead < pending ∨ 8 < ahead → s.postRequest v = s.record
      { kind := .commandOverrun, addr := some 0x3FFF040, data := some v, detail := s.cu.taken.setWidth 32 }) ∧
    (attached → clear s 0x3FFF048 → v.toNat = k.val → exec (.viewSelectorWrite v) s
      = .next ({ s with pu := { s.pu with selector := some k } }.completeC true [])) ∧
    (attached → clear s 0x3FFF048 → 17 < v.toNat → exec (.viewSelectorWrite v) s
      = .next ({ s with pu := { s.pu with selector := none } }.completeC true [])) ∧
    (attached ∨ s.pu.link = .detached → clear s 0x3FFF294 → s.pu.selector = some ⟨b.val, by omega⟩ → exec .eventWordRead s
      = .next ((s.onBay b fun x => { x with events := 0 }).completeC true [(s.bay b).events.setWidth 32])) ∧
    (attached ∨ s.pu.link = .detached → clear s 0x3FFF294 → s.pu.selector = none →
      exec .eventWordRead s = .next (s.completeC true [0]))

/-- What the OWNED words read (R18, R85, R102, R109, R141, R145, R154, R155, R169, R178, spec/11 11.2 and 11.6): the identity block,
the indices, the selector, the pending word, and every word of the view that the selector chooses, in bytes and half-words from
the lowest up; a word of the window past a view's layout, and every one under NONE, reads 0. What is absent reads 0 or 255 as R184
codes it, or, where no rule codes it, as the model chooses or reads it: the maintenance pattern while maintenance is off (log 19),
the latched inputs and the applied plan before the first latch and boundary (log 26), the absent bay, address and data word of an
error record, an absent last battery event and the check of an absent abandoned receipt (log 33). A vector's shadow address is shown as it was written (log 20). The lock and the light that a bay view shows are those of
R27, and the codes those of spec/11 11.1. -/
def Obligations.OwnedWordsReadTheState : Prop :=
  ∀ (s : State) (b : Fin 12) (ch : Fin 17) (v : Fin 8),
    let read := s.ownedWord
    let view := fun (k : Fin 18) (offset : Nat) => { s with pu := { s.pu with selector := some k } }.ownedWord (0x200 + offset)
    let shows := fun (k : Fin 18) (offset : Nat) (words : List Word) =>
      ∀ i w, words[i]? = some w → view k (offset + 4 * i) = w
    let blank := fun (k : Fin 18) (first last : Nat) => ∀ i, first ≤ 4 * i → 4 * i < last → view k (4 * i) = 0
    let one : Bool → Nat := fun flag => if flag then 1 else 0
    let flags : List Bool → Nat := fun fs => fs.foldr (fun f n => one f + 2 * n) 0
    let bytes := fun (w x y z : Nat) =>
      BitVec.ofNat 32 (min w 255 + 256 * min x 255 + 65536 * min y 255 + 16777216 * min z 255)
    let halves := fun (w x : Nat) => BitVec.ofNat 32 (min w 65535 + 65536 * min x 65535)
    let signed := fun (n : Int) => BitVec.ofInt 32 n
    let baseWord : Option Nat → Word := fun base => match base with | none => 0xFFFFFFFF | some n => field n
    let sets := fun (m : SupplyMap) => bytes m.priority.toNat m.standard.toNat m.economy.toNat 0
    -- the anchor page outside the window
    read 0x000 = 0x2412 ∧ read 0x004 = 1 ∧ read 0x008 = BitVec.ofNat 32 s.pu.link.code ∧ read 0x00C = field s.pu.quietDrops ∧
    read 0x010 = s.rw.epoch ∧
    read 0x014 = s.clock.siteTime ∧ read 0x018 = (if s.clock.timeUnset then 1 else 0) ∧ read 0x01C = s.al.round ∧
    read 0x020 = (if s.el.hold then 1 else 0) ∧
    (s.el.records.length ≤ 4 →
      (read 0x024).toNat = s.el.status.toNat + 65536 * s.el.records.length + 16777216 * one s.el.overflow) ∧
    read 0x028 = field s.rw.geometry.slots ∧
    read 0x02C = field (s.rw.geometry.slots - s.rw.reserved - s.rw.uncollected) ∧ read 0x030 = field s.rw.lastIssued ∧
    (∀ o, 0x034 ≤ o → o < 0x040 → read o = 0) ∧
    read 0x040 = s.cu.post.setWidth 32 ∧ read 0x044 = s.cu.taken.setWidth 32 ∧
    (s.pu.selector = none → read 0x048 = 255 ∧ ∀ o, 0x200 ≤ o → o < 0x400 → read o = 0) ∧
    (∀ k, s.pu.selector = some k → read 0x048 = BitVec.ofNat 32 k.val) ∧
    (read 0x180).getLsbD v.val = (s.vector v).pending ∧ (read 0x180).getLsbD 8 = s.nu.enable ∧
    (read 0x180).getLsbD 9 = s.nu.allMask ∧ (read 0x180).toNat < 1024 ∧
    -- the view of bay b
    (let x := s.bay b
     let n := x.session
     let bay : Fin 18 := ⟨b.val, by omega⟩
     let pair : Fin 6 := ⟨b.val / 2, by omega⟩
     let plugCode := match x.plug with | none => 2 | some taken => one taken
     let patternCode := match x.maintenance with | none => 0 | some pattern => pattern.code
     shows bay 0x00
       [bytes x.state.code (classCode n.cls) (stopCode n.stopCause) (flags [n.timeUnset, n.fault]), n.number, field n.quota,
        field n.remaining, n.reference.extractLsb' 0 32, n.reference.extractLsb' 32 32, n.reference.extractLsb' 64 32,
        n.reference.extractLsb' 96 32, n.startTime, n.stopTime.getD 0, field n.tallies.total, field n.tallies.solar,
        field n.tallies.battery, field n.tallies.grid, field n.tallies.overQuota, field x.roundOverQuota] ∧
     shows bay 0x40
       [x.lastSession.getD 0, bytes (one n.chargedMark) (one x.maintenance.isSome) patternCode (one x.deferredRelease),
        bytes plugCode (one x.ready) (one x.release) (one x.feedback), bytes (one x.drive) (one x.lock) x.light.code 0,
        field x.allowance, field x.waitCount, field x.keptPortions.solar, field x.keptPortions.battery,
        field x.keptPortions.grid, x.keptSession.getD 0, field x.sessionPulses, field x.unownedPulses] ∧
     shows bay 0x70
       [field (s.estimate (bayChannel b)), field x.config.pmin, field x.config.pmax, field x.config.stopDelay,
        field x.config.releaseWindow, field x.config.idleTimeout, field (s.pair pair).cap,
        field (2 * pair.val + one (s.pair pair).evenIsOdd),
        field (flags [x.idleTimer.isSome, x.releaseTimer.isSome, x.stopDelayTimer.isSome, x.feedbackTimer.isSome]),
        x.events.setWidth 32] ∧
     blank bay 0x98 0x200 ∧
     (x.lock = true ↔ x.state = .authorised ∨ x.state = .paused ∨ x.state = .charging ∨ x.state = .releasePending ∨
       x.state = .stopping ∨ (x.state = .faulted ∧ x.plug = some true)) ∧
     (∀ l, x.maintenance = some l → x.light = l) ∧
     (x.maintenance = none → x.light = match x.state with
       | .vacant => .off | .plugged => .greenBlink | .authorised => .green | .paused => .greenBlink | .charging => .green
       | .releasePending => .amberBlink | .stopping => .amberBlink | .issuing => .amber | .ended => .amber
       | .faulted => .red)) ∧
    -- the site view, with the latched inputs and the two plan records
    (let al := s.al
     let record := fun (at' : Nat) (p : Plan) =>
       shows 12 at' [p.round, bytes p.roundLength
         (flags [p.flags.shopOver, p.flags.held, p.flags.detached, p.flags.corrected]) 1 0, field p.coverSolar,
         field p.coverBattery, field p.potSolar, field p.potBattery, field p.potGrid, signed p.setpoint] ∧
       let x := p.bays[b]
       shows 12 (at' + 0x20 + 12 * b.val) [halves x.grant x.portions.solar, halves x.portions.battery x.portions.grid,
         x.session.getD 0]
     shows 12 0x00 [al.round, field (al.roundLength.getD 0), field al.limit, field al.period, sets al.map] ∧
     (al.latched = none → blank 12 0x14 0x74) ∧
     (∀ l, al.latched = some l →
       shows 12 0x14 [field l.solar, field l.shop, field l.grid, field l.limit, field l.period, sets l.map, field l.eb,
         field l.cap, field l.reserve, field l.cmax, field l.dmax, field (flags [l.calibrated, l.offline, l.hold, l.attached])] ∧
       shows 12 (0x44 + 4 * b.val) [halves (one (l.bay b).eligible + 256 * classCode (l.bay b).cls) (l.bay b).wait]) ∧
     shows 12 0x74 [field al.correction, halves al.episodes (one al.episodeReported), 0] ∧
     (al.applied = none → blank 12 0x80 0x130) ∧ (∀ p, al.applied = some p → record 0x80 p) ∧
     (al.staged = none → view 12 0x130 = al.round + 1 ∧ blank 12 0x134 0x1E0) ∧ (∀ p, al.staged = some p → record 0x130 p) ∧
     blank 12 0x1E0 0x200) ∧
    -- the battery view
    (let a := s.ba
     shows 13 0x00
       [field a.eb, field a.cap, field a.reserve, field a.cmax, field a.dmax,
        bytes a.state.code (flags [a.calibrated, a.atReserve])
          (flags [a.readyLine.taken, a.fullLine.taken, a.emptyLine.taken]) 0, signed a.setpoint] ∧
     (s.al.applied = none → view 13 0x1C = 0) ∧ (∀ p, s.al.applied = some p → view 13 0x1C = signed p.setpoint) ∧
     (a.lastEvent = none → blank 13 0x20 0x2C) ∧
     (∀ e, a.lastEvent = some e → shows 13 0x20
       [bytes (flags [e.reasons.state, e.reasons.reserve, e.reasons.calibrated]) e.stateAfter.code 0 0, e.time, e.round]) ∧
     blank 13 0x2C 0x200) ∧
    -- the error view
    (let el := s.el
     let first := match el.first with | none => 255 | some k => k.number
     shows 14 0x00 [el.status.setWidth 32, el.masked.setWidth 32, el.holds.setWidth 32,
       bytes first el.records.length (one el.overflow) (one el.hold)] ∧
     (∀ (i : Nat) (e : ErrorRecord), el.records[i]? = some e →
       let k := e.recording
       let bay := match k.bay with | none => 255 | some c => c.val
       shows 14 (0x10 + 24 * i) [bytes k.kind.number (flags [k.bay.isSome, k.addr.isSome, k.data.isSome]) bay 0, e.time, e.round,
         k.addr.getD 0, k.data.getD 0, k.detail]) ∧
     blank 14 (0x10 + 24 * el.records.length) 0x200) ∧
    -- the notice view
    (let n := s.nu
     let x := s.vector v
     shows 15 0x00 [bytes (one n.enable) (one n.allMask) 0 0] ∧ (view 15 0x04).toNat / 16 ^ v.val % 16 = (n.causeMap[v]).val ∧
     (view 15 0x08).getLsbD v.val = x.pending ∧ (view 15 0x08).getLsbD (8 + v.val) = x.queued ∧ (view 15 0x08).toNat < 65536 ∧
     view 15 0x0C = 0 ∧
     shows 15 (0x10 + 16 * v.val) [x.addr, x.data, field (flags [x.masked, x.usable, x.pending, x.queued]), 0] ∧
     blank 15 0x90 0x200) ∧
    -- the meter view
    (let c := s.channel ch
     shows 16 (24 * ch.val) [c.total, field c.round, field c.lastRound, c.lastPeriod.getD 0,
       halves c.noise (flags [c.silent, c.runaway, c.noiseReported]), field (s.estimate ch)] ∧
     blank 16 0x198 0x200) ∧
    -- the receipt ring view
    (let r := s.rw
     shows 17 0x00
       [baseWord r.geometry.base, field r.geometry.slots, field r.geometry.lowWater, field r.nextSlot, field r.windowFirst,
        field r.reserved, field r.uncollected, field r.issuing, field (r.geometry.slots - r.reserved - r.uncollected),
        field r.lastIssued, field r.lastCollected, r.chain, r.epoch, halves (one r.armed) r.abandoned] ∧
     (r.lastAbandoned = none → blank 17 0x38 0x40) ∧
     (∀ q k, r.lastAbandoned = some (q, k) → shows 17 0x38 [field q, k]) ∧
     shows 17 0x40 [baseWord s.sw.base, field s.sw.stride, field s.sw.decimation] ∧ blank 17 0x4C 0x200) ∧
    -- the codes
    [BayState.vacant, .plugged, .authorised, .paused, .charging, .releasePending, .stopping, .issuing, .ended, .faulted].map
      BayState.code = List.range 10 ∧
    [none, some SessionClass.priority, some .standard, some .economy].map classCode = List.range 4 ∧
    [none, some StopCause.command, some .quota, some .release, some .plugLost, some .idle, some .meterFault,
      some .contactorFault].map stopCode = List.range 8 ∧
    [Light.off, .green, .greenBlink, .amber, .amberBlink, .red].map Light.code = List.range 6 ∧
    [BatteryState.offline, .idle, .charging, .discharging].map BatteryState.code = List.range 4 ∧
    [LinkState.starting, .detached, .attaching, .attached].map LinkState.code = List.range 4 ∧
    [ErrorKind.guardWrite, .commandOverrun, .meterSilent, .meterRunaway, .meterNoise, .contactorFault, .gridOverlimit,
      .batteryLost, .memoryFault, .settingsBad, .epochUnsaved, .vectorFault].map ErrorKind.number = List.range 12

/-- The arbiter (R151), the completion of a forwarded transaction (R143, R147) and of an own-write attempt (R150, R153). The model's
readings and choices in it: a controller transaction is granted past a wait count of 4 when no part-side requester waits (log 13);
the head entry is removed, and what was held for it judged again, before its completion is reported (log 14); MEMORY_FAULT is
recorded before that report (log 31). An attempt has two bursts for a receipt and one for another entry, and its completion carries
their outcomes (log 30). A completed receipt is reported to its bay and the Receipt Writer (R131, R132), and a read's completion has
the words taken at acceptance and memory's others (R145); one that a completion does not carry is 0 (the model's choice, log 42). -/
def Obligations.MPortIsGrantedAndFreed : Prop :=
  ∀ (s : State) (ok : Bool) (data : List Word) (bursts : List Bool) (e : Entry) (rest : List Entry),
    let freed := { s with pu := { s.pu with mport := .free } }
    let quiet := s.pu.queue = [] ∧ s.pu.partRead = none
    (∀ a, s.pu.mport = .free → s.pu.cport = .waiting a → s.pu.waitCount < 4 ∨ quiet → exec .mPortGrant s
      = .next { s with pu := { s.pu with mport := .controller, cport := .granted a
                                         waitCount := if quiet then s.pu.waitCount else s.pu.waitCount + 1 } }) ∧
    (s.pu.mport = .free → s.pu.queue = e :: rest → (∀ a, s.pu.cport ≠ .waiting a) ∨ 4 ≤ s.pu.waitCount →
      ∃ t, exec .mPortGrant s = .next t ∧ State.changesOnly [.nu, .pu] s t ∧
        t.pu = { s.pu with mport := .entry, waitCount := 0, queue := { e with begun := true } :: rest } ∧
        (∀ v, e.kind = .notice v → e.begun = false → t.vector v = { s.vector v with queued := false }) ∧
        (∀ v, e.kind ≠ .notice v ∨ e.begun = true → t.vector v = s.vector v)) ∧
    (∀ r, s.pu.mport = .free → s.pu.queue = [] → s.pu.partRead = some r →
      (∀ a, s.pu.cport ≠ .waiting a) ∨ 4 ≤ s.pu.waitCount → exec .mPortGrant s
      = .next { s with pu := { s.pu with mport := .read r false, partRead := none, waitCount := 0 } }) ∧
    (∀ addr owned, s.pu.mport = .controller → s.pu.cport = .granted (.read addr owned) →
      exec (.forwardedTransactionComplete ok data) s = .next (freed.completeC ok (readData owned data))) ∧
    (∀ addr words copied, s.pu.mport = .controller → s.pu.cport = .granted (.write addr words copied) →
      (ok = true → copied = true → inAnchor addr = true → exec (.forwardedTransactionComplete ok data) s
        = .next ((freed.completeC true []).takeWatched addr words)) ∧
      (ok = false ∨ copied = false ∨ inAnchor addr = false →
        exec (.forwardedTransactionComplete ok data) s = .next (freed.completeC ok []))) ∧
    (s.pu.mport = .entry → s.pu.queue = e :: rest →
      let popped := freed.popHead
      bursts.length = (match e.kind with | .receipt .. => 2 | .snapshot _ => 1 | .reply _ => 1 | .notice _ => 1) →
      ((∀ x ∈ bursts, x = true) → exec (.ownWriteAttemptComplete bursts) s = .next (popped.reportEntry e.kind false)) ∧
      (false ∈ bursts → e.attempts < 2 → exec (.ownWriteAttemptComplete bursts) s = .next { s with pu := { s.pu with
        mport := .free, queue := { e with attempts := e.attempts + 1 } :: rest } }) ∧
      (false ∈ bursts → 2 ≤ e.attempts → exec (.ownWriteAttemptComplete bursts) s = .next ((popped.record
        { kind := .memoryFault, addr := some (field e.addr)
          detail := match e.kind with | .receipt .. => 1 | .snapshot _ => 2 | .reply _ => 3 | .notice _ => 4 }).reportEntry
        e.kind true))) ∧
    (∀ b q k, s.reportEntry (.receipt b q k) ok = s.receiptComplete b q k ok) ∧
    (∀ i, s.reportEntry (.snapshot i) ok = s) ∧ (∀ v, s.reportEntry (.notice v) ok = s) ∧
    (∀ owned : List (Option Word), (readData owned data).length = owned.length ∧ ∀ i : Nat,
      (∀ v, owned[i]? = some (some v) → (readData owned data)[i]? = some v) ∧
      (owned[i]? = some none → (readData owned data)[i]? = some (data.getD i 0)))

/-- Part-side reads and replies (R148, R149, R153, R159, R161, R162): the attach sweep's five reads, the two reads of a fetch,
their retries and the fault at the third failure, a completed reply, and a code that names no command (R160). (A word that a read's
completion does not carry is 0: the model's choice, log 42.) -/
def Obligations.SweepFetchAndReply : Prop :=
  ∀ (s : State) (data : List Word) (ok : Bool) (k a n m : Nat) (position : BitVec 4) (words : List Word) (code : Byte),
    let freed := { s with pu := { s.pu with mport := .free } }
    let slot := 0x3FFF400 + 64 * (position.toNat % 8)
    let first := fun j => data.getD j 0
    let slot8 : PartRead := { kind := .fetch 0, addr := 0x3FFF400 + 64 * (s.cu.taken.toNat % 8), count := 8 }
    (s.tryFetch = if s.pu.link = .attached ∧ s.cu.step = .idle ∧ s.cu.post ≠ s.cu.taken then
        { s with cu := { s.cu with step := .fetching s.cu.taken [] }, pu := { s.pu with partRead := some slot8 } }
      else s) ∧
    (s.pu.mport = .read { kind := .sweep k, addr := a, count := n, attempts := m } true →
      exec (.sweepReadComplete ok data) s = .next freed) ∧
    (s.pu.mport = .read { kind := .sweep k, addr := a, count := n, attempts := m } false →
      exec (.sweepReadComplete true data) s
        = .next ((freed.takeWatched a ((List.range n).map fun j => { lanes := 0xF, data := first j })).nextSweep k) ∧
      (m < 2 → exec (.sweepReadComplete false data) s = .next { s with pu := { s.pu with
        mport := .free, partRead := some { kind := .sweep k, addr := a, count := n, attempts := m + 1 } } }) ∧
      (2 ≤ m → exec (.sweepReadComplete false data) s
        = .next ((freed.record { kind := .memoryFault, addr := some (field a), detail := 6 }).nextSweep k))) ∧
    (k < 4 → s.nextSweep k = { s with pu := { s.pu with
      partRead := some { kind := .sweep (k + 1), addr := 0x3FFF100 + 32 * k, count := 8 } } }) ∧
    (4 ≤ k → s.nextSweep k = { s with pu := { s.pu with link := .attached } }.tryFetch.acceptHeld) ∧
    (∀ r, s.pu.cport = .anchorHeld r → s.acceptHeld = { s with pu := { s.pu with cport := .empty } }.accept r) ∧
    ((∀ r, s.pu.cport ≠ .anchorHeld r) → s.acceptHeld = s) ∧
    (s.pu.mport = .read { kind := .fetch k, addr := a, count := n, attempts := m } true →
      exec (.fetchReadComplete ok data) s = .next freed) ∧
    (s.pu.mport = .read { kind := .fetch k, addr := a, count := n, attempts := m } false →
      s.cu.step = .fetching position words →
      (k = 0 → exec (.fetchReadComplete true data) s = .next { s with
        cu := { s.cu with step := .fetching position ((List.range 8).map first) }
        pu := { s.pu with mport := .free, partRead := some { kind := .fetch 1, addr := slot + 32, count := 4 } } }) ∧
      (0 < k → exec (.fetchReadComplete true data) s = .next { freed with
        cu := { s.cu with step := .executing position (words ++ (List.range 4).map first) false } }) ∧
      (m < 2 → exec (.fetchReadComplete false data) s = .next { s with pu := { s.pu with
        mport := .free, partRead := some { kind := .fetch k, addr := a, count := n, attempts := m + 1 } } }) ∧
      (2 ≤ m → exec (.fetchReadComplete false data) s
        = .next ((freed.record { kind := .memoryFault, addr := some (field a), detail := 5 }).queueReply position 0 .fetchFault))) ∧
    (∀ (tag : BitVec 16) (r : Reply), ∃ body : List Byte,
      s.queueReply position tag r = { s with
        cu := { s.cu with step := .replying position }
        pu := { s.pu with queue := s.pu.queue ++ [{ kind := .reply false, addr := slot + 48, bytes := body }] } } ∧
      body.length = 16 ∧ leNat body 2 2 = tag.toNat ∧ leNat body 12 4 = 0 ∧
      (∀ x y, r = .done x y → leNat body 0 1 = 1 ∧ leNat body 1 1 = 0 ∧ leNat body 4 4 = x.toNat ∧ leNat body 8 4 = y.toNat) ∧
      (∀ why x, r = .refused why x →
        leNat body 0 1 = 2 ∧ leNat body 1 1 = why.code ∧ leNat body 4 4 = x.toNat ∧ leNat body 8 4 = 0) ∧
      (r = .fetchFault → leNat body 0 1 = 3 ∧ leNat body 1 1 = 0 ∧ leNat body 4 4 = 0 ∧ leNat body 8 4 = 0)) ∧
    [Reason.unknownCommand, .badArgument, .wrongState, .notPlugged, .held, .noSlot, .tooLate, .staleSession, .ringInUse,
      .isProtected, .settingsFault].map Reason.code = [1, 2, 3, 4, 5, 6, 7, 8, 9, 10, 11] ∧
    (let t := { s with cu := { s.cu with taken := s.cu.taken + 1 } }.fire .replyReady
     s.reportEntry (.reply false) true = { t with cu := { t.cu with step := .idle } }.tryFetch ∧
     s.reportEntry (.reply false) false = { t with cu := { t.cu with step := .idle } }.tryFetch ∧
     s.reportEntry (.reply true) ok = s) ∧
    s.refuses (.unknownCommand code) .unknownCommand

/-! ## Notices and errors -/

/-- A cause is taken on the vector its map gives it while notices are enabled, and dropped until the link is ATTACHED (R164, R167,
R169); a recording by the Error Log (R170, R171, R172, R173). The shadows (R166): what some WATCHED words change, lane by lane,
every address taken judged, and VECTOR_FAULT recorded for the unusable ones; what a window change makes unusable; and the release
of pending vectors (R168). (The order of several VECTOR_FAULT records of one event, and their place before its releases, are the
model's choice, log 28; the address they carry is reduced and rounded, log 20.) -/
def Obligations.CausesAndRecordingsAreTaken : Prop :=
  ∀ (s : State) (c : Cause) (r : Recording),
    let v := s.nu.causeMap[c.number]
    let x := s.vector v
    let heard := s.nu.enable = true ∧ s.pu.link = .attached
    let deliverable := s.nu.allMask = false ∧ x.masked = false ∧ x.usable = true
    let masked := inKindSet s.el.masked r.kind = true
    let el := (s.record r).el
    let entry : ErrorRecord := { recording := r, time := s.clock.siteTime, round := s.al.round }
    (¬ heard → s.fire c = s) ∧
    (heard → deliverable → x.queued = true → s.fire c = s) ∧
    (heard → deliverable → x.queued = false → s.fire c = { s with
      nu := { s.nu with vectors := s.nu.vectors.set v { x with queued := true } }
      pu := { s.pu with queue := s.pu.queue ++ [{
        kind := .notice v, addr := x.addr.toNat % 0x4000000 / 4 * 4, bytes := leBytes 4 x.data.toNat }] } }) ∧
    (heard → ¬ deliverable →
      s.fire c = { s with nu := { s.nu with vectors := s.nu.vectors.set v { x with pending := true } } }) ∧
    el.status = s.el.status ||| r.kind.bit ∧ el.masked = s.el.masked ∧ el.holds = s.el.holds ∧
    (masked → s.record r = { s with el := { s.el with status := s.el.status ||| r.kind.bit } }) ∧
    (¬ masked →
      (s.el.records.length < 4 → el.records = s.el.records ++ [entry] ∧ el.overflow = s.el.overflow) ∧
      (4 ≤ s.el.records.length → el.records = s.el.records ∧ el.overflow = true) ∧
      el.first = (match s.el.first with | some k => some k | none => some r.kind) ∧
      el.hold = (s.el.hold || inKindSet s.el.holds r.kind) ∧
      let t := { s with el := el }.fire .errorRecorded
      (s.el.hold = false → inKindSet s.el.holds r.kind = true → s.record r = t.fire .holdChanged) ∧
      (s.el.hold = true ∨ inKindSet s.el.holds r.kind = false → s.record r = t)) ∧
    -- the shadows
    (let faulty := fun (from' : State) (t : State) (vs : List (Fin 8)) => vs.foldl (fun u v => u.record
       { kind := .vectorFault, addr := some (BitVec.ofNat 32 ((from'.vector v).addr.toNat % 0x4000000 / 4 * 4))
         detail := BitVec.ofNat 32 v.val }) t
     (∀ a : Word,
       let m := a.toNat % 0x4000000 / 4 * 4
       s.addrUsable a = true ↔ m < 0x3FFF000 ∧
         (∀ b, s.rw.geometry.base = some b → m < b ∨ b + 64 * s.rw.geometry.slots ≤ m) ∧
         (∀ b, s.sw.base = some b → m < b ∨ b + 13 * s.sw.stride ≤ m)) ∧
     (∀ (old : Word) (w : WriteWord) (k : Nat), k < 32 →
       (mergeLanes old w).getLsbD k = if w.lanes.getLsbD (k / 8) then w.data.getLsbD k else old.getLsbD k) ∧
     (∀ (addr : Nat) (words : List WriteWord), addr % 4 = 0 →
       let word := wordFor addr words
       let place := fun v : Fin 8 => 0x3FFF100 + 16 * v.val
       let t := s.takeWords addr words
       let taken := fun v : Fin 8 => match word (place v) with | some w => w.lanes != 0 | none => false
       let merged := fun (old : Word) (w : Option WriteWord) => match w with | some w => mergeLanes old w | none => old
       let lowBit := fun (k : Nat) (old : Bool) (w : Option WriteWord) => match w with
         | some w => if w.lanes.getLsbD 0 then w.data.getLsbD k else old
         | none => old
       let u := faulty t t ((List.finRange 8).filter fun v => taken v && !(t.vector v).usable)
       State.changesOnly [.nu] s t ∧ t.nu.causeMap = s.nu.causeMap ∧
       t.nu.enable = lowBit 0 s.nu.enable (word 0x3FFF04C) ∧ t.nu.allMask = lowBit 1 s.nu.allMask (word 0x3FFF04C) ∧
       (∀ v, t.vector v = { s.vector v with
         addr := merged (s.vector v).addr (word (place v)), data := merged (s.vector v).data (word (place v + 4))
         masked := lowBit 0 (s.vector v).masked (word (place v + 8))
         usable := if taken v then s.addrUsable (merged (s.vector v).addr (word (place v))) else (s.vector v).usable }) ∧
       (u.nu.enable = true → s.takeWatched addr words = u.releaseVectors) ∧
       (u.nu.enable = false → s.takeWatched addr words = State.releaseVectors { u with nu := { u.nu with
         vectors := u.nu.vectors.map fun x => { x with pending := false } } })) ∧
     (let t := { s with nu := { s.nu with vectors := s.nu.vectors.map fun x => { x with usable := s.addrUsable x.addr } } }
      s.windowsChanged =
        (faulty t t ((List.finRange 8).filter fun v => (s.vector v).usable && !(t.vector v).usable)).releaseVectors) ∧
     s.releaseVectors = (List.finRange 8).foldl State.releaseVector s ∧
     (∀ v : Fin 8,
       let x := s.vector v
       let due := x.pending = true ∧ s.nu.enable = true ∧ s.nu.allMask = false ∧ x.masked = false ∧ x.usable = true
       (¬ due → s.releaseVector v = s) ∧
       (due → x.queued = true → s.releaseVector v
         = { s with nu := { s.nu with vectors := s.nu.vectors.set v { x with pending := false } } }) ∧
       (due → x.queued = false → s.releaseVector v = { s with
         nu := { s.nu with vectors := s.nu.vectors.set v { x with pending := false, queued := true } }
         pu := { s.pu with queue := s.pu.queue ++ [{
           kind := .notice v, addr := x.addr.toNat % 0x4000000 / 4 * 4, bytes := leBytes 4 x.data.toNat }] } })))

/-- CLEAR_ERRORS and ACK_ERROR (R174) and SET_ERROR_POLICY (R175): refusals and effects. EPOCH_UNSAVED is kind 10. -/
def Obligations.ErrorCommands : Prop :=
  ∀ (s : State) (a b : Word),
    let set := a.setWidth 12
    let holds := b.setWidth 12
    let status := s.el.status &&& ~~~(set &&& 0xBFF)
    let el : ErrorLog := { s.el with masked := set &&& 0xBFF, holds := holds ||| 0x400 }
    (4096 ≤ a.toNat → s.refuses (.clearErrors a b) .badArgument) ∧
    (a.toNat < 4096 → s.answers (.clearErrors a b) { s with el := { s.el with
        status := status
        first := s.el.first.filter fun k => !inKindSet (set &&& 0xBFF) k
        overflow := s.el.overflow && !b.getLsbD 0 } } (.done (status.setWidth 32) (field s.el.records.length))) ∧
    (s.el.records = [] → s.refuses .ackError .wrongState) ∧
    (∀ r rest, s.el.records = r :: rest → s.answers .ackError { s with el := { s.el with records := rest } }
      (.done (field r.recording.kind.number) (field rest.length))) ∧
    (4096 ≤ a.toNat ∨ 4096 ≤ b.toNat → s.refuses (.setErrorPolicy a b) .badArgument) ∧
    (a.toNat < 4096 → b.toNat < 4096 →
      (el.mustHold = true → s.el.hold = false → s.answers (.setErrorPolicy a b)
        ({ s with el := { el with hold := true } }.fire .holdChanged) (.done 1 0)) ∧
      (el.mustHold = false → s.el.hold = false → s.answers (.setErrorPolicy a b) { s with el := el } (.done 0 0)) ∧
      (s.el.hold = true → s.answers (.setErrorPolicy a b) { s with el := el } (.done 1 0))) ∧
    (el.mustHold = true ↔ ∃ k, inKindSet el.status k = true ∧ inKindSet el.masked k = false ∧ inKindSet el.holds k = true)

/-- CLEAR_HOLD (R177), with the recording that meets it. -/
def Obligations.ClearHoldLeavesHold : Prop :=
  ∀ s : State,
    let reason := ∃ k, inKindSet s.el.status k = true ∧ inKindSet s.el.masked k = false ∧ inKindSet s.el.holds k = true
    let left := { s with el := { s.el with hold := false } }.fire .holdChanged
    (reason → s.refuses .clearHold .wrongState) ∧
    (¬ reason → s.el.hold = true →
      s.answers .clearHold left (.done 0 0) ∧ left.el.hold = false ∧ left.readInputs.hold = false) ∧
    (¬ reason → s.el.hold = false → s.answers .clearHold s (.done 0 0)) ∧
    (∀ r : Recording, inKindSet s.el.masked r.kind = false → inKindSet s.el.holds r.kind = true →
      (s.record r).refuses .clearHold .wrongState ∧ (s.record r).el.hold = true ∧
      (s.el.hold = false →
        s.record r = ({ s with el := (s.record r).el }.fire .errorRecorded).fire .holdChanged))

/-! ## Invariants of every step -/

/-- The Error Log, the Notice Unit and the Battery Account stay sound at every step (R89, R91, R94, R168, R170, R172, R173). -/
def Obligations.LogNoticesAndBatteryStaySound : Prop :=
  ∀ s t : State, step s = .next t →
    (s.el.sound → t.el.sound) ∧ (s.nu.sound → t.nu.sound) ∧ (s.ba.sound → t.ba.sound)

/-- The bays stay sound at every step (R23, R27, R32, R107), and a CHARGING bay presents a multiple of 100 W between its Pmin and its
Pmax (R32), given a sound ring and a sound configuration. -/
def Obligations.BaysStaySound : Prop :=
  ∀ s t : State, step s = .next t → s.baysSound →
    t.baysSound ∧ (s.ringSound → s.configSound → s.allowancesSound → t.allowancesSound)

/-- The receipt ring stays sound at every step (R117, R119, R120): the sessions that hold a reservation and the uncollected
receipts never exceed the slots. And so does the outbound queue (R150), given what holds until STARTING ends and itself stays at
every step (R23, R56, R86, R110, R142): it holds at most 35 entries, so that its room for 40 always suffices (log 27). -/
def Obligations.RingStaysSound : Prop :=
  (∀ s t : State, step s = .next t → (s.ringSound → t.ringSound) ∧ (s.heldSafe → t.heldSafe) ∧
    (s.heldSafe → s.queueSound → t.queueSound)) ∧
  ∀ s : State, s.queueSound → s.pu.queue.length ≤ 35 ∧ s.pu.queue.length < Config.queueRoom

/-- The configuration stays legal at every step (R24, R57, R59, R181), and the two windows stay apart (R110, R115, R118,
R138). -/
def Obligations.ConfigurationStaysLegal : Prop :=
  ∀ s t : State, step s = .next t → (s.configSound → t.configSound) ∧ (s.windowsApart → t.windowsApart)

/-- The invariants hold after power-on reset. -/
def Obligations.InvariantsHoldAtReset : Prop :=
  State.reset.el.sound ∧ State.reset.nu.sound ∧ State.reset.ba.sound ∧ State.reset.baysSound ∧ State.reset.ringSound ∧
  State.reset.configSound ∧ State.reset.windowsApart ∧ State.reset.allowancesSound ∧ State.reset.queueSound
end
end

