-- ==== Sys2Proof/Laws/State.lean ====
section
/-! SUPPORT. One lemma for each field and each named update of the state: what the update leaves, and what reading the
place it writes gives. -/

namespace Sys2Proof.Machine

variable (s : State)

/-! ## setBay -/

@[simp] theorem pending_setBay (b : Fin 12) (x : Bay) : (s.setBay b x).pending = s.pending := rfl
@[simp] theorem clock_setBay (b : Fin 12) (x : Bay) : (s.setBay b x).clock = s.clock := rfl
@[simp] theorem channels_setBay (b : Fin 12) (x : Bay) : (s.setBay b x).channels = s.channels := rfl
@[simp] theorem meterConfig_setBay (b : Fin 12) (x : Bay) : (s.setBay b x).meterConfig = s.meterConfig := rfl
@[simp] theorem pairs_setBay (b : Fin 12) (x : Bay) : (s.setBay b x).pairs = s.pairs := rfl
@[simp] theorem nextSession_setBay (b : Fin 12) (x : Bay) : (s.setBay b x).nextSession = s.nextSession := rfl
@[simp] theorem al_setBay (b : Fin 12) (x : Bay) : (s.setBay b x).al = s.al := rfl
@[simp] theorem ba_setBay (b : Fin 12) (x : Bay) : (s.setBay b x).ba = s.ba := rfl
@[simp] theorem sw_setBay (b : Fin 12) (x : Bay) : (s.setBay b x).sw = s.sw := rfl
@[simp] theorem rw_setBay (b : Fin 12) (x : Bay) : (s.setBay b x).rw = s.rw := rfl
@[simp] theorem pu_setBay (b : Fin 12) (x : Bay) : (s.setBay b x).pu = s.pu := rfl
@[simp] theorem cu_setBay (b : Fin 12) (x : Bay) : (s.setBay b x).cu = s.cu := rfl
@[simp] theorem nu_setBay (b : Fin 12) (x : Bay) : (s.setBay b x).nu = s.nu := rfl
@[simp] theorem el_setBay (b : Fin 12) (x : Bay) : (s.setBay b x).el = s.el := rfl
@[simp] theorem sp_setBay (b : Fin 12) (x : Bay) : (s.setBay b x).sp = s.sp := rfl
@[simp] theorem free_setBay (b : Fin 12) (x : Bay) : (s.setBay b x).free = s.free := rfl

/-! ## setChannel -/

@[simp] theorem pending_setChannel (c : Fin 17) (x : Channel) : (s.setChannel c x).pending = s.pending := rfl
@[simp] theorem clock_setChannel (c : Fin 17) (x : Channel) : (s.setChannel c x).clock = s.clock := rfl
@[simp] theorem meterConfig_setChannel (c : Fin 17) (x : Channel) : (s.setChannel c x).meterConfig = s.meterConfig := rfl
@[simp] theorem bays_setChannel (c : Fin 17) (x : Channel) : (s.setChannel c x).bays = s.bays := rfl
@[simp] theorem pairs_setChannel (c : Fin 17) (x : Channel) : (s.setChannel c x).pairs = s.pairs := rfl
@[simp] theorem nextSession_setChannel (c : Fin 17) (x : Channel) : (s.setChannel c x).nextSession = s.nextSession := rfl
@[simp] theorem al_setChannel (c : Fin 17) (x : Channel) : (s.setChannel c x).al = s.al := rfl
@[simp] theorem ba_setChannel (c : Fin 17) (x : Channel) : (s.setChannel c x).ba = s.ba := rfl
@[simp] theorem sw_setChannel (c : Fin 17) (x : Channel) : (s.setChannel c x).sw = s.sw := rfl
@[simp] theorem rw_setChannel (c : Fin 17) (x : Channel) : (s.setChannel c x).rw = s.rw := rfl
@[simp] theorem pu_setChannel (c : Fin 17) (x : Channel) : (s.setChannel c x).pu = s.pu := rfl
@[simp] theorem cu_setChannel (c : Fin 17) (x : Channel) : (s.setChannel c x).cu = s.cu := rfl
@[simp] theorem nu_setChannel (c : Fin 17) (x : Channel) : (s.setChannel c x).nu = s.nu := rfl
@[simp] theorem el_setChannel (c : Fin 17) (x : Channel) : (s.setChannel c x).el = s.el := rfl
@[simp] theorem sp_setChannel (c : Fin 17) (x : Channel) : (s.setChannel c x).sp = s.sp := rfl
@[simp] theorem free_setChannel (c : Fin 17) (x : Channel) : (s.setChannel c x).free = s.free := rfl

/-! ## setVector -/

@[simp] theorem pending_setVector (v : Fin 8) (x : NoticeVector) : (s.setVector v x).pending = s.pending := rfl
@[simp] theorem clock_setVector (v : Fin 8) (x : NoticeVector) : (s.setVector v x).clock = s.clock := rfl
@[simp] theorem channels_setVector (v : Fin 8) (x : NoticeVector) : (s.setVector v x).channels = s.channels := rfl
@[simp] theorem meterConfig_setVector (v : Fin 8) (x : NoticeVector) : (s.setVector v x).meterConfig = s.meterConfig := rfl
@[simp] theorem bays_setVector (v : Fin 8) (x : NoticeVector) : (s.setVector v x).bays = s.bays := rfl
@[simp] theorem pairs_setVector (v : Fin 8) (x : NoticeVector) : (s.setVector v x).pairs = s.pairs := rfl
@[simp] theorem nextSession_setVector (v : Fin 8) (x : NoticeVector) : (s.setVector v x).nextSession = s.nextSession := rfl
@[simp] theorem al_setVector (v : Fin 8) (x : NoticeVector) : (s.setVector v x).al = s.al := rfl
@[simp] theorem ba_setVector (v : Fin 8) (x : NoticeVector) : (s.setVector v x).ba = s.ba := rfl
@[simp] theorem sw_setVector (v : Fin 8) (x : NoticeVector) : (s.setVector v x).sw = s.sw := rfl
@[simp] theorem rw_setVector (v : Fin 8) (x : NoticeVector) : (s.setVector v x).rw = s.rw := rfl
@[simp] theorem pu_setVector (v : Fin 8) (x : NoticeVector) : (s.setVector v x).pu = s.pu := rfl
@[simp] theorem cu_setVector (v : Fin 8) (x : NoticeVector) : (s.setVector v x).cu = s.cu := rfl
@[simp] theorem el_setVector (v : Fin 8) (x : NoticeVector) : (s.setVector v x).el = s.el := rfl
@[simp] theorem sp_setVector (v : Fin 8) (x : NoticeVector) : (s.setVector v x).sp = s.sp := rfl
@[simp] theorem free_setVector (v : Fin 8) (x : NoticeVector) : (s.setVector v x).free = s.free := rfl

/-! ## setPair -/

@[simp] theorem pending_setPair (p : Fin 6) (c : PairConfig) : (s.setPair p c).pending = s.pending := rfl
@[simp] theorem clock_setPair (p : Fin 6) (c : PairConfig) : (s.setPair p c).clock = s.clock := rfl
@[simp] theorem channels_setPair (p : Fin 6) (c : PairConfig) : (s.setPair p c).channels = s.channels := rfl
@[simp] theorem meterConfig_setPair (p : Fin 6) (c : PairConfig) : (s.setPair p c).meterConfig = s.meterConfig := rfl
@[simp] theorem bays_setPair (p : Fin 6) (c : PairConfig) : (s.setPair p c).bays = s.bays := rfl
@[simp] theorem nextSession_setPair (p : Fin 6) (c : PairConfig) : (s.setPair p c).nextSession = s.nextSession := rfl
@[simp] theorem al_setPair (p : Fin 6) (c : PairConfig) : (s.setPair p c).al = s.al := rfl
@[simp] theorem ba_setPair (p : Fin 6) (c : PairConfig) : (s.setPair p c).ba = s.ba := rfl
@[simp] theorem sw_setPair (p : Fin 6) (c : PairConfig) : (s.setPair p c).sw = s.sw := rfl
@[simp] theorem rw_setPair (p : Fin 6) (c : PairConfig) : (s.setPair p c).rw = s.rw := rfl
@[simp] theorem pu_setPair (p : Fin 6) (c : PairConfig) : (s.setPair p c).pu = s.pu := rfl
@[simp] theorem cu_setPair (p : Fin 6) (c : PairConfig) : (s.setPair p c).cu = s.cu := rfl
@[simp] theorem nu_setPair (p : Fin 6) (c : PairConfig) : (s.setPair p c).nu = s.nu := rfl
@[simp] theorem el_setPair (p : Fin 6) (c : PairConfig) : (s.setPair p c).el = s.el := rfl
@[simp] theorem sp_setPair (p : Fin 6) (c : PairConfig) : (s.setPair p c).sp = s.sp := rfl
@[simp] theorem free_setPair (p : Fin 6) (c : PairConfig) : (s.setPair p c).free = s.free := rfl

/-! ## enqueue -/

@[simp] theorem pending_enqueue (e : Entry) : (s.enqueue e).pending = s.pending := rfl
@[simp] theorem clock_enqueue (e : Entry) : (s.enqueue e).clock = s.clock := rfl
@[simp] theorem channels_enqueue (e : Entry) : (s.enqueue e).channels = s.channels := rfl
@[simp] theorem meterConfig_enqueue (e : Entry) : (s.enqueue e).meterConfig = s.meterConfig := rfl
@[simp] theorem bays_enqueue (e : Entry) : (s.enqueue e).bays = s.bays := rfl
@[simp] theorem pairs_enqueue (e : Entry) : (s.enqueue e).pairs = s.pairs := rfl
@[simp] theorem nextSession_enqueue (e : Entry) : (s.enqueue e).nextSession = s.nextSession := rfl
@[simp] theorem al_enqueue (e : Entry) : (s.enqueue e).al = s.al := rfl
@[simp] theorem ba_enqueue (e : Entry) : (s.enqueue e).ba = s.ba := rfl
@[simp] theorem sw_enqueue (e : Entry) : (s.enqueue e).sw = s.sw := rfl
@[simp] theorem rw_enqueue (e : Entry) : (s.enqueue e).rw = s.rw := rfl
@[simp] theorem cu_enqueue (e : Entry) : (s.enqueue e).cu = s.cu := rfl
@[simp] theorem nu_enqueue (e : Entry) : (s.enqueue e).nu = s.nu := rfl
@[simp] theorem el_enqueue (e : Entry) : (s.enqueue e).el = s.el := rfl
@[simp] theorem sp_enqueue (e : Entry) : (s.enqueue e).sp = s.sp := rfl
@[simp] theorem free_enqueue (e : Entry) : (s.enqueue e).free = s.free := rfl

/-! ## completeC -/

@[simp] theorem pending_completeC (ok : Bool) (data : List Word) : (s.completeC ok data).pending = s.pending := rfl
@[simp] theorem clock_completeC (ok : Bool) (data : List Word) : (s.completeC ok data).clock = s.clock := rfl
@[simp] theorem channels_completeC (ok : Bool) (data : List Word) : (s.completeC ok data).channels = s.channels := rfl
@[simp] theorem meterConfig_completeC (ok : Bool) (data : List Word) : (s.completeC ok data).meterConfig = s.meterConfig := rfl
@[simp] theorem bays_completeC (ok : Bool) (data : List Word) : (s.completeC ok data).bays = s.bays := rfl
@[simp] theorem pairs_completeC (ok : Bool) (data : List Word) : (s.completeC ok data).pairs = s.pairs := rfl
@[simp] theorem nextSession_completeC (ok : Bool) (data : List Word) : (s.completeC ok data).nextSession = s.nextSession := rfl
@[simp] theorem al_completeC (ok : Bool) (data : List Word) : (s.completeC ok data).al = s.al := rfl
@[simp] theorem ba_completeC (ok : Bool) (data : List Word) : (s.completeC ok data).ba = s.ba := rfl
@[simp] theorem sw_completeC (ok : Bool) (data : List Word) : (s.completeC ok data).sw = s.sw := rfl
@[simp] theorem rw_completeC (ok : Bool) (data : List Word) : (s.completeC ok data).rw = s.rw := rfl
@[simp] theorem cu_completeC (ok : Bool) (data : List Word) : (s.completeC ok data).cu = s.cu := rfl
@[simp] theorem nu_completeC (ok : Bool) (data : List Word) : (s.completeC ok data).nu = s.nu := rfl
@[simp] theorem el_completeC (ok : Bool) (data : List Word) : (s.completeC ok data).el = s.el := rfl
@[simp] theorem sp_completeC (ok : Bool) (data : List Word) : (s.completeC ok data).sp = s.sp := rfl
@[simp] theorem free_completeC (ok : Bool) (data : List Word) : (s.completeC ok data).free = s.free := rfl

/-! ## requestRead -/

@[simp] theorem pending_requestRead (r : PartRead) : (s.requestRead r).pending = s.pending := rfl
@[simp] theorem clock_requestRead (r : PartRead) : (s.requestRead r).clock = s.clock := rfl
@[simp] theorem channels_requestRead (r : PartRead) : (s.requestRead r).channels = s.channels := rfl
@[simp] theorem meterConfig_requestRead (r : PartRead) : (s.requestRead r).meterConfig = s.meterConfig := rfl
@[simp] theorem bays_requestRead (r : PartRead) : (s.requestRead r).bays = s.bays := rfl
@[simp] theorem pairs_requestRead (r : PartRead) : (s.requestRead r).pairs = s.pairs := rfl
@[simp] theorem nextSession_requestRead (r : PartRead) : (s.requestRead r).nextSession = s.nextSession := rfl
@[simp] theorem al_requestRead (r : PartRead) : (s.requestRead r).al = s.al := rfl
@[simp] theorem ba_requestRead (r : PartRead) : (s.requestRead r).ba = s.ba := rfl
@[simp] theorem sw_requestRead (r : PartRead) : (s.requestRead r).sw = s.sw := rfl
@[simp] theorem rw_requestRead (r : PartRead) : (s.requestRead r).rw = s.rw := rfl
@[simp] theorem cu_requestRead (r : PartRead) : (s.requestRead r).cu = s.cu := rfl
@[simp] theorem nu_requestRead (r : PartRead) : (s.requestRead r).nu = s.nu := rfl
@[simp] theorem el_requestRead (r : PartRead) : (s.requestRead r).el = s.el := rfl
@[simp] theorem sp_requestRead (r : PartRead) : (s.requestRead r).sp = s.sp := rfl
@[simp] theorem free_requestRead (r : PartRead) : (s.requestRead r).free = s.free := rfl

/-! ## freePort -/

@[simp] theorem pending_freePort : (s.freePort).pending = s.pending := rfl
@[simp] theorem clock_freePort : (s.freePort).clock = s.clock := rfl
@[simp] theorem channels_freePort : (s.freePort).channels = s.channels := rfl
@[simp] theorem meterConfig_freePort : (s.freePort).meterConfig = s.meterConfig := rfl
@[simp] theorem bays_freePort : (s.freePort).bays = s.bays := rfl
@[simp] theorem pairs_freePort : (s.freePort).pairs = s.pairs := rfl
@[simp] theorem nextSession_freePort : (s.freePort).nextSession = s.nextSession := rfl
@[simp] theorem al_freePort : (s.freePort).al = s.al := rfl
@[simp] theorem ba_freePort : (s.freePort).ba = s.ba := rfl
@[simp] theorem sw_freePort : (s.freePort).sw = s.sw := rfl
@[simp] theorem rw_freePort : (s.freePort).rw = s.rw := rfl
@[simp] theorem cu_freePort : (s.freePort).cu = s.cu := rfl
@[simp] theorem nu_freePort : (s.freePort).nu = s.nu := rfl
@[simp] theorem el_freePort : (s.freePort).el = s.el := rfl
@[simp] theorem sp_freePort : (s.freePort).sp = s.sp := rfl
@[simp] theorem free_freePort : (s.freePort).free = s.free := rfl

/-! ## requestSettings -/

@[simp] theorem pending_requestSettings (op : SettingsOp) : (s.requestSettings op).pending = s.pending := rfl
@[simp] theorem clock_requestSettings (op : SettingsOp) : (s.requestSettings op).clock = s.clock := rfl
@[simp] theorem channels_requestSettings (op : SettingsOp) : (s.requestSettings op).channels = s.channels := rfl
@[simp] theorem meterConfig_requestSettings (op : SettingsOp) : (s.requestSettings op).meterConfig = s.meterConfig := rfl
@[simp] theorem bays_requestSettings (op : SettingsOp) : (s.requestSettings op).bays = s.bays := rfl
@[simp] theorem pairs_requestSettings (op : SettingsOp) : (s.requestSettings op).pairs = s.pairs := rfl
@[simp] theorem nextSession_requestSettings (op : SettingsOp) : (s.requestSettings op).nextSession = s.nextSession := rfl
@[simp] theorem al_requestSettings (op : SettingsOp) : (s.requestSettings op).al = s.al := rfl
@[simp] theorem ba_requestSettings (op : SettingsOp) : (s.requestSettings op).ba = s.ba := rfl
@[simp] theorem sw_requestSettings (op : SettingsOp) : (s.requestSettings op).sw = s.sw := rfl
@[simp] theorem rw_requestSettings (op : SettingsOp) : (s.requestSettings op).rw = s.rw := rfl
@[simp] theorem pu_requestSettings (op : SettingsOp) : (s.requestSettings op).pu = s.pu := rfl
@[simp] theorem cu_requestSettings (op : SettingsOp) : (s.requestSettings op).cu = s.cu := rfl
@[simp] theorem nu_requestSettings (op : SettingsOp) : (s.requestSettings op).nu = s.nu := rfl
@[simp] theorem el_requestSettings (op : SettingsOp) : (s.requestSettings op).el = s.el := rfl
@[simp] theorem free_requestSettings (op : SettingsOp) : (s.requestSettings op).free = s.free := rfl

/-! ## endSettings -/

@[simp] theorem pending_endSettings : (s.endSettings).pending = s.pending := rfl
@[simp] theorem clock_endSettings : (s.endSettings).clock = s.clock := rfl
@[simp] theorem channels_endSettings : (s.endSettings).channels = s.channels := rfl
@[simp] theorem meterConfig_endSettings : (s.endSettings).meterConfig = s.meterConfig := rfl
@[simp] theorem bays_endSettings : (s.endSettings).bays = s.bays := rfl
@[simp] theorem pairs_endSettings : (s.endSettings).pairs = s.pairs := rfl
@[simp] theorem nextSession_endSettings : (s.endSettings).nextSession = s.nextSession := rfl
@[simp] theorem al_endSettings : (s.endSettings).al = s.al := rfl
@[simp] theorem ba_endSettings : (s.endSettings).ba = s.ba := rfl
@[simp] theorem sw_endSettings : (s.endSettings).sw = s.sw := rfl
@[simp] theorem rw_endSettings : (s.endSettings).rw = s.rw := rfl
@[simp] theorem pu_endSettings : (s.endSettings).pu = s.pu := rfl
@[simp] theorem cu_endSettings : (s.endSettings).cu = s.cu := rfl
@[simp] theorem nu_endSettings : (s.endSettings).nu = s.nu := rfl
@[simp] theorem el_endSettings : (s.endSettings).el = s.el := rfl
@[simp] theorem free_endSettings : (s.endSettings).free = s.free := rfl

/-! ## onBay and onChannel are setBay and setChannel -/

theorem onBay_eq (b : Fin 12) (f : Bay → Bay) : s.onBay b f = s.setBay b (f (s.bay b)) := rfl
theorem onChannel_eq (c : Fin 17) (f : Channel → Channel) : s.onChannel c f = s.setChannel c (f (s.channel c)) := rfl

/-! ## Reading a place that was written -/

@[simp] theorem bay_setBay_self (b : Fin 12) (x : Bay) : (s.setBay b x).bay b = x := by
  simp [State.bay, State.setBay]

theorem bay_setBay_of_ne {b c : Fin 12} (h : c ≠ b) (x : Bay) : (s.setBay b x).bay c = s.bay c := by
  have h' : b.val ≠ c.val := fun e => h (Fin.ext e.symm)
  simp [State.bay, State.setBay, h']

theorem bay_setBay (b c : Fin 12) (x : Bay) : (s.setBay b x).bay c = if c = b then x else s.bay c := by
  by_cases h : c = b
  · subst h; simp
  · simp [h, bay_setBay_of_ne]

@[simp] theorem channel_setChannel_self (c : Fin 17) (x : Channel) : (s.setChannel c x).channel c = x := by
  simp [State.channel, State.setChannel]

theorem channel_setChannel_of_ne {c d : Fin 17} (h : d ≠ c) (x : Channel) : (s.setChannel c x).channel d = s.channel d := by
  have h' : c.val ≠ d.val := fun e => h (Fin.ext e.symm)
  simp [State.channel, State.setChannel, h']

@[simp] theorem vector_setVector_self (v : Fin 8) (x : NoticeVector) : (s.setVector v x).vector v = x := by
  simp [State.vector, State.setVector]

theorem vector_setVector_of_ne {v w : Fin 8} (h : w ≠ v) (x : NoticeVector) : (s.setVector v x).vector w = s.vector w := by
  have h' : v.val ≠ w.val := fun e => h (Fin.ext e.symm)
  simp [State.vector, State.setVector, h']

@[simp] theorem bay_setChannel (c : Fin 17) (x : Channel) (b : Fin 12) : (s.setChannel c x).bay b = s.bay b := rfl
@[simp] theorem bay_setVector (v : Fin 8) (x : NoticeVector) (b : Fin 12) : (s.setVector v x).bay b = s.bay b := rfl
@[simp] theorem bay_enqueue (e : Entry) (b : Fin 12) : (s.enqueue e).bay b = s.bay b := rfl
@[simp] theorem channel_setBay (b : Fin 12) (x : Bay) (c : Fin 17) : (s.setBay b x).channel c = s.channel c := rfl
@[simp] theorem channel_enqueue (e : Entry) (c : Fin 17) : (s.enqueue e).channel c = s.channel c := rfl
@[simp] theorem vector_setBay (b : Fin 12) (x : Bay) (v : Fin 8) : (s.setBay b x).vector v = s.vector v := rfl
@[simp] theorem vector_enqueue (e : Entry) (v : Fin 8) : (s.enqueue e).vector v = s.vector v := rfl
@[simp] theorem queue_enqueue (e : Entry) : (s.enqueue e).pu.queue = s.pu.queue ++ [e] := rfl
@[simp] theorem link_enqueue (e : Entry) : (s.enqueue e).pu.link = s.pu.link := rfl

end Sys2Proof.Machine
end

