-- ==== Sys2Proof/Laws/Frame.lean ====
section
/-! SUPPORT. What each shared operation leaves alone: one lemma for each, that it changes only some parts of the state. -/

namespace Sys2Proof.Machine

/-! ## The algebra of changesOnly -/

theorem changesOnly_refl (ps : List Part) (s : State) : State.changesOnly ps s s := by
  constructor; intro k _; cases k <;> rfl

theorem same_trans {k : Part} {s t u : State} (h : State.same k s t) (g : State.same k t u) : State.same k s u := by
  cases k <;> exact Eq.trans h g

theorem changesOnly_trans {ps : List Part} {s t u : State} (h : State.changesOnly ps s t) (g : State.changesOnly ps t u) :
    State.changesOnly ps s u := ⟨fun k hk => same_trans (h.same k hk) (g.same k hk)⟩

theorem changesOnly_mono {ps qs : List Part} {s t : State} (h : State.changesOnly ps s t) (w : ps.all (qs.contains ·) = true) :
    State.changesOnly qs s t := by
  constructor; intro k hk
  refine h.same k fun hp => hk ?_
  have := List.all_eq_true.mp w k hp
  simpa using this

/-- Two operations, one after the other. -/
theorem changesOnly_comp {ps qs rs : List Part} {s t u : State} (h : State.changesOnly ps s t) (g : State.changesOnly qs t u)
    (w : (ps ++ qs).all (rs.contains ·) = true) : State.changesOnly rs s u := by
  rw [List.all_append, Bool.and_eq_true] at w
  exact changesOnly_trans (changesOnly_mono h w.1) (changesOnly_mono g w.2)

/-- A fold of operations that each change only some parts. -/
theorem changesOnly_foldl {α : Type} {ps : List Part} (f : State → α → State)
    (h : ∀ s a, State.changesOnly ps s (f s a)) : ∀ (xs : List α) (s : State), State.changesOnly ps s (xs.foldl f s)
  | [], s => changesOnly_refl ps s
  | x :: xs, s => changesOnly_trans (h s x) (changesOnly_foldl f h xs (f s x))

/-! ## Single places -/

theorem setBay_frame (s : State) (b : Fin 12) (x : Bay) : State.changesOnly [.bays] s (s.setBay b x) := by
  constructor; intro k hk; cases k <;> first | rfl | simp at hk

theorem onBay_frame (s : State) (b : Fin 12) (f : Bay → Bay) : State.changesOnly [.bays] s (s.onBay b f) := setBay_frame ..

theorem setChannel_frame (s : State) (c : Fin 17) (x : Channel) : State.changesOnly [.channels] s (s.setChannel c x) := by
  constructor; intro k hk; cases k <;> first | rfl | simp at hk

theorem onChannel_frame (s : State) (c : Fin 17) (f : Channel → Channel) :
    State.changesOnly [.channels] s (s.onChannel c f) := setChannel_frame ..

theorem setVector_frame (s : State) (v : Fin 8) (x : NoticeVector) : State.changesOnly [.nu] s (s.setVector v x) := by
  constructor; intro k hk; cases k <;> first | rfl | simp at hk

theorem setPair_frame (s : State) (p : Fin 6) (c : PairConfig) : State.changesOnly [.pairs] s (s.setPair p c) := by
  constructor; intro k hk; cases k <;> first | rfl | simp at hk

theorem pu_frame (s : State) (p : PathUnit) : State.changesOnly [.pu] s { s with pu := p } := by
  constructor; intro k hk; cases k <;> first | rfl | simp at hk

theorem cu_frame (s : State) (c : CommandUnit) : State.changesOnly [.cu] s { s with cu := c } := by
  constructor; intro k hk; cases k <;> first | rfl | simp at hk

theorem nu_frame (s : State) (n : NoticeUnit) : State.changesOnly [.nu] s { s with nu := n } := by
  constructor; intro k hk; cases k <;> first | rfl | simp at hk

theorem el_frame (s : State) (e : ErrorLog) : State.changesOnly [.el] s { s with el := e } := by
  constructor; intro k hk; cases k <;> first | rfl | simp at hk

theorem rw_frame (s : State) (r : ReceiptWriter) : State.changesOnly [.rw] s { s with rw := r } := by
  constructor; intro k hk; cases k <;> first | rfl | simp at hk

theorem sw_frame (s : State) (w : SnapshotWriter) : State.changesOnly [.sw] s { s with sw := w } := by
  constructor; intro k hk; cases k <;> first | rfl | simp at hk

theorem ba_frame (s : State) (b : BatteryAccount) : State.changesOnly [.ba] s { s with ba := b } := by
  constructor; intro k hk; cases k <;> first | rfl | simp at hk

theorem al_frame (s : State) (a : Allocator) : State.changesOnly [.al] s { s with al := a } := by
  constructor; intro k hk; cases k <;> first | rfl | simp at hk

theorem sp_frame (s : State) (p : SettingsPort) : State.changesOnly [.sp] s { s with sp := p } := by
  constructor; intro k hk; cases k <;> first | rfl | simp at hk

theorem clock_frame (s : State) (c : Clock) : State.changesOnly [.clock] s { s with clock := c } := by
  constructor; intro k hk; cases k <;> first | rfl | simp at hk

theorem enqueue_frame (s : State) (e : Entry) : State.changesOnly [.pu] s (s.enqueue e) := pu_frame ..

/-! ## The queue and the transaction it holds -/

theorem completeC_frame (s : State) (ok : Bool) (data : List Word) : State.changesOnly [.pu] s (s.completeC ok data) := pu_frame ..

theorem proceed_frame (s : State) (a : Access) : State.changesOnly [.pu] s (s.proceed a) := by
  unfold State.proceed
  repeat' split
  all_goals exact pu_frame ..

theorem judgeHit_frame (s : State) (a : Access) : State.changesOnly [.pu] s (s.judgeHit a) := by
  unfold State.judgeHit
  split
  · exact proceed_frame ..
  · exact pu_frame ..

theorem holdUpTo_frame (s : State) (a : Access) (n : Nat) : State.changesOnly [.pu] s (s.holdUpTo a n) := by
  unfold State.holdUpTo
  split
  · exact judgeHit_frame ..
  · exact pu_frame ..

theorem popHead_frame (s : State) : State.changesOnly [.pu] s s.popHead := by
  unfold State.popHead
  dsimp only
  split
  · exact changesOnly_trans (pu_frame ..) (holdUpTo_frame ..)
  all_goals exact pu_frame ..

theorem removeEntries_frame (s : State) (d : EntryKind → Bool) : State.changesOnly [.pu] s (s.removeEntries d) := by
  unfold State.removeEntries
  dsimp only
  split
  · exact changesOnly_trans (pu_frame ..) (holdUpTo_frame ..)
  all_goals exact pu_frame ..

/-! ## Causes, notices and recordings -/

theorem queueNotice_frame (s : State) (v : Fin 8) : State.changesOnly [.nu, .pu] s (s.queueNotice v) :=
  changesOnly_comp (enqueue_frame ..) (setVector_frame ..) rfl

theorem fire_frame (s : State) (c : Cause) : State.changesOnly [.nu, .pu] s (s.fire c) := by
  unfold State.fire
  dsimp only
  repeat' split
  · exact changesOnly_refl ..
  · exact changesOnly_refl ..
  · exact queueNotice_frame ..
  · exact changesOnly_mono (setVector_frame ..) rfl

theorem releaseVector_frame (s : State) (v : Fin 8) : State.changesOnly [.nu, .pu] s (s.releaseVector v) := by
  unfold State.releaseVector
  dsimp only
  repeat' split
  · exact changesOnly_mono (setVector_frame ..) rfl
  · exact changesOnly_comp (setVector_frame ..) (queueNotice_frame ..) rfl
  · exact changesOnly_refl ..

theorem releaseVectors_frame (s : State) : State.changesOnly [.nu, .pu] s s.releaseVectors :=
  changesOnly_foldl _ releaseVector_frame ..

theorem dropPending_frame (s : State) : State.changesOnly [.nu] s s.dropPending := by
  unfold State.dropPending
  split
  · exact changesOnly_refl ..
  · exact nu_frame ..

theorem record_frame (s : State) (r : Recording) : State.changesOnly [.el, .nu, .pu] s (s.record r) := by
  unfold State.record
  dsimp only
  have h := el_frame s (s.el.take { recording := r, time := s.clock.siteTime, round := s.al.round })
  have g := changesOnly_comp (rs := [.el, .nu, .pu]) h (fire_frame _ .errorRecorded) rfl
  repeat' split
  · exact changesOnly_mono h rfl
  · exact changesOnly_comp g (fire_frame ..) rfl
  · exact g

theorem vectorFault_frame (s : State) (v : Fin 8) : State.changesOnly [.el, .nu, .pu] s (s.vectorFault v) := record_frame ..

theorem judgeUsable_frame (s : State) : State.changesOnly [.nu] s s.judgeUsable := nu_frame ..

theorem windowsChanged_frame (s : State) : State.changesOnly [.el, .nu, .pu] s s.windowsChanged := by
  unfold State.windowsChanged
  refine changesOnly_comp (changesOnly_comp (qs := [.el, .nu, .pu]) (rs := [.el, .nu, .pu]) (judgeUsable_frame s) ?_ ?_)
    (releaseVectors_frame _) rfl
  · refine changesOnly_foldl _ (fun t v => ?_) ..
    split
    · exact vectorFault_frame ..
    · exact changesOnly_refl ..
  · rfl

theorem batteryEvent_frame (s : State) (b : BatteryAccount) : State.changesOnly [.ba, .nu, .pu] s (s.batteryEvent b) := by
  unfold State.batteryEvent
  dsimp only
  split
  · exact changesOnly_comp (ba_frame ..) (fire_frame ..) rfl
  · exact changesOnly_mono (ba_frame ..) rfl

/-! ## Bays -/

theorem raise_frame (s : State) (b : Fin 12) (f : EventFlag) : State.changesOnly [.bays, .nu, .pu] s (s.raise b f) :=
  changesOnly_comp (onBay_frame ..) (fire_frame ..) rfl

theorem watchFeedback_frame (s : State) (b : Fin 12) : State.changesOnly [.bays] s (s.watchFeedback b) := onBay_frame ..

theorem judgeFall_frame (s : State) : State.changesOnly [.rw, .nu, .pu] s s.judgeFall := by
  unfold State.judgeFall
  split
  · exact changesOnly_comp (rw_frame ..) (fire_frame ..) rfl
  · exact changesOnly_refl ..

theorem reserve_frame (s : State) : State.changesOnly [.rw, .nu, .pu] s s.reserve :=
  changesOnly_comp (rw_frame ..) (judgeFall_frame ..) rfl

theorem issue_frame (s : State) (b : Fin 12) : State.changesOnly [.rw, .pu] s (s.issue b) :=
  changesOnly_comp (rw_frame ..) (enqueue_frame ..) rfl

theorem enterIssuing_frame (s : State) (b : Fin 12) : State.changesOnly [.bays, .channels, .rw, .pu] s (s.enterIssuing b) :=
  changesOnly_comp (changesOnly_comp (rs := [.bays, .channels]) (onBay_frame ..) (onChannel_frame ..) rfl) (issue_frame ..) rfl

theorem judgeIssuing_frame (s : State) (b : Fin 12) : State.changesOnly [.bays, .channels, .rw, .pu] s (s.judgeIssuing b) := by
  unfold State.judgeIssuing
  split
  · exact changesOnly_comp (enterIssuing_frame ..) (watchFeedback_frame ..) rfl
  · exact changesOnly_mono (watchFeedback_frame ..) rfl

theorem enterStopping_frame (s : State) (b : Fin 12) (c : StopCause) :
    State.changesOnly [.bays, .channels, .rw, .nu, .pu] s (s.enterStopping b c) :=
  changesOnly_comp (changesOnly_comp (rs := [.bays, .nu, .pu]) (onBay_frame ..) (raise_frame ..) rfl) (judgeIssuing_frame ..) rfl

theorem enterReleasePending_frame (s : State) (b : Fin 12) :
    State.changesOnly [.bays, .nu, .pu] s (s.enterReleasePending b) :=
  changesOnly_comp (changesOnly_comp (rs := [.bays, .nu, .pu]) (onBay_frame ..) (raise_frame ..) rfl) (fire_frame ..) rfl

theorem plugIn_frame (s : State) (b : Fin 12) : State.changesOnly [.bays, .nu, .pu] s (s.plugIn b) := by
  unfold State.plugIn
  dsimp only
  split
  · exact changesOnly_comp (raise_frame ..) (onBay_frame ..) rfl
  · exact raise_frame ..

theorem plugOut_frame (s : State) (b : Fin 12) : State.changesOnly [.bays, .channels, .rw, .nu, .pu] s (s.plugOut b) := by
  unfold State.plugOut
  dsimp only
  have h := raise_frame s b .plugOut
  split
  all_goals first
    | exact changesOnly_comp h (enterStopping_frame ..) rfl
    | exact changesOnly_comp h (onBay_frame ..) rfl
    | exact changesOnly_mono h rfl

theorem readyHigh_frame (s : State) (b : Fin 12) : State.changesOnly [.bays] s (s.readyHigh b) := by
  unfold State.readyHigh
  split
  · exact changesOnly_trans (onBay_frame ..) (watchFeedback_frame ..)
  · exact changesOnly_refl ..

theorem readyLow_frame (s : State) (b : Fin 12) : State.changesOnly [.bays, .channels, .rw, .pu] s (s.readyLow b) := by
  unfold State.readyLow
  repeat' split
  all_goals first
    | exact changesOnly_refl ..
    | exact changesOnly_comp (onBay_frame ..) (watchFeedback_frame ..) rfl
    | exact changesOnly_comp (onBay_frame ..) (judgeIssuing_frame ..) rfl

theorem press_frame (s : State) (b : Fin 12) : State.changesOnly [.bays, .nu, .pu] s (s.press b) := by
  unfold State.press
  repeat' split
  all_goals first
    | exact changesOnly_refl ..
    | exact enterReleasePending_frame ..
    | exact raise_frame ..
    | exact changesOnly_comp (onBay_frame ..) (raise_frame ..) rfl

theorem contactorFault_frame (s : State) (b : Fin 12) :
    State.changesOnly [.bays, .channels, .rw, .nu, .pu] s (s.contactorFault b) := by
  have h (f : Bay → Bay) : State.changesOnly [.bays, .channels, .rw, .nu, .pu] s ((s.onBay b f).enterStopping b .contactorFault) :=
    changesOnly_comp (onBay_frame s b f) (enterStopping_frame (s.onBay b f) b .contactorFault) rfl
  have g (f : Bay → Bay) : State.changesOnly [.bays, .channels, .rw, .nu, .pu] s ((s.onBay b f).judgeIssuing b) :=
    changesOnly_comp (onBay_frame s b f) (judgeIssuing_frame (s.onBay b f) b) rfl
  have i (f : Bay → Bay) : State.changesOnly [.bays, .channels, .rw, .nu, .pu] s ((s.onBay b f).watchFeedback b) :=
    changesOnly_comp (onBay_frame s b f) (watchFeedback_frame (s.onBay b f) b) rfl
  unfold State.contactorFault
  dsimp only
  split
  · exact h _
  · exact h _
  · exact h _
  · exact h _
  · exact g _
  · exact changesOnly_mono (onBay_frame s b _) rfl
  · exact i _
  · exact i _
  · exact i _
  · exact changesOnly_refl _ s

theorem countQuota_frame (s : State) (b : Fin 12) :
    State.changesOnly [.bays, .channels, .rw, .nu, .pu] s (s.countQuota b) := by
  have h (f : Bay → Bay) (g : Bool) :
      State.changesOnly [.bays, .channels, .rw, .nu, .pu] s
        (if g then ((s.onBay b f).raise b .quotaReached).enterStopping b .quota else (s.onBay b f).raise b .quotaReached) := by
    have k : State.changesOnly [.bays, .nu, .pu] s ((s.onBay b f).raise b .quotaReached) :=
      changesOnly_comp (onBay_frame s b f) (raise_frame (s.onBay b f) b .quotaReached) rfl
    split
    · exact changesOnly_comp k (enterStopping_frame ..) rfl
    · exact changesOnly_mono k rfl
  unfold State.countQuota
  dsimp only
  split
  · exact changesOnly_refl _ s
  split
  · exact changesOnly_mono (onBay_frame s b _) rfl
  split
  · exact h _ _
  · exact changesOnly_mono (onBay_frame s b _) rfl

theorem bayPulse_frame (s : State) (b : Fin 12) : State.changesOnly [.bays, .channels, .rw, .nu, .pu] s (s.bayPulse b) := by
  unfold State.bayPulse
  split
  · exact changesOnly_comp (onBay_frame ..) (countQuota_frame ..) rfl
  · exact changesOnly_mono (onBay_frame ..) rfl

theorem takePlan_frame (s : State) (b : Fin 12) (p : PlanBay) :
    State.changesOnly [.bays, .channels, .nu, .pu] s (s.takePlan b p) := by
  have h (y : Bay) (c : Prop) [Decidable c] (f : Channel → Channel) :
      State.changesOnly [.bays, .channels, .nu, .pu] s
        (if c then (s.setBay b y).onChannel (bayChannel b) f else s.setBay b y) := by
    split
    · exact changesOnly_comp (setBay_frame ..) (onChannel_frame ..) rfl
    · exact changesOnly_mono (setBay_frame ..) rfl
  unfold State.takePlan
  dsimp only
  split
  · exact changesOnly_comp (h _ _ _) (raise_frame ..) rfl
  · exact h _ _ _

theorem cancelRelease_frame (s : State) (b : Fin 12) : State.changesOnly [.bays] s (s.cancelRelease b) :=
  changesOnly_trans (onBay_frame ..) (watchFeedback_frame ..)

theorem endMaintenance_frame (s : State) (b : Fin 12) : State.changesOnly [.bays, .nu, .pu] s (s.endMaintenance b) := by
  unfold State.endMaintenance
  dsimp only
  repeat' split
  all_goals first
    | exact changesOnly_refl ..
    | exact changesOnly_comp (onBay_frame ..) (enterReleasePending_frame ..) rfl
    | exact changesOnly_mono (onBay_frame ..) rfl

theorem nextSession_frame (s : State) (n : Word) : State.changesOnly [.nextSession] s { s with nextSession := n } := by
  constructor; intro k hk; cases k <;> first | rfl | simp at hk

theorem authorised_frame (s : State) (b : Fin 12) (c : SessionClass) (quota : Nat) (reference : BitVec 128) :
    State.changesOnly [.bays, .nextSession, .rw, .nu, .pu] s (s.authorised b c quota reference) := by
  have h := changesOnly_comp (rs := [.nextSession, .rw, .nu, .pu]) (reserve_frame s)
    (nextSession_frame _ (sessionAfter s.nextSession)) rfl
  have g := changesOnly_comp (rs := [.bays, .nextSession, .rw, .nu, .pu]) h
    (onBay_frame _ b fun x => x.open (s.newSession c quota reference)) rfl
  exact changesOnly_comp (changesOnly_comp (rs := [.bays, .nextSession, .rw, .nu, .pu]) g (raise_frame _ b .authorised) rfl)
    (watchFeedback_frame ..) rfl

/-! ## The meter, the battery and the round -/

theorem handMeterFault_frame (s : State) (b : Fin 12) : State.changesOnly [.bays] s (s.handMeterFault b) := onBay_frame ..

theorem findSilence_frame (s : State) (b : Fin 12) :
    State.changesOnly [.bays, .channels, .el, .nu, .pu] s (s.findSilence b) :=
  changesOnly_comp (changesOnly_comp (rs := [.channels, .el, .nu, .pu]) (onChannel_frame ..) (record_frame ..) rfl)
    (handMeterFault_frame ..) rfl

theorem judgeSilence_frame (s : State) (ch : Fin 17) :
    State.changesOnly [.bays, .channels, .el, .nu, .pu] s (s.judgeSilence ch) := by
  unfold State.judgeSilence
  repeat' split
  all_goals first
    | exact changesOnly_refl ..
    | exact findSilence_frame ..

theorem recordNoise_frame (s : State) (ch : Fin 17) (width : Nat) :
    State.changesOnly [.channels, .el, .nu, .pu] s (s.recordNoise ch width) :=
  changesOnly_comp (onChannel_frame ..) (record_frame ..) rfl

theorem reject_frame (s : State) (ch : Fin 17) (width : Nat) :
    State.changesOnly [.bays, .channels, .el, .nu, .pu] s (s.reject ch width) := by
  unfold State.reject
  dsimp only
  split
  · exact changesOnly_comp (changesOnly_comp (rs := [.channels, .el, .nu, .pu]) (onChannel_frame ..) (recordNoise_frame ..) rfl)
      (judgeSilence_frame ..) rfl
  · exact changesOnly_comp (onChannel_frame ..) (judgeSilence_frame ..) rfl

theorem findRunaway_frame (s : State) (b : Fin 12) (p : Word) :
    State.changesOnly [.bays, .el, .nu, .pu] s (s.findRunaway b p) :=
  changesOnly_comp (record_frame ..) (handMeterFault_frame ..) rfl

theorem judgeBayPulse_frame (s : State) (b : Fin 12) (p : Option Word) (a : Word) :
    State.changesOnly [.bays, .channels, .el, .nu, .pu] s (s.judgeBayPulse b p a) := by
  unfold State.judgeBayPulse
  dsimp only
  repeat' split
  · exact changesOnly_mono (onChannel_frame ..) rfl
  · exact changesOnly_comp (changesOnly_comp (rs := [.channels]) (onChannel_frame ..) (setChannel_frame ..) rfl)
      (findRunaway_frame ..) rfl
  · exact changesOnly_comp (onChannel_frame ..) (setChannel_frame ..) rfl

theorem sitePulse_frame (s : State) (ch : Fin 17) : State.changesOnly [.ba, .nu, .pu] s (s.sitePulse ch) := by
  unfold State.sitePulse
  repeat' split
  · exact batteryEvent_frame ..
  · exact batteryEvent_frame ..
  · exact changesOnly_refl ..

theorem acceptPulse_frame (s : State) (ch : Fin 17) (a : Word) :
    State.changesOnly [.bays, .channels, .ba, .rw, .el, .nu, .pu] s (s.acceptPulse ch a) := by
  unfold State.acceptPulse
  dsimp only
  split
  · exact changesOnly_comp (changesOnly_comp (rs := [.bays, .channels, .el, .nu, .pu]) (onChannel_frame ..)
      (judgeBayPulse_frame ..) rfl) (bayPulse_frame ..) rfl
  · exact changesOnly_comp (onChannel_frame ..) (sitePulse_frame ..) rfl

theorem setLine_frame (s : State) (l : BattLine) (x : FilteredLine) : State.changesOnly [.ba] s (s.setLine l x) := by
  cases l <;> exact ba_frame ..

theorem battEdge_frame (s : State) (l : BattLine) (r : Bool) : State.changesOnly [.ba, .el, .nu, .pu] s (s.battEdge l r) := by
  unfold State.battEdge
  split
  · exact changesOnly_mono (batteryEvent_frame ..) rfl
  · unfold State.battReadyFall
    dsimp only
    split
    · exact changesOnly_mono (batteryEvent_frame ..) rfl
    · exact changesOnly_comp (record_frame ..) (batteryEvent_frame ..) rfl
  · exact changesOnly_mono (batteryEvent_frame ..) rfl
  · exact changesOnly_mono (batteryEvent_frame ..) rfl
  all_goals exact changesOnly_refl ..

theorem latch_frame (s : State) : State.changesOnly [.al, .el, .nu, .pu] s s.latch := by
  unfold State.latch
  dsimp only
  split
  · exact changesOnly_comp (al_frame ..) (record_frame ..) rfl
  · exact changesOnly_mono (al_frame ..) rfl

theorem queueRecord_frame (s : State) (i : Fin 13) (target : Nat) (bytes : List Byte) :
    State.changesOnly [.pu] s (s.queueRecord i target bytes) := by
  unfold State.queueRecord
  split
  · exact pu_frame ..
  · exact enqueue_frame ..

theorem queueSnapshot_frame (s : State) (i : Fin 13) (bytes : List Byte) :
    State.changesOnly [.pu] s (s.queueSnapshot i bytes) := by
  unfold State.queueSnapshot
  split
  · exact changesOnly_refl ..
  · exact queueRecord_frame ..

theorem takePart_frame (s : State) (p : Plan) (snap : Bool) (part : BoundaryPart) :
    State.changesOnly [.bays, .channels, .ba, .nu, .pu] s (s.takePart p snap part) := by
  unfold State.takePart
  split
  · dsimp only
    split
    · exact changesOnly_comp (takePlan_frame ..) (queueSnapshot_frame ..) rfl
    · exact changesOnly_mono (takePlan_frame ..) rfl
  · exact changesOnly_mono (batteryEvent_frame ..) rfl
  · split
    · exact changesOnly_mono (queueSnapshot_frame ..) rfl
    · exact changesOnly_refl ..

theorem meterBoundary_frame (s : State) : State.changesOnly [.channels] s s.meterBoundary := by
  constructor; intro k hk; cases k <;> first | rfl | simp at hk

theorem takeParts_frame (s : State) (p : Plan) (snap : Bool) (parts : List BoundaryPart) :
    State.changesOnly [.bays, .channels, .ba, .nu, .pu] s (s.takeParts p snap parts) :=
  changesOnly_foldl _ (fun _ _ => takePart_frame ..) ..

/-- What happens before the parts of a boundary are taken. -/
theorem applyLatched_frame (s : State) (p : Plan) :
    State.changesOnly [.channels, .al, .el, .nu, .pu] s ((s.meterBoundary.latch).applyPlan p) :=
  changesOnly_comp (changesOnly_comp (rs := [.channels, .al, .el, .nu, .pu]) (meterBoundary_frame s) (latch_frame _) rfl)
    (al_frame _ _) rfl

/-- A boundary with no window change between its parts. -/
theorem boundary_plain_frame (s : State) (p : Plan) (parts : List Nat) :
    State.changesOnly [.bays, .channels, .al, .ba, .el, .nu, .pu] s (s.boundary p { parts := parts }) :=
  changesOnly_comp (applyLatched_frame s p) (takeParts_frame ..) rfl

/-! ## The memory path and the Command Unit -/

theorem tryFetch_frame (s : State) : State.changesOnly [.cu, .pu] s s.tryFetch := by
  unfold State.tryFetch
  split
  · constructor; intro k hk; cases k <;> first | rfl | simp at hk
  · exact changesOnly_refl ..

theorem queueReply_frame (s : State) (p : BitVec 4) (tag : BitVec 16) (r : Reply) :
    State.changesOnly [.cu, .pu] s (s.queueReply p tag r) := changesOnly_comp (enqueue_frame ..) (cu_frame ..) rfl

theorem endExecution_frame (s : State) (p : BitVec 4) (words : List Word) (r : Option Reply) :
    State.changesOnly [.cu, .pu] s (s.endExecution p words r) := by
  unfold State.endExecution
  split
  · exact queueReply_frame ..
  · exact changesOnly_mono (cu_frame ..) rfl

/-- A ring command changes what its effect changes, the Command Unit and the queue. -/
theorem ringCommand_frame {ps qs : List Part} (s : State) (c : Instr) (e : State → State × Option Reply)
    (h : State.changesOnly ps s (e s).1) (w : (ps ++ [Part.cu, Part.pu]).all (qs.contains ·) = true) :
    State.changesOnly qs s (s.ringCommand c e) := by
  unfold State.ringCommand
  repeat' split
  · exact changesOnly_comp h (endExecution_frame ..) w
  all_goals exact changesOnly_refl ..

theorem memoryFault_frame (s : State) (a d : Nat) : State.changesOnly [.el, .nu, .pu] s (s.memoryFault a d) := record_frame ..

theorem requestRead_frame (s : State) (r : PartRead) : State.changesOnly [.pu] s (s.requestRead r) := pu_frame ..

theorem freePort_frame (s : State) : State.changesOnly [.pu] s s.freePort := pu_frame ..

theorem postRequest_frame (s : State) (v : Word) : State.changesOnly [.cu, .el, .nu, .pu] s (s.postRequest v) := by
  unfold State.postRequest
  dsimp only
  split
  · exact changesOnly_comp (cu_frame ..) (tryFetch_frame ..) rfl
  · exact changesOnly_mono (record_frame ..) rfl

theorem guardWrite_frame (s : State) (att : Bool) (a d : Nat) (w : WriteWord) :
    State.changesOnly [.el, .nu, .pu] s (s.guardWrite att a d w) := by
  unfold State.guardWrite
  split
  · exact record_frame ..
  · exact changesOnly_mono (pu_frame ..) rfl

theorem writeOwned_frame (s : State) (att : Bool) (a : Nat) (w : WriteWord) :
    State.changesOnly [.cu, .el, .nu, .pu] s (s.writeOwned att a w) := by
  unfold State.writeOwned
  dsimp only
  repeat' split
  · exact changesOnly_refl ..
  · exact changesOnly_mono (changesOnly_trans (pu_frame ..) (requestRead_frame ..)) rfl
  · exact postRequest_frame ..
  · exact changesOnly_mono (pu_frame ..) rfl
  · exact changesOnly_mono (guardWrite_frame ..) rfl

theorem writeWord_frame (s : State) (att : Bool) (c : WordClass) (a : Nat) (w : WriteWord) :
    State.changesOnly [.cu, .el, .nu, .pu] s (s.writeWord att c a w) := by
  unfold State.writeWord
  split
  · exact writeOwned_frame ..
  · exact changesOnly_mono (guardWrite_frame ..) rfl
  · exact changesOnly_mono (guardWrite_frame ..) rfl
  · exact changesOnly_refl ..
  · exact changesOnly_refl ..

theorem acceptWrite_frame (s : State) (a : Nat) (words : List WriteWord) :
    State.changesOnly [.cu, .el, .nu, .pu] s (s.acceptWrite a words) := by
  unfold State.acceptWrite
  dsimp only
  exact changesOnly_comp (changesOnly_foldl (ps := [.cu, .el, .nu, .pu]) _ (fun t w => writeWord_frame ..) ..) (judgeHit_frame ..) rfl

theorem acceptRead_frame (s : State) (a n : Nat) : State.changesOnly [.bays, .pu] s (s.acceptRead a n) := by
  unfold State.acceptRead
  dsimp only
  split
  · exact changesOnly_comp (onBay_frame ..) (judgeHit_frame ..) rfl
  · exact changesOnly_mono (judgeHit_frame ..) rfl

theorem accept_frame (s : State) (r : Request) : State.changesOnly [.bays, .cu, .el, .nu, .pu] s (s.accept r) := by
  cases r
  · exact changesOnly_mono (acceptRead_frame ..) rfl
  · exact changesOnly_mono (acceptWrite_frame ..) rfl

theorem acceptHeld_frame (s : State) : State.changesOnly [.bays, .cu, .el, .nu, .pu] s s.acceptHeld := by
  unfold State.acceptHeld
  split
  · exact changesOnly_comp (pu_frame ..) (accept_frame ..) rfl
  all_goals exact changesOnly_refl ..

theorem takeWatchedWord_frame (s : State) (o : Nat) (w : WriteWord) : State.changesOnly [.nu] s (s.takeWatchedWord o w) := by
  unfold State.takeWatchedWord
  repeat' split
  · exact setVector_frame ..
  · exact nu_frame ..
  · exact changesOnly_refl ..

theorem judgeVector_frame (s : State) (v : Fin 8) : State.changesOnly [.nu] s (s.judgeVector v) := setVector_frame ..

theorem reportVector_frame (s : State) (v : Fin 8) : State.changesOnly [.el, .nu, .pu] s (s.reportVector v) := by
  unfold State.reportVector
  split
  · exact changesOnly_refl ..
  · exact vectorFault_frame ..

theorem takeWords_frame (s : State) (a : Nat) (words : List WriteWord) : State.changesOnly [.nu] s (s.takeWords a words) :=
  changesOnly_trans (changesOnly_foldl (ps := [.nu]) _ (fun _ _ => takeWatchedWord_frame ..) ..)
    (changesOnly_foldl (ps := [.nu]) _ judgeVector_frame ..)

theorem takeWatched_frame (s : State) (a : Nat) (words : List WriteWord) :
    State.changesOnly [.el, .nu, .pu] s (s.takeWatched a words) := by
  unfold State.takeWatched
  exact changesOnly_comp (changesOnly_comp (rs := [.el, .nu, .pu]) (changesOnly_comp (rs := [.el, .nu, .pu])
    (takeWords_frame ..) (changesOnly_foldl (ps := [.el, .nu, .pu]) _ reportVector_frame ..) rfl) (dropPending_frame _) rfl)
    (releaseVectors_frame _) rfl

theorem receiptComplete_frame (s : State) (b : Fin 12) (q : Nat) (k : Word) (ab : Bool) :
    State.changesOnly [.bays, .rw, .nu, .pu] s (s.receiptComplete b q k ab) := by
  unfold State.receiptComplete
  dsimp only
  split
  · exact changesOnly_comp (changesOnly_comp (rs := [.bays, .rw]) (rw_frame ..) (onBay_frame ..) rfl) (fire_frame ..) rfl
  · exact changesOnly_comp (onBay_frame ..) (fire_frame ..) rfl

theorem replyComplete_frame (s : State) (orphan : Bool) : State.changesOnly [.cu, .nu, .pu] s (s.replyComplete orphan) := by
  unfold State.replyComplete
  dsimp only
  split
  · exact changesOnly_refl ..
  · exact changesOnly_comp (changesOnly_comp (rs := [.cu, .nu, .pu]) (changesOnly_comp (rs := [.cu, .nu, .pu]) (cu_frame ..)
      (fire_frame _ .replyReady) rfl) (cu_frame ..) rfl) (tryFetch_frame ..) rfl

theorem reportEntry_frame (s : State) (k : EntryKind) (ab : Bool) :
    State.changesOnly [.bays, .rw, .cu, .nu, .pu] s (s.reportEntry k ab) := by
  unfold State.reportEntry
  split
  · exact changesOnly_mono (receiptComplete_frame ..) rfl
  · exact changesOnly_mono (replyComplete_frame ..) rfl
  all_goals exact changesOnly_refl ..

theorem attemptDone_frame (s : State) (e : Entry) (rest : List Entry) (ok : Bool) :
    State.changesOnly [.bays, .rw, .cu, .el, .nu, .pu] s (s.attemptDone e rest ok) := by
  unfold State.attemptDone
  repeat' split
  · exact changesOnly_comp (popHead_frame ..) (reportEntry_frame ..) rfl
  · exact changesOnly_mono (pu_frame ..) rfl
  · exact changesOnly_comp (changesOnly_comp (rs := [.el, .nu, .pu]) (popHead_frame ..) (memoryFault_frame ..) rfl)
      (reportEntry_frame ..) rfl

theorem nextSweep_frame (s : State) (k : Nat) : State.changesOnly [.bays, .cu, .el, .nu, .pu] s (s.nextSweep k) := by
  unfold State.nextSweep
  split
  · exact changesOnly_mono (requestRead_frame ..) rfl
  · exact changesOnly_comp (changesOnly_comp (rs := [.cu, .pu]) (pu_frame ..) (tryFetch_frame ..) rfl) (acceptHeld_frame ..) rfl

/-! ## The settings and the end of STARTING -/

theorem requestSettings_frame (s : State) (op : SettingsOp) : State.changesOnly [.sp] s (s.requestSettings op) := sp_frame ..

theorem endSettings_frame (s : State) : State.changesOnly [.sp] s s.endSettings := sp_frame ..

theorem replySettings_frame (s : State) (r : Reply) : State.changesOnly [.cu, .pu] s (s.replySettings r) := by
  unfold State.replySettings
  split
  · exact queueReply_frame ..
  all_goals exact changesOnly_refl ..

theorem takeImage_frame (s : State) (f : Preloaded) :
    State.changesOnly [.meterConfig, .bays, .pairs, .al, .sw, .rw, .nu, .el, .pu] s (s.takeImage f) := by
  unfold State.takeImage
  refine changesOnly_comp (ps := [.meterConfig, .bays, .pairs, .al, .sw, .rw, .nu, .el, .pu]) ?_ (releaseVectors_frame _) rfl
  constructor; intro k hk; cases k <;> first | rfl | simp at hk

theorem recordStart_frame (s : State) (ok : Bool) (f : Preloaded) :
    State.changesOnly [.sp, .el, .nu, .pu] s (s.recordStart ok f) := by
  have h : State.changesOnly [.el, .nu, .pu] s (f.bad.foldl (fun u d => u.record { kind := .settingsBad, detail := field d }) s) :=
    changesOnly_foldl (ps := [.el, .nu, .pu]) _ (fun t d => record_frame ..) ..
  unfold State.recordStart
  dsimp only
  split
  · exact changesOnly_mono h rfl
  · exact changesOnly_comp (changesOnly_comp (rs := [.sp, .el, .nu, .pu]) h (sp_frame ..) rfl) (record_frame ..) rfl

theorem watchAll_frame (s : State) : State.changesOnly [.bays] s s.watchAll :=
  changesOnly_foldl (ps := [.bays]) _ watchFeedback_frame ..

theorem endStarting_frame (s : State) (ok : Bool) (order : List Nat) :
    State.changesOnly (touchedBy (.startingEnd ok order)) s (s.endStarting ok order) := by
  unfold State.endStarting
  dsimp only
  refine changesOnly_comp (ps := touchedBy (.startingEnd ok order)) ?_ (acceptHeld_frame _) rfl
  refine changesOnly_comp (ps := touchedBy (.startingEnd ok order)) ?_ (boundary_plain_frame _ _ _) rfl
  refine changesOnly_comp (ps := touchedBy (.startingEnd ok order)) ?_ (watchAll_frame _) rfl
  refine changesOnly_comp (ps := touchedBy (.startingEnd ok order)) ?_ (batteryEvent_frame _ _) rfl
  refine changesOnly_comp (ps := touchedBy (.startingEnd ok order)) ?_ (recordStart_frame _ _ _) rfl
  exact changesOnly_comp (endSettings_frame _) (takeImage_frame _ _) rfl

/-! ## The effects of the ring commands -/

theorem sessionCommand_frame {ps : List Part} (s : State) (bay : Byte) (n : Word) (act : Fin 12 → State × Option Reply)
    (h : ∀ b, State.changesOnly ps s (act b).1) : State.changesOnly ps s (sessionCommand bay n act s).1 := by
  unfold sessionCommand refuse
  repeat' split
  all_goals (try dsimp only)
  all_goals first | exact changesOnly_refl _ s | exact h _

theorem authoriseEffect_frame (bay : Byte) (cls quota : Word) (reference : BitVec 128) (s : State) :
    State.changesOnly [.bays, .nextSession, .rw, .nu, .pu] s (authoriseEffect bay cls quota reference s).1 := by
  unfold authoriseEffect refuse
  repeat' split
  all_goals (try dsimp only)
  all_goals first | exact changesOnly_refl _ s | exact authorised_frame s _ _ _ _

theorem stopEffect_frame (bay : Byte) (session : Word) (s : State) :
    State.changesOnly [.bays, .channels, .rw, .nu, .pu] s (stopEffect bay session s).1 := by
  exact sessionCommand_frame _ _ _ _ fun b => enterStopping_frame s _ _

theorem extendQuotaEffect_frame (bay : Byte) (session amount : Word) (s : State) :
    State.changesOnly [.bays] s (extendQuotaEffect bay session amount s).1 := by
  unfold extendQuotaEffect refuse
  split
  · exact changesOnly_refl _ s
  refine sessionCommand_frame _ _ _ _ fun b => ?_
  unfold State.extendQuota refuse
  dsimp only
  repeat' split
  all_goals (try dsimp only)
  all_goals first | exact changesOnly_refl _ s | exact onBay_frame s _ _

theorem releaseConfirmEffect_frame (bay : Byte) (session : Word) (s : State) :
    State.changesOnly [.bays, .channels, .rw, .nu, .pu] s (releaseConfirmEffect bay session s).1 := by
  refine sessionCommand_frame _ _ _ _ fun b => ?_
  split
  · exact enterStopping_frame s _ _
  · exact changesOnly_refl _ s

theorem releaseCancelEffect_frame (bay : Byte) (session : Word) (s : State) :
    State.changesOnly [.bays] s (releaseCancelEffect bay session s).1 := by
  refine sessionCommand_frame _ _ _ _ fun b => ?_
  split
  · exact cancelRelease_frame s _
  · exact changesOnly_refl _ s

theorem maintenanceOnEffect_frame (bay : Byte) (pattern : Word) (s : State) :
    State.changesOnly [.bays] s (maintenanceOnEffect bay pattern s).1 := by
  unfold maintenanceOnEffect refuse finish
  split
  all_goals (try dsimp only)
  all_goals first | exact changesOnly_refl _ s | exact onBay_frame s _ _

theorem maintenanceOffEffect_frame (bay : Byte) (pattern : Word) (s : State) :
    State.changesOnly [.bays, .nu, .pu] s (maintenanceOffEffect bay pattern s).1 := by
  unfold maintenanceOffEffect refuse finish
  split
  all_goals (try dsimp only)
  all_goals first | exact changesOnly_refl _ s | exact endMaintenance_frame s _

theorem clearBayEffect_frame (bay : Byte) (s : State) :
    State.changesOnly [.bays] s (clearBayEffect bay s).1 := by
  unfold clearBayEffect refuse finish
  repeat' split
  all_goals (try dsimp only)
  all_goals first | exact changesOnly_refl _ s | exact changesOnly_trans (onBay_frame s _ _) (watchFeedback_frame _ _)

theorem setBayEffect_frame (bay : Byte) (pmin pmax stopDelay releaseWindow idleTimeout cap pairWord : Word) (s : State) :
    State.changesOnly [.bays, .pairs] s (setBayEffect bay pmin pmax stopDelay releaseWindow idleTimeout cap pairWord s).1 := by
  unfold setBayEffect refuse finish
  dsimp only
  repeat' split
  all_goals (try dsimp only)
  all_goals first | exact changesOnly_refl _ s | exact changesOnly_comp (onBay_frame s _ _) (setPair_frame _ _ _) rfl

theorem setSiteEffect_frame (limit period : Word) (s : State) :
    State.changesOnly [.al] s (setSiteEffect limit period s).1 := by
  unfold setSiteEffect refuse finish
  split
  all_goals (try dsimp only)
  all_goals first | exact changesOnly_refl _ s | exact al_frame s _

theorem setSupplyMapEffect_frame (priority standard economy : Word) (s : State) :
    State.changesOnly [.al] s (setSupplyMapEffect priority standard economy s).1 := by
  unfold setSupplyMapEffect refuse finish
  split
  all_goals (try dsimp only)
  all_goals first | exact changesOnly_refl _ s | exact al_frame s _

theorem setBatteryEffect_frame (cap reserve cmax dmax : Word) (s : State) :
    State.changesOnly [.ba, .nu, .pu] s (setBatteryEffect cap reserve cmax dmax s).1 := by
  unfold setBatteryEffect refuse
  split
  all_goals (try dsimp only)
  all_goals first | exact changesOnly_refl _ s | exact batteryEvent_frame s _

theorem setTimeEffect_frame (time : Word) (s : State) :
    State.changesOnly [.clock] s (setTimeEffect time s).1 := by
  exact clock_frame s _

theorem collectEffect_frame (sequence : Word) (s : State) :
    State.changesOnly [.rw] s (collectEffect sequence s).1 := by
  unfold collectEffect
  dsimp only
  split
  · exact changesOnly_refl _ s
  · exact rw_frame s _

theorem setReceiptWindowEffect_frame (base slots lowWater : Word) (s : State) :
    State.changesOnly [.rw, .el, .nu, .pu] s (setReceiptWindowEffect base slots lowWater s).1 := by
  have h (r : ReceiptWriter) : State.changesOnly [.rw, .el, .nu, .pu] s { s with rw := r }.windowsChanged :=
    changesOnly_comp (rw_frame s r) (windowsChanged_frame _) rfl
  unfold setReceiptWindowEffect
  split
  · exact changesOnly_refl _ s
  split
  · exact changesOnly_refl _ s
  · dsimp only
    exact h _

theorem setSnapshotWindowEffect_frame (base stride decimation : Word) (s : State) :
    State.changesOnly [.sw, .el, .nu, .pu] s (setSnapshotWindowEffect base stride decimation s).1 := by
  have h (w : SnapshotWriter) : State.changesOnly [.sw, .el, .nu, .pu] s
      { s.removeEntries EntryKind.isSnapshot with sw := w }.windowsChanged :=
    changesOnly_comp (changesOnly_comp (rs := [.pu, .sw]) (removeEntries_frame s EntryKind.isSnapshot)
      (sw_frame (s.removeEntries EntryKind.isSnapshot) w) rfl) (windowsChanged_frame _) rfl
  unfold setSnapshotWindowEffect refuse finish
  dsimp only
  split
  · exact changesOnly_refl _ s
  · dsimp only
    exact h _

/-! ## The boundary with a window change -/

theorem takeHeldWindow_frame (s : State) : State.changesOnly [.sw, .el, .nu, .pu, .cu] s s.takeHeldWindow := by
  unfold State.takeHeldWindow
  split
  · exact ringCommand_frame s _ _ (setSnapshotWindowEffect_frame ..) rfl
  all_goals exact changesOnly_refl ..

theorem boundary_frame (s : State) (p : Plan) (order : BoundaryOrder) :
    State.changesOnly [.bays, .channels, .al, .ba, .sw, .el, .nu, .pu, .cu] s (s.boundary p order) := by
  unfold State.boundary
  dsimp only
  split
  · exact changesOnly_comp (applyLatched_frame s p) (takeParts_frame ..) rfl
  · exact changesOnly_comp (rs := [.bays, .channels, .al, .ba, .sw, .el, .nu, .pu, .cu])
      (changesOnly_comp (rs := [.bays, .channels, .al, .ba, .sw, .el, .nu, .pu, .cu])
        (changesOnly_comp (rs := [.bays, .channels, .al, .ba, .el, .nu, .pu]) (applyLatched_frame s p) (takeParts_frame ..) rfl)
        (takeHeldWindow_frame _) rfl)
      (takeParts_frame ..) rfl

theorem causeMapEffect_frame (map : Word) (s : State) :
    State.changesOnly [.nu] s (causeMapEffect map s).1 := by
  have h (n : NoticeUnit) : State.changesOnly [.nu] s { s with nu := n } := nu_frame s n
  unfold causeMapEffect refuse finish
  split
  · dsimp only
    exact h _
  · exact changesOnly_refl _ s

theorem clearErrorsEffect_frame (kinds overflow : Word) (s : State) :
    State.changesOnly [.el] s (clearErrorsEffect kinds overflow s).1 := by
  unfold clearErrorsEffect refuse
  split
  all_goals (try dsimp only)
  all_goals first | exact changesOnly_refl _ s | exact el_frame s _

theorem ackErrorEffect_frame (s : State) :
    State.changesOnly [.el] s (ackErrorEffect s).1 := by
  unfold ackErrorEffect refuse
  split
  all_goals (try dsimp only)
  all_goals first | exact changesOnly_refl _ s | exact el_frame s _

theorem setErrorPolicyEffect_frame (masks holds : Word) (s : State) :
    State.changesOnly [.el, .nu, .pu] s (setErrorPolicyEffect masks holds s).1 := by
  unfold setErrorPolicyEffect refuse
  dsimp only
  repeat' split
  all_goals (try dsimp only)
  all_goals first
    | exact changesOnly_refl _ s
    | exact changesOnly_mono (el_frame s _) rfl
    | exact changesOnly_comp (el_frame s _) (fire_frame _ _) rfl

theorem clearHoldEffect_frame (s : State) :
    State.changesOnly [.el, .nu, .pu] s (clearHoldEffect s).1 := by
  unfold clearHoldEffect refuse finish
  repeat' split
  all_goals (try dsimp only)
  all_goals first
    | exact changesOnly_refl _ s
    | exact changesOnly_comp (el_frame s _) (fire_frame _ _) rfl

theorem settingsReadEffect_frame (offset : Word) (s : State) :
    State.changesOnly [.sp] s (settingsReadEffect offset s).1 := by
  unfold settingsReadEffect refuse
  split
  all_goals (try dsimp only)
  all_goals first | exact changesOnly_refl _ s | exact requestSettings_frame s _

theorem settingsWriteEffect_frame (offset data : Word) (s : State) :
    State.changesOnly [.sp] s (settingsWriteEffect offset data s).1 := by
  unfold settingsWriteEffect refuse
  repeat' split
  all_goals (try dsimp only)
  all_goals first | exact changesOnly_refl _ s | exact requestSettings_frame s _

end Sys2Proof.Machine
end

