-- ==== Sys2Proof/Laws/Fields.lean ====
section
/-! SUPPORT. The frames of the shared operations, said once for each field: what an operation leaves alone reads after it as
it read before. -/

namespace Sys2Proof.Machine

variable (s : State)

/-! ## fire -/

@[simp] theorem pending_fire (c : Cause) : (s.fire c).pending = s.pending :=
  ((fire_frame s c).same .pending (by decide)).symm
@[simp] theorem clock_fire (c : Cause) : (s.fire c).clock = s.clock :=
  ((fire_frame s c).same .clock (by decide)).symm
@[simp] theorem channels_fire (c : Cause) : (s.fire c).channels = s.channels :=
  ((fire_frame s c).same .channels (by decide)).symm
@[simp] theorem meterConfig_fire (c : Cause) : (s.fire c).meterConfig = s.meterConfig :=
  ((fire_frame s c).same .meterConfig (by decide)).symm
@[simp] theorem bays_fire (c : Cause) : (s.fire c).bays = s.bays :=
  ((fire_frame s c).same .bays (by decide)).symm
@[simp] theorem pairs_fire (c : Cause) : (s.fire c).pairs = s.pairs :=
  ((fire_frame s c).same .pairs (by decide)).symm
@[simp] theorem nextSession_fire (c : Cause) : (s.fire c).nextSession = s.nextSession :=
  ((fire_frame s c).same .nextSession (by decide)).symm
@[simp] theorem al_fire (c : Cause) : (s.fire c).al = s.al :=
  ((fire_frame s c).same .al (by decide)).symm
@[simp] theorem ba_fire (c : Cause) : (s.fire c).ba = s.ba :=
  ((fire_frame s c).same .ba (by decide)).symm
@[simp] theorem sw_fire (c : Cause) : (s.fire c).sw = s.sw :=
  ((fire_frame s c).same .sw (by decide)).symm
@[simp] theorem rw_fire (c : Cause) : (s.fire c).rw = s.rw :=
  ((fire_frame s c).same .rw (by decide)).symm
@[simp] theorem cu_fire (c : Cause) : (s.fire c).cu = s.cu :=
  ((fire_frame s c).same .cu (by decide)).symm
@[simp] theorem el_fire (c : Cause) : (s.fire c).el = s.el :=
  ((fire_frame s c).same .el (by decide)).symm
@[simp] theorem sp_fire (c : Cause) : (s.fire c).sp = s.sp :=
  ((fire_frame s c).same .sp (by decide)).symm
@[simp] theorem free_fire (c : Cause) : (s.fire c).free = s.free :=
  ((fire_frame s c).same .free (by decide)).symm

/-! ## record -/

@[simp] theorem pending_record (r : Recording) : (s.record r).pending = s.pending :=
  ((record_frame s r).same .pending (by decide)).symm
@[simp] theorem clock_record (r : Recording) : (s.record r).clock = s.clock :=
  ((record_frame s r).same .clock (by decide)).symm
@[simp] theorem channels_record (r : Recording) : (s.record r).channels = s.channels :=
  ((record_frame s r).same .channels (by decide)).symm
@[simp] theorem meterConfig_record (r : Recording) : (s.record r).meterConfig = s.meterConfig :=
  ((record_frame s r).same .meterConfig (by decide)).symm
@[simp] theorem bays_record (r : Recording) : (s.record r).bays = s.bays :=
  ((record_frame s r).same .bays (by decide)).symm
@[simp] theorem pairs_record (r : Recording) : (s.record r).pairs = s.pairs :=
  ((record_frame s r).same .pairs (by decide)).symm
@[simp] theorem nextSession_record (r : Recording) : (s.record r).nextSession = s.nextSession :=
  ((record_frame s r).same .nextSession (by decide)).symm
@[simp] theorem al_record (r : Recording) : (s.record r).al = s.al :=
  ((record_frame s r).same .al (by decide)).symm
@[simp] theorem ba_record (r : Recording) : (s.record r).ba = s.ba :=
  ((record_frame s r).same .ba (by decide)).symm
@[simp] theorem sw_record (r : Recording) : (s.record r).sw = s.sw :=
  ((record_frame s r).same .sw (by decide)).symm
@[simp] theorem rw_record (r : Recording) : (s.record r).rw = s.rw :=
  ((record_frame s r).same .rw (by decide)).symm
@[simp] theorem cu_record (r : Recording) : (s.record r).cu = s.cu :=
  ((record_frame s r).same .cu (by decide)).symm
@[simp] theorem sp_record (r : Recording) : (s.record r).sp = s.sp :=
  ((record_frame s r).same .sp (by decide)).symm
@[simp] theorem free_record (r : Recording) : (s.record r).free = s.free :=
  ((record_frame s r).same .free (by decide)).symm

/-! ## raise -/

@[simp] theorem pending_raise (b : Fin 12) (f : EventFlag) : (s.raise b f).pending = s.pending :=
  ((raise_frame s b f).same .pending (by decide)).symm
@[simp] theorem clock_raise (b : Fin 12) (f : EventFlag) : (s.raise b f).clock = s.clock :=
  ((raise_frame s b f).same .clock (by decide)).symm
@[simp] theorem channels_raise (b : Fin 12) (f : EventFlag) : (s.raise b f).channels = s.channels :=
  ((raise_frame s b f).same .channels (by decide)).symm
@[simp] theorem meterConfig_raise (b : Fin 12) (f : EventFlag) : (s.raise b f).meterConfig = s.meterConfig :=
  ((raise_frame s b f).same .meterConfig (by decide)).symm
@[simp] theorem pairs_raise (b : Fin 12) (f : EventFlag) : (s.raise b f).pairs = s.pairs :=
  ((raise_frame s b f).same .pairs (by decide)).symm
@[simp] theorem nextSession_raise (b : Fin 12) (f : EventFlag) : (s.raise b f).nextSession = s.nextSession :=
  ((raise_frame s b f).same .nextSession (by decide)).symm
@[simp] theorem al_raise (b : Fin 12) (f : EventFlag) : (s.raise b f).al = s.al :=
  ((raise_frame s b f).same .al (by decide)).symm
@[simp] theorem ba_raise (b : Fin 12) (f : EventFlag) : (s.raise b f).ba = s.ba :=
  ((raise_frame s b f).same .ba (by decide)).symm
@[simp] theorem sw_raise (b : Fin 12) (f : EventFlag) : (s.raise b f).sw = s.sw :=
  ((raise_frame s b f).same .sw (by decide)).symm
@[simp] theorem rw_raise (b : Fin 12) (f : EventFlag) : (s.raise b f).rw = s.rw :=
  ((raise_frame s b f).same .rw (by decide)).symm
@[simp] theorem cu_raise (b : Fin 12) (f : EventFlag) : (s.raise b f).cu = s.cu :=
  ((raise_frame s b f).same .cu (by decide)).symm
@[simp] theorem el_raise (b : Fin 12) (f : EventFlag) : (s.raise b f).el = s.el :=
  ((raise_frame s b f).same .el (by decide)).symm
@[simp] theorem sp_raise (b : Fin 12) (f : EventFlag) : (s.raise b f).sp = s.sp :=
  ((raise_frame s b f).same .sp (by decide)).symm
@[simp] theorem free_raise (b : Fin 12) (f : EventFlag) : (s.raise b f).free = s.free :=
  ((raise_frame s b f).same .free (by decide)).symm

/-! ## watchFeedback -/

@[simp] theorem pending_watchFeedback (b : Fin 12) : (s.watchFeedback b).pending = s.pending :=
  ((watchFeedback_frame s b).same .pending (by decide)).symm
@[simp] theorem clock_watchFeedback (b : Fin 12) : (s.watchFeedback b).clock = s.clock :=
  ((watchFeedback_frame s b).same .clock (by decide)).symm
@[simp] theorem channels_watchFeedback (b : Fin 12) : (s.watchFeedback b).channels = s.channels :=
  ((watchFeedback_frame s b).same .channels (by decide)).symm
@[simp] theorem meterConfig_watchFeedback (b : Fin 12) : (s.watchFeedback b).meterConfig = s.meterConfig :=
  ((watchFeedback_frame s b).same .meterConfig (by decide)).symm
@[simp] theorem pairs_watchFeedback (b : Fin 12) : (s.watchFeedback b).pairs = s.pairs :=
  ((watchFeedback_frame s b).same .pairs (by decide)).symm
@[simp] theorem nextSession_watchFeedback (b : Fin 12) : (s.watchFeedback b).nextSession = s.nextSession :=
  ((watchFeedback_frame s b).same .nextSession (by decide)).symm
@[simp] theorem al_watchFeedback (b : Fin 12) : (s.watchFeedback b).al = s.al :=
  ((watchFeedback_frame s b).same .al (by decide)).symm
@[simp] theorem ba_watchFeedback (b : Fin 12) : (s.watchFeedback b).ba = s.ba :=
  ((watchFeedback_frame s b).same .ba (by decide)).symm
@[simp] theorem sw_watchFeedback (b : Fin 12) : (s.watchFeedback b).sw = s.sw :=
  ((watchFeedback_frame s b).same .sw (by decide)).symm
@[simp] theorem rw_watchFeedback (b : Fin 12) : (s.watchFeedback b).rw = s.rw :=
  ((watchFeedback_frame s b).same .rw (by decide)).symm
@[simp] theorem pu_watchFeedback (b : Fin 12) : (s.watchFeedback b).pu = s.pu :=
  ((watchFeedback_frame s b).same .pu (by decide)).symm
@[simp] theorem cu_watchFeedback (b : Fin 12) : (s.watchFeedback b).cu = s.cu :=
  ((watchFeedback_frame s b).same .cu (by decide)).symm
@[simp] theorem nu_watchFeedback (b : Fin 12) : (s.watchFeedback b).nu = s.nu :=
  ((watchFeedback_frame s b).same .nu (by decide)).symm
@[simp] theorem el_watchFeedback (b : Fin 12) : (s.watchFeedback b).el = s.el :=
  ((watchFeedback_frame s b).same .el (by decide)).symm
@[simp] theorem sp_watchFeedback (b : Fin 12) : (s.watchFeedback b).sp = s.sp :=
  ((watchFeedback_frame s b).same .sp (by decide)).symm
@[simp] theorem free_watchFeedback (b : Fin 12) : (s.watchFeedback b).free = s.free :=
  ((watchFeedback_frame s b).same .free (by decide)).symm

/-! ## judgeFall -/

@[simp] theorem pending_judgeFall : (s.judgeFall).pending = s.pending :=
  ((judgeFall_frame s).same .pending (by decide)).symm
@[simp] theorem clock_judgeFall : (s.judgeFall).clock = s.clock :=
  ((judgeFall_frame s).same .clock (by decide)).symm
@[simp] theorem channels_judgeFall : (s.judgeFall).channels = s.channels :=
  ((judgeFall_frame s).same .channels (by decide)).symm
@[simp] theorem meterConfig_judgeFall : (s.judgeFall).meterConfig = s.meterConfig :=
  ((judgeFall_frame s).same .meterConfig (by decide)).symm
@[simp] theorem bays_judgeFall : (s.judgeFall).bays = s.bays :=
  ((judgeFall_frame s).same .bays (by decide)).symm
@[simp] theorem pairs_judgeFall : (s.judgeFall).pairs = s.pairs :=
  ((judgeFall_frame s).same .pairs (by decide)).symm
@[simp] theorem nextSession_judgeFall : (s.judgeFall).nextSession = s.nextSession :=
  ((judgeFall_frame s).same .nextSession (by decide)).symm
@[simp] theorem al_judgeFall : (s.judgeFall).al = s.al :=
  ((judgeFall_frame s).same .al (by decide)).symm
@[simp] theorem ba_judgeFall : (s.judgeFall).ba = s.ba :=
  ((judgeFall_frame s).same .ba (by decide)).symm
@[simp] theorem sw_judgeFall : (s.judgeFall).sw = s.sw :=
  ((judgeFall_frame s).same .sw (by decide)).symm
@[simp] theorem cu_judgeFall : (s.judgeFall).cu = s.cu :=
  ((judgeFall_frame s).same .cu (by decide)).symm
@[simp] theorem el_judgeFall : (s.judgeFall).el = s.el :=
  ((judgeFall_frame s).same .el (by decide)).symm
@[simp] theorem sp_judgeFall : (s.judgeFall).sp = s.sp :=
  ((judgeFall_frame s).same .sp (by decide)).symm
@[simp] theorem free_judgeFall : (s.judgeFall).free = s.free :=
  ((judgeFall_frame s).same .free (by decide)).symm

/-! ## reserve -/

@[simp] theorem pending_reserve : (s.reserve).pending = s.pending :=
  ((reserve_frame s).same .pending (by decide)).symm
@[simp] theorem clock_reserve : (s.reserve).clock = s.clock :=
  ((reserve_frame s).same .clock (by decide)).symm
@[simp] theorem channels_reserve : (s.reserve).channels = s.channels :=
  ((reserve_frame s).same .channels (by decide)).symm
@[simp] theorem meterConfig_reserve : (s.reserve).meterConfig = s.meterConfig :=
  ((reserve_frame s).same .meterConfig (by decide)).symm
@[simp] theorem bays_reserve : (s.reserve).bays = s.bays :=
  ((reserve_frame s).same .bays (by decide)).symm
@[simp] theorem pairs_reserve : (s.reserve).pairs = s.pairs :=
  ((reserve_frame s).same .pairs (by decide)).symm
@[simp] theorem nextSession_reserve : (s.reserve).nextSession = s.nextSession :=
  ((reserve_frame s).same .nextSession (by decide)).symm
@[simp] theorem al_reserve : (s.reserve).al = s.al :=
  ((reserve_frame s).same .al (by decide)).symm
@[simp] theorem ba_reserve : (s.reserve).ba = s.ba :=
  ((reserve_frame s).same .ba (by decide)).symm
@[simp] theorem sw_reserve : (s.reserve).sw = s.sw :=
  ((reserve_frame s).same .sw (by decide)).symm
@[simp] theorem cu_reserve : (s.reserve).cu = s.cu :=
  ((reserve_frame s).same .cu (by decide)).symm
@[simp] theorem el_reserve : (s.reserve).el = s.el :=
  ((reserve_frame s).same .el (by decide)).symm
@[simp] theorem sp_reserve : (s.reserve).sp = s.sp :=
  ((reserve_frame s).same .sp (by decide)).symm
@[simp] theorem free_reserve : (s.reserve).free = s.free :=
  ((reserve_frame s).same .free (by decide)).symm

/-! ## batteryEvent -/

@[simp] theorem pending_batteryEvent (b : BatteryAccount) : (s.batteryEvent b).pending = s.pending :=
  ((batteryEvent_frame s b).same .pending (by decide)).symm
@[simp] theorem clock_batteryEvent (b : BatteryAccount) : (s.batteryEvent b).clock = s.clock :=
  ((batteryEvent_frame s b).same .clock (by decide)).symm
@[simp] theorem channels_batteryEvent (b : BatteryAccount) : (s.batteryEvent b).channels = s.channels :=
  ((batteryEvent_frame s b).same .channels (by decide)).symm
@[simp] theorem meterConfig_batteryEvent (b : BatteryAccount) : (s.batteryEvent b).meterConfig = s.meterConfig :=
  ((batteryEvent_frame s b).same .meterConfig (by decide)).symm
@[simp] theorem bays_batteryEvent (b : BatteryAccount) : (s.batteryEvent b).bays = s.bays :=
  ((batteryEvent_frame s b).same .bays (by decide)).symm
@[simp] theorem pairs_batteryEvent (b : BatteryAccount) : (s.batteryEvent b).pairs = s.pairs :=
  ((batteryEvent_frame s b).same .pairs (by decide)).symm
@[simp] theorem nextSession_batteryEvent (b : BatteryAccount) : (s.batteryEvent b).nextSession = s.nextSession :=
  ((batteryEvent_frame s b).same .nextSession (by decide)).symm
@[simp] theorem al_batteryEvent (b : BatteryAccount) : (s.batteryEvent b).al = s.al :=
  ((batteryEvent_frame s b).same .al (by decide)).symm
@[simp] theorem sw_batteryEvent (b : BatteryAccount) : (s.batteryEvent b).sw = s.sw :=
  ((batteryEvent_frame s b).same .sw (by decide)).symm
@[simp] theorem rw_batteryEvent (b : BatteryAccount) : (s.batteryEvent b).rw = s.rw :=
  ((batteryEvent_frame s b).same .rw (by decide)).symm
@[simp] theorem cu_batteryEvent (b : BatteryAccount) : (s.batteryEvent b).cu = s.cu :=
  ((batteryEvent_frame s b).same .cu (by decide)).symm
@[simp] theorem el_batteryEvent (b : BatteryAccount) : (s.batteryEvent b).el = s.el :=
  ((batteryEvent_frame s b).same .el (by decide)).symm
@[simp] theorem sp_batteryEvent (b : BatteryAccount) : (s.batteryEvent b).sp = s.sp :=
  ((batteryEvent_frame s b).same .sp (by decide)).symm
@[simp] theorem free_batteryEvent (b : BatteryAccount) : (s.batteryEvent b).free = s.free :=
  ((batteryEvent_frame s b).same .free (by decide)).symm

/-! ## enterIssuing -/

@[simp] theorem pending_enterIssuing (b : Fin 12) : (s.enterIssuing b).pending = s.pending :=
  ((enterIssuing_frame s b).same .pending (by decide)).symm
@[simp] theorem clock_enterIssuing (b : Fin 12) : (s.enterIssuing b).clock = s.clock :=
  ((enterIssuing_frame s b).same .clock (by decide)).symm
@[simp] theorem meterConfig_enterIssuing (b : Fin 12) : (s.enterIssuing b).meterConfig = s.meterConfig :=
  ((enterIssuing_frame s b).same .meterConfig (by decide)).symm
@[simp] theorem pairs_enterIssuing (b : Fin 12) : (s.enterIssuing b).pairs = s.pairs :=
  ((enterIssuing_frame s b).same .pairs (by decide)).symm
@[simp] theorem nextSession_enterIssuing (b : Fin 12) : (s.enterIssuing b).nextSession = s.nextSession :=
  ((enterIssuing_frame s b).same .nextSession (by decide)).symm
@[simp] theorem al_enterIssuing (b : Fin 12) : (s.enterIssuing b).al = s.al :=
  ((enterIssuing_frame s b).same .al (by decide)).symm
@[simp] theorem ba_enterIssuing (b : Fin 12) : (s.enterIssuing b).ba = s.ba :=
  ((enterIssuing_frame s b).same .ba (by decide)).symm
@[simp] theorem sw_enterIssuing (b : Fin 12) : (s.enterIssuing b).sw = s.sw :=
  ((enterIssuing_frame s b).same .sw (by decide)).symm
@[simp] theorem cu_enterIssuing (b : Fin 12) : (s.enterIssuing b).cu = s.cu :=
  ((enterIssuing_frame s b).same .cu (by decide)).symm
@[simp] theorem nu_enterIssuing (b : Fin 12) : (s.enterIssuing b).nu = s.nu :=
  ((enterIssuing_frame s b).same .nu (by decide)).symm
@[simp] theorem el_enterIssuing (b : Fin 12) : (s.enterIssuing b).el = s.el :=
  ((enterIssuing_frame s b).same .el (by decide)).symm
@[simp] theorem sp_enterIssuing (b : Fin 12) : (s.enterIssuing b).sp = s.sp :=
  ((enterIssuing_frame s b).same .sp (by decide)).symm
@[simp] theorem free_enterIssuing (b : Fin 12) : (s.enterIssuing b).free = s.free :=
  ((enterIssuing_frame s b).same .free (by decide)).symm

/-! ## judgeIssuing -/

@[simp] theorem pending_judgeIssuing (b : Fin 12) : (s.judgeIssuing b).pending = s.pending :=
  ((judgeIssuing_frame s b).same .pending (by decide)).symm
@[simp] theorem clock_judgeIssuing (b : Fin 12) : (s.judgeIssuing b).clock = s.clock :=
  ((judgeIssuing_frame s b).same .clock (by decide)).symm
@[simp] theorem meterConfig_judgeIssuing (b : Fin 12) : (s.judgeIssuing b).meterConfig = s.meterConfig :=
  ((judgeIssuing_frame s b).same .meterConfig (by decide)).symm
@[simp] theorem pairs_judgeIssuing (b : Fin 12) : (s.judgeIssuing b).pairs = s.pairs :=
  ((judgeIssuing_frame s b).same .pairs (by decide)).symm
@[simp] theorem nextSession_judgeIssuing (b : Fin 12) : (s.judgeIssuing b).nextSession = s.nextSession :=
  ((judgeIssuing_frame s b).same .nextSession (by decide)).symm
@[simp] theorem al_judgeIssuing (b : Fin 12) : (s.judgeIssuing b).al = s.al :=
  ((judgeIssuing_frame s b).same .al (by decide)).symm
@[simp] theorem ba_judgeIssuing (b : Fin 12) : (s.judgeIssuing b).ba = s.ba :=
  ((judgeIssuing_frame s b).same .ba (by decide)).symm
@[simp] theorem sw_judgeIssuing (b : Fin 12) : (s.judgeIssuing b).sw = s.sw :=
  ((judgeIssuing_frame s b).same .sw (by decide)).symm
@[simp] theorem cu_judgeIssuing (b : Fin 12) : (s.judgeIssuing b).cu = s.cu :=
  ((judgeIssuing_frame s b).same .cu (by decide)).symm
@[simp] theorem nu_judgeIssuing (b : Fin 12) : (s.judgeIssuing b).nu = s.nu :=
  ((judgeIssuing_frame s b).same .nu (by decide)).symm
@[simp] theorem el_judgeIssuing (b : Fin 12) : (s.judgeIssuing b).el = s.el :=
  ((judgeIssuing_frame s b).same .el (by decide)).symm
@[simp] theorem sp_judgeIssuing (b : Fin 12) : (s.judgeIssuing b).sp = s.sp :=
  ((judgeIssuing_frame s b).same .sp (by decide)).symm
@[simp] theorem free_judgeIssuing (b : Fin 12) : (s.judgeIssuing b).free = s.free :=
  ((judgeIssuing_frame s b).same .free (by decide)).symm

/-! ## enterStopping -/

@[simp] theorem pending_enterStopping (b : Fin 12) (c : StopCause) : (s.enterStopping b c).pending = s.pending :=
  ((enterStopping_frame s b c).same .pending (by decide)).symm
@[simp] theorem clock_enterStopping (b : Fin 12) (c : StopCause) : (s.enterStopping b c).clock = s.clock :=
  ((enterStopping_frame s b c).same .clock (by decide)).symm
@[simp] theorem meterConfig_enterStopping (b : Fin 12) (c : StopCause) : (s.enterStopping b c).meterConfig = s.meterConfig :=
  ((enterStopping_frame s b c).same .meterConfig (by decide)).symm
@[simp] theorem pairs_enterStopping (b : Fin 12) (c : StopCause) : (s.enterStopping b c).pairs = s.pairs :=
  ((enterStopping_frame s b c).same .pairs (by decide)).symm
@[simp] theorem nextSession_enterStopping (b : Fin 12) (c : StopCause) : (s.enterStopping b c).nextSession = s.nextSession :=
  ((enterStopping_frame s b c).same .nextSession (by decide)).symm
@[simp] theorem al_enterStopping (b : Fin 12) (c : StopCause) : (s.enterStopping b c).al = s.al :=
  ((enterStopping_frame s b c).same .al (by decide)).symm
@[simp] theorem ba_enterStopping (b : Fin 12) (c : StopCause) : (s.enterStopping b c).ba = s.ba :=
  ((enterStopping_frame s b c).same .ba (by decide)).symm
@[simp] theorem sw_enterStopping (b : Fin 12) (c : StopCause) : (s.enterStopping b c).sw = s.sw :=
  ((enterStopping_frame s b c).same .sw (by decide)).symm
@[simp] theorem cu_enterStopping (b : Fin 12) (c : StopCause) : (s.enterStopping b c).cu = s.cu :=
  ((enterStopping_frame s b c).same .cu (by decide)).symm
@[simp] theorem el_enterStopping (b : Fin 12) (c : StopCause) : (s.enterStopping b c).el = s.el :=
  ((enterStopping_frame s b c).same .el (by decide)).symm
@[simp] theorem sp_enterStopping (b : Fin 12) (c : StopCause) : (s.enterStopping b c).sp = s.sp :=
  ((enterStopping_frame s b c).same .sp (by decide)).symm
@[simp] theorem free_enterStopping (b : Fin 12) (c : StopCause) : (s.enterStopping b c).free = s.free :=
  ((enterStopping_frame s b c).same .free (by decide)).symm

/-! ## takePlan -/

@[simp] theorem pending_takePlan (b : Fin 12) (p : PlanBay) : (s.takePlan b p).pending = s.pending :=
  ((takePlan_frame s b p).same .pending (by decide)).symm
@[simp] theorem clock_takePlan (b : Fin 12) (p : PlanBay) : (s.takePlan b p).clock = s.clock :=
  ((takePlan_frame s b p).same .clock (by decide)).symm
@[simp] theorem meterConfig_takePlan (b : Fin 12) (p : PlanBay) : (s.takePlan b p).meterConfig = s.meterConfig :=
  ((takePlan_frame s b p).same .meterConfig (by decide)).symm
@[simp] theorem pairs_takePlan (b : Fin 12) (p : PlanBay) : (s.takePlan b p).pairs = s.pairs :=
  ((takePlan_frame s b p).same .pairs (by decide)).symm
@[simp] theorem nextSession_takePlan (b : Fin 12) (p : PlanBay) : (s.takePlan b p).nextSession = s.nextSession :=
  ((takePlan_frame s b p).same .nextSession (by decide)).symm
@[simp] theorem al_takePlan (b : Fin 12) (p : PlanBay) : (s.takePlan b p).al = s.al :=
  ((takePlan_frame s b p).same .al (by decide)).symm
@[simp] theorem ba_takePlan (b : Fin 12) (p : PlanBay) : (s.takePlan b p).ba = s.ba :=
  ((takePlan_frame s b p).same .ba (by decide)).symm
@[simp] theorem sw_takePlan (b : Fin 12) (p : PlanBay) : (s.takePlan b p).sw = s.sw :=
  ((takePlan_frame s b p).same .sw (by decide)).symm
@[simp] theorem rw_takePlan (b : Fin 12) (p : PlanBay) : (s.takePlan b p).rw = s.rw :=
  ((takePlan_frame s b p).same .rw (by decide)).symm
@[simp] theorem cu_takePlan (b : Fin 12) (p : PlanBay) : (s.takePlan b p).cu = s.cu :=
  ((takePlan_frame s b p).same .cu (by decide)).symm
@[simp] theorem el_takePlan (b : Fin 12) (p : PlanBay) : (s.takePlan b p).el = s.el :=
  ((takePlan_frame s b p).same .el (by decide)).symm
@[simp] theorem sp_takePlan (b : Fin 12) (p : PlanBay) : (s.takePlan b p).sp = s.sp :=
  ((takePlan_frame s b p).same .sp (by decide)).symm
@[simp] theorem free_takePlan (b : Fin 12) (p : PlanBay) : (s.takePlan b p).free = s.free :=
  ((takePlan_frame s b p).same .free (by decide)).symm

/-! ## releaseVectors -/

@[simp] theorem pending_releaseVectors : (s.releaseVectors).pending = s.pending :=
  ((releaseVectors_frame s).same .pending (by decide)).symm
@[simp] theorem clock_releaseVectors : (s.releaseVectors).clock = s.clock :=
  ((releaseVectors_frame s).same .clock (by decide)).symm
@[simp] theorem channels_releaseVectors : (s.releaseVectors).channels = s.channels :=
  ((releaseVectors_frame s).same .channels (by decide)).symm
@[simp] theorem meterConfig_releaseVectors : (s.releaseVectors).meterConfig = s.meterConfig :=
  ((releaseVectors_frame s).same .meterConfig (by decide)).symm
@[simp] theorem bays_releaseVectors : (s.releaseVectors).bays = s.bays :=
  ((releaseVectors_frame s).same .bays (by decide)).symm
@[simp] theorem pairs_releaseVectors : (s.releaseVectors).pairs = s.pairs :=
  ((releaseVectors_frame s).same .pairs (by decide)).symm
@[simp] theorem nextSession_releaseVectors : (s.releaseVectors).nextSession = s.nextSession :=
  ((releaseVectors_frame s).same .nextSession (by decide)).symm
@[simp] theorem al_releaseVectors : (s.releaseVectors).al = s.al :=
  ((releaseVectors_frame s).same .al (by decide)).symm
@[simp] theorem ba_releaseVectors : (s.releaseVectors).ba = s.ba :=
  ((releaseVectors_frame s).same .ba (by decide)).symm
@[simp] theorem sw_releaseVectors : (s.releaseVectors).sw = s.sw :=
  ((releaseVectors_frame s).same .sw (by decide)).symm
@[simp] theorem rw_releaseVectors : (s.releaseVectors).rw = s.rw :=
  ((releaseVectors_frame s).same .rw (by decide)).symm
@[simp] theorem cu_releaseVectors : (s.releaseVectors).cu = s.cu :=
  ((releaseVectors_frame s).same .cu (by decide)).symm
@[simp] theorem el_releaseVectors : (s.releaseVectors).el = s.el :=
  ((releaseVectors_frame s).same .el (by decide)).symm
@[simp] theorem sp_releaseVectors : (s.releaseVectors).sp = s.sp :=
  ((releaseVectors_frame s).same .sp (by decide)).symm
@[simp] theorem free_releaseVectors : (s.releaseVectors).free = s.free :=
  ((releaseVectors_frame s).same .free (by decide)).symm

/-! ## windowsChanged -/

@[simp] theorem pending_windowsChanged : (s.windowsChanged).pending = s.pending :=
  ((windowsChanged_frame s).same .pending (by decide)).symm
@[simp] theorem clock_windowsChanged : (s.windowsChanged).clock = s.clock :=
  ((windowsChanged_frame s).same .clock (by decide)).symm
@[simp] theorem channels_windowsChanged : (s.windowsChanged).channels = s.channels :=
  ((windowsChanged_frame s).same .channels (by decide)).symm
@[simp] theorem meterConfig_windowsChanged : (s.windowsChanged).meterConfig = s.meterConfig :=
  ((windowsChanged_frame s).same .meterConfig (by decide)).symm
@[simp] theorem bays_windowsChanged : (s.windowsChanged).bays = s.bays :=
  ((windowsChanged_frame s).same .bays (by decide)).symm
@[simp] theorem pairs_windowsChanged : (s.windowsChanged).pairs = s.pairs :=
  ((windowsChanged_frame s).same .pairs (by decide)).symm
@[simp] theorem nextSession_windowsChanged : (s.windowsChanged).nextSession = s.nextSession :=
  ((windowsChanged_frame s).same .nextSession (by decide)).symm
@[simp] theorem al_windowsChanged : (s.windowsChanged).al = s.al :=
  ((windowsChanged_frame s).same .al (by decide)).symm
@[simp] theorem ba_windowsChanged : (s.windowsChanged).ba = s.ba :=
  ((windowsChanged_frame s).same .ba (by decide)).symm
@[simp] theorem sw_windowsChanged : (s.windowsChanged).sw = s.sw :=
  ((windowsChanged_frame s).same .sw (by decide)).symm
@[simp] theorem rw_windowsChanged : (s.windowsChanged).rw = s.rw :=
  ((windowsChanged_frame s).same .rw (by decide)).symm
@[simp] theorem cu_windowsChanged : (s.windowsChanged).cu = s.cu :=
  ((windowsChanged_frame s).same .cu (by decide)).symm
@[simp] theorem sp_windowsChanged : (s.windowsChanged).sp = s.sp :=
  ((windowsChanged_frame s).same .sp (by decide)).symm
@[simp] theorem free_windowsChanged : (s.windowsChanged).free = s.free :=
  ((windowsChanged_frame s).same .free (by decide)).symm

/-! ## removeEntries -/

@[simp] theorem pending_removeEntries (d : EntryKind → Bool) : (s.removeEntries d).pending = s.pending :=
  ((removeEntries_frame s d).same .pending (by decide)).symm
@[simp] theorem clock_removeEntries (d : EntryKind → Bool) : (s.removeEntries d).clock = s.clock :=
  ((removeEntries_frame s d).same .clock (by decide)).symm
@[simp] theorem channels_removeEntries (d : EntryKind → Bool) : (s.removeEntries d).channels = s.channels :=
  ((removeEntries_frame s d).same .channels (by decide)).symm
@[simp] theorem meterConfig_removeEntries (d : EntryKind → Bool) : (s.removeEntries d).meterConfig = s.meterConfig :=
  ((removeEntries_frame s d).same .meterConfig (by decide)).symm
@[simp] theorem bays_removeEntries (d : EntryKind → Bool) : (s.removeEntries d).bays = s.bays :=
  ((removeEntries_frame s d).same .bays (by decide)).symm
@[simp] theorem pairs_removeEntries (d : EntryKind → Bool) : (s.removeEntries d).pairs = s.pairs :=
  ((removeEntries_frame s d).same .pairs (by decide)).symm
@[simp] theorem nextSession_removeEntries (d : EntryKind → Bool) : (s.removeEntries d).nextSession = s.nextSession :=
  ((removeEntries_frame s d).same .nextSession (by decide)).symm
@[simp] theorem al_removeEntries (d : EntryKind → Bool) : (s.removeEntries d).al = s.al :=
  ((removeEntries_frame s d).same .al (by decide)).symm
@[simp] theorem ba_removeEntries (d : EntryKind → Bool) : (s.removeEntries d).ba = s.ba :=
  ((removeEntries_frame s d).same .ba (by decide)).symm
@[simp] theorem sw_removeEntries (d : EntryKind → Bool) : (s.removeEntries d).sw = s.sw :=
  ((removeEntries_frame s d).same .sw (by decide)).symm
@[simp] theorem rw_removeEntries (d : EntryKind → Bool) : (s.removeEntries d).rw = s.rw :=
  ((removeEntries_frame s d).same .rw (by decide)).symm
@[simp] theorem cu_removeEntries (d : EntryKind → Bool) : (s.removeEntries d).cu = s.cu :=
  ((removeEntries_frame s d).same .cu (by decide)).symm
@[simp] theorem nu_removeEntries (d : EntryKind → Bool) : (s.removeEntries d).nu = s.nu :=
  ((removeEntries_frame s d).same .nu (by decide)).symm
@[simp] theorem el_removeEntries (d : EntryKind → Bool) : (s.removeEntries d).el = s.el :=
  ((removeEntries_frame s d).same .el (by decide)).symm
@[simp] theorem sp_removeEntries (d : EntryKind → Bool) : (s.removeEntries d).sp = s.sp :=
  ((removeEntries_frame s d).same .sp (by decide)).symm
@[simp] theorem free_removeEntries (d : EntryKind → Bool) : (s.removeEntries d).free = s.free :=
  ((removeEntries_frame s d).same .free (by decide)).symm

/-! ## popHead -/

@[simp] theorem pending_popHead : (s.popHead).pending = s.pending :=
  ((popHead_frame s).same .pending (by decide)).symm
@[simp] theorem clock_popHead : (s.popHead).clock = s.clock :=
  ((popHead_frame s).same .clock (by decide)).symm
@[simp] theorem channels_popHead : (s.popHead).channels = s.channels :=
  ((popHead_frame s).same .channels (by decide)).symm
@[simp] theorem meterConfig_popHead : (s.popHead).meterConfig = s.meterConfig :=
  ((popHead_frame s).same .meterConfig (by decide)).symm
@[simp] theorem bays_popHead : (s.popHead).bays = s.bays :=
  ((popHead_frame s).same .bays (by decide)).symm
@[simp] theorem pairs_popHead : (s.popHead).pairs = s.pairs :=
  ((popHead_frame s).same .pairs (by decide)).symm
@[simp] theorem nextSession_popHead : (s.popHead).nextSession = s.nextSession :=
  ((popHead_frame s).same .nextSession (by decide)).symm
@[simp] theorem al_popHead : (s.popHead).al = s.al :=
  ((popHead_frame s).same .al (by decide)).symm
@[simp] theorem ba_popHead : (s.popHead).ba = s.ba :=
  ((popHead_frame s).same .ba (by decide)).symm
@[simp] theorem sw_popHead : (s.popHead).sw = s.sw :=
  ((popHead_frame s).same .sw (by decide)).symm
@[simp] theorem rw_popHead : (s.popHead).rw = s.rw :=
  ((popHead_frame s).same .rw (by decide)).symm
@[simp] theorem cu_popHead : (s.popHead).cu = s.cu :=
  ((popHead_frame s).same .cu (by decide)).symm
@[simp] theorem nu_popHead : (s.popHead).nu = s.nu :=
  ((popHead_frame s).same .nu (by decide)).symm
@[simp] theorem el_popHead : (s.popHead).el = s.el :=
  ((popHead_frame s).same .el (by decide)).symm
@[simp] theorem sp_popHead : (s.popHead).sp = s.sp :=
  ((popHead_frame s).same .sp (by decide)).symm
@[simp] theorem free_popHead : (s.popHead).free = s.free :=
  ((popHead_frame s).same .free (by decide)).symm

/-! ## judgeHit -/

@[simp] theorem pending_judgeHit (a : Access) : (s.judgeHit a).pending = s.pending :=
  ((judgeHit_frame s a).same .pending (by decide)).symm
@[simp] theorem clock_judgeHit (a : Access) : (s.judgeHit a).clock = s.clock :=
  ((judgeHit_frame s a).same .clock (by decide)).symm
@[simp] theorem channels_judgeHit (a : Access) : (s.judgeHit a).channels = s.channels :=
  ((judgeHit_frame s a).same .channels (by decide)).symm
@[simp] theorem meterConfig_judgeHit (a : Access) : (s.judgeHit a).meterConfig = s.meterConfig :=
  ((judgeHit_frame s a).same .meterConfig (by decide)).symm
@[simp] theorem bays_judgeHit (a : Access) : (s.judgeHit a).bays = s.bays :=
  ((judgeHit_frame s a).same .bays (by decide)).symm
@[simp] theorem pairs_judgeHit (a : Access) : (s.judgeHit a).pairs = s.pairs :=
  ((judgeHit_frame s a).same .pairs (by decide)).symm
@[simp] theorem nextSession_judgeHit (a : Access) : (s.judgeHit a).nextSession = s.nextSession :=
  ((judgeHit_frame s a).same .nextSession (by decide)).symm
@[simp] theorem al_judgeHit (a : Access) : (s.judgeHit a).al = s.al :=
  ((judgeHit_frame s a).same .al (by decide)).symm
@[simp] theorem ba_judgeHit (a : Access) : (s.judgeHit a).ba = s.ba :=
  ((judgeHit_frame s a).same .ba (by decide)).symm
@[simp] theorem sw_judgeHit (a : Access) : (s.judgeHit a).sw = s.sw :=
  ((judgeHit_frame s a).same .sw (by decide)).symm
@[simp] theorem rw_judgeHit (a : Access) : (s.judgeHit a).rw = s.rw :=
  ((judgeHit_frame s a).same .rw (by decide)).symm
@[simp] theorem cu_judgeHit (a : Access) : (s.judgeHit a).cu = s.cu :=
  ((judgeHit_frame s a).same .cu (by decide)).symm
@[simp] theorem nu_judgeHit (a : Access) : (s.judgeHit a).nu = s.nu :=
  ((judgeHit_frame s a).same .nu (by decide)).symm
@[simp] theorem el_judgeHit (a : Access) : (s.judgeHit a).el = s.el :=
  ((judgeHit_frame s a).same .el (by decide)).symm
@[simp] theorem sp_judgeHit (a : Access) : (s.judgeHit a).sp = s.sp :=
  ((judgeHit_frame s a).same .sp (by decide)).symm
@[simp] theorem free_judgeHit (a : Access) : (s.judgeHit a).free = s.free :=
  ((judgeHit_frame s a).same .free (by decide)).symm

/-! ## tryFetch -/

@[simp] theorem pending_tryFetch : (s.tryFetch).pending = s.pending :=
  ((tryFetch_frame s).same .pending (by decide)).symm
@[simp] theorem clock_tryFetch : (s.tryFetch).clock = s.clock :=
  ((tryFetch_frame s).same .clock (by decide)).symm
@[simp] theorem channels_tryFetch : (s.tryFetch).channels = s.channels :=
  ((tryFetch_frame s).same .channels (by decide)).symm
@[simp] theorem meterConfig_tryFetch : (s.tryFetch).meterConfig = s.meterConfig :=
  ((tryFetch_frame s).same .meterConfig (by decide)).symm
@[simp] theorem bays_tryFetch : (s.tryFetch).bays = s.bays :=
  ((tryFetch_frame s).same .bays (by decide)).symm
@[simp] theorem pairs_tryFetch : (s.tryFetch).pairs = s.pairs :=
  ((tryFetch_frame s).same .pairs (by decide)).symm
@[simp] theorem nextSession_tryFetch : (s.tryFetch).nextSession = s.nextSession :=
  ((tryFetch_frame s).same .nextSession (by decide)).symm
@[simp] theorem al_tryFetch : (s.tryFetch).al = s.al :=
  ((tryFetch_frame s).same .al (by decide)).symm
@[simp] theorem ba_tryFetch : (s.tryFetch).ba = s.ba :=
  ((tryFetch_frame s).same .ba (by decide)).symm
@[simp] theorem sw_tryFetch : (s.tryFetch).sw = s.sw :=
  ((tryFetch_frame s).same .sw (by decide)).symm
@[simp] theorem rw_tryFetch : (s.tryFetch).rw = s.rw :=
  ((tryFetch_frame s).same .rw (by decide)).symm
@[simp] theorem nu_tryFetch : (s.tryFetch).nu = s.nu :=
  ((tryFetch_frame s).same .nu (by decide)).symm
@[simp] theorem el_tryFetch : (s.tryFetch).el = s.el :=
  ((tryFetch_frame s).same .el (by decide)).symm
@[simp] theorem sp_tryFetch : (s.tryFetch).sp = s.sp :=
  ((tryFetch_frame s).same .sp (by decide)).symm
@[simp] theorem free_tryFetch : (s.tryFetch).free = s.free :=
  ((tryFetch_frame s).same .free (by decide)).symm

/-! ## latch -/

@[simp] theorem pending_latch : (s.latch).pending = s.pending :=
  ((latch_frame s).same .pending (by decide)).symm
@[simp] theorem clock_latch : (s.latch).clock = s.clock :=
  ((latch_frame s).same .clock (by decide)).symm
@[simp] theorem channels_latch : (s.latch).channels = s.channels :=
  ((latch_frame s).same .channels (by decide)).symm
@[simp] theorem meterConfig_latch : (s.latch).meterConfig = s.meterConfig :=
  ((latch_frame s).same .meterConfig (by decide)).symm
@[simp] theorem bays_latch : (s.latch).bays = s.bays :=
  ((latch_frame s).same .bays (by decide)).symm
@[simp] theorem pairs_latch : (s.latch).pairs = s.pairs :=
  ((latch_frame s).same .pairs (by decide)).symm
@[simp] theorem nextSession_latch : (s.latch).nextSession = s.nextSession :=
  ((latch_frame s).same .nextSession (by decide)).symm
@[simp] theorem ba_latch : (s.latch).ba = s.ba :=
  ((latch_frame s).same .ba (by decide)).symm
@[simp] theorem sw_latch : (s.latch).sw = s.sw :=
  ((latch_frame s).same .sw (by decide)).symm
@[simp] theorem rw_latch : (s.latch).rw = s.rw :=
  ((latch_frame s).same .rw (by decide)).symm
@[simp] theorem cu_latch : (s.latch).cu = s.cu :=
  ((latch_frame s).same .cu (by decide)).symm
@[simp] theorem sp_latch : (s.latch).sp = s.sp :=
  ((latch_frame s).same .sp (by decide)).symm
@[simp] theorem free_latch : (s.latch).free = s.free :=
  ((latch_frame s).same .free (by decide)).symm

/-! ## takeWatched -/

@[simp] theorem pending_takeWatched (a : Nat) (w : List WriteWord) : (s.takeWatched a w).pending = s.pending :=
  ((takeWatched_frame s a w).same .pending (by decide)).symm
@[simp] theorem clock_takeWatched (a : Nat) (w : List WriteWord) : (s.takeWatched a w).clock = s.clock :=
  ((takeWatched_frame s a w).same .clock (by decide)).symm
@[simp] theorem channels_takeWatched (a : Nat) (w : List WriteWord) : (s.takeWatched a w).channels = s.channels :=
  ((takeWatched_frame s a w).same .channels (by decide)).symm
@[simp] theorem meterConfig_takeWatched (a : Nat) (w : List WriteWord) : (s.takeWatched a w).meterConfig = s.meterConfig :=
  ((takeWatched_frame s a w).same .meterConfig (by decide)).symm
@[simp] theorem bays_takeWatched (a : Nat) (w : List WriteWord) : (s.takeWatched a w).bays = s.bays :=
  ((takeWatched_frame s a w).same .bays (by decide)).symm
@[simp] theorem pairs_takeWatched (a : Nat) (w : List WriteWord) : (s.takeWatched a w).pairs = s.pairs :=
  ((takeWatched_frame s a w).same .pairs (by decide)).symm
@[simp] theorem nextSession_takeWatched (a : Nat) (w : List WriteWord) : (s.takeWatched a w).nextSession = s.nextSession :=
  ((takeWatched_frame s a w).same .nextSession (by decide)).symm
@[simp] theorem al_takeWatched (a : Nat) (w : List WriteWord) : (s.takeWatched a w).al = s.al :=
  ((takeWatched_frame s a w).same .al (by decide)).symm
@[simp] theorem ba_takeWatched (a : Nat) (w : List WriteWord) : (s.takeWatched a w).ba = s.ba :=
  ((takeWatched_frame s a w).same .ba (by decide)).symm
@[simp] theorem sw_takeWatched (a : Nat) (w : List WriteWord) : (s.takeWatched a w).sw = s.sw :=
  ((takeWatched_frame s a w).same .sw (by decide)).symm
@[simp] theorem rw_takeWatched (a : Nat) (w : List WriteWord) : (s.takeWatched a w).rw = s.rw :=
  ((takeWatched_frame s a w).same .rw (by decide)).symm
@[simp] theorem cu_takeWatched (a : Nat) (w : List WriteWord) : (s.takeWatched a w).cu = s.cu :=
  ((takeWatched_frame s a w).same .cu (by decide)).symm
@[simp] theorem sp_takeWatched (a : Nat) (w : List WriteWord) : (s.takeWatched a w).sp = s.sp :=
  ((takeWatched_frame s a w).same .sp (by decide)).symm
@[simp] theorem free_takeWatched (a : Nat) (w : List WriteWord) : (s.takeWatched a w).free = s.free :=
  ((takeWatched_frame s a w).same .free (by decide)).symm

/-! ## takeHeldWindow -/

@[simp] theorem pending_takeHeldWindow : (s.takeHeldWindow).pending = s.pending :=
  ((takeHeldWindow_frame s).same .pending (by decide)).symm
@[simp] theorem clock_takeHeldWindow : (s.takeHeldWindow).clock = s.clock :=
  ((takeHeldWindow_frame s).same .clock (by decide)).symm
@[simp] theorem channels_takeHeldWindow : (s.takeHeldWindow).channels = s.channels :=
  ((takeHeldWindow_frame s).same .channels (by decide)).symm
@[simp] theorem meterConfig_takeHeldWindow : (s.takeHeldWindow).meterConfig = s.meterConfig :=
  ((takeHeldWindow_frame s).same .meterConfig (by decide)).symm
@[simp] theorem bays_takeHeldWindow : (s.takeHeldWindow).bays = s.bays :=
  ((takeHeldWindow_frame s).same .bays (by decide)).symm
@[simp] theorem pairs_takeHeldWindow : (s.takeHeldWindow).pairs = s.pairs :=
  ((takeHeldWindow_frame s).same .pairs (by decide)).symm
@[simp] theorem nextSession_takeHeldWindow : (s.takeHeldWindow).nextSession = s.nextSession :=
  ((takeHeldWindow_frame s).same .nextSession (by decide)).symm
@[simp] theorem al_takeHeldWindow : (s.takeHeldWindow).al = s.al :=
  ((takeHeldWindow_frame s).same .al (by decide)).symm
@[simp] theorem ba_takeHeldWindow : (s.takeHeldWindow).ba = s.ba :=
  ((takeHeldWindow_frame s).same .ba (by decide)).symm
@[simp] theorem rw_takeHeldWindow : (s.takeHeldWindow).rw = s.rw :=
  ((takeHeldWindow_frame s).same .rw (by decide)).symm
@[simp] theorem sp_takeHeldWindow : (s.takeHeldWindow).sp = s.sp :=
  ((takeHeldWindow_frame s).same .sp (by decide)).symm
@[simp] theorem free_takeHeldWindow : (s.takeHeldWindow).free = s.free :=
  ((takeHeldWindow_frame s).same .free (by decide)).symm

/-! ## takeParts -/

@[simp] theorem pending_takeParts (p : Plan) (snap : Bool) (parts : List BoundaryPart) : (s.takeParts p snap parts).pending = s.pending :=
  ((takeParts_frame s p snap parts).same .pending (by decide)).symm
@[simp] theorem clock_takeParts (p : Plan) (snap : Bool) (parts : List BoundaryPart) : (s.takeParts p snap parts).clock = s.clock :=
  ((takeParts_frame s p snap parts).same .clock (by decide)).symm
@[simp] theorem meterConfig_takeParts (p : Plan) (snap : Bool) (parts : List BoundaryPart) : (s.takeParts p snap parts).meterConfig = s.meterConfig :=
  ((takeParts_frame s p snap parts).same .meterConfig (by decide)).symm
@[simp] theorem pairs_takeParts (p : Plan) (snap : Bool) (parts : List BoundaryPart) : (s.takeParts p snap parts).pairs = s.pairs :=
  ((takeParts_frame s p snap parts).same .pairs (by decide)).symm
@[simp] theorem nextSession_takeParts (p : Plan) (snap : Bool) (parts : List BoundaryPart) : (s.takeParts p snap parts).nextSession = s.nextSession :=
  ((takeParts_frame s p snap parts).same .nextSession (by decide)).symm
@[simp] theorem al_takeParts (p : Plan) (snap : Bool) (parts : List BoundaryPart) : (s.takeParts p snap parts).al = s.al :=
  ((takeParts_frame s p snap parts).same .al (by decide)).symm
@[simp] theorem sw_takeParts (p : Plan) (snap : Bool) (parts : List BoundaryPart) : (s.takeParts p snap parts).sw = s.sw :=
  ((takeParts_frame s p snap parts).same .sw (by decide)).symm
@[simp] theorem rw_takeParts (p : Plan) (snap : Bool) (parts : List BoundaryPart) : (s.takeParts p snap parts).rw = s.rw :=
  ((takeParts_frame s p snap parts).same .rw (by decide)).symm
@[simp] theorem cu_takeParts (p : Plan) (snap : Bool) (parts : List BoundaryPart) : (s.takeParts p snap parts).cu = s.cu :=
  ((takeParts_frame s p snap parts).same .cu (by decide)).symm
@[simp] theorem el_takeParts (p : Plan) (snap : Bool) (parts : List BoundaryPart) : (s.takeParts p snap parts).el = s.el :=
  ((takeParts_frame s p snap parts).same .el (by decide)).symm
@[simp] theorem sp_takeParts (p : Plan) (snap : Bool) (parts : List BoundaryPart) : (s.takeParts p snap parts).sp = s.sp :=
  ((takeParts_frame s p snap parts).same .sp (by decide)).symm
@[simp] theorem free_takeParts (p : Plan) (snap : Bool) (parts : List BoundaryPart) : (s.takeParts p snap parts).free = s.free :=
  ((takeParts_frame s p snap parts).same .free (by decide)).symm

end Sys2Proof.Machine
end

