-- ==== Sys2Proof/Laws/Effects.lean ====
section
/-! SUPPORT. What the shared operations do: a ring command that executes answers as its effect says, a cause leaves every bay
and the link alone, and a bay's own operations at that bay and at the others. -/

namespace Sys2Proof.Machine

/-! ## Ring commands -/

/-- A ring command in execution answers with what its effect gives. -/
theorem ringCommand_executes {s : State} {c : Instr} {position : BitVec 4} {words : List Word}
    (h : s.executes c position words) (effect : State → State × Option Reply) :
    s.ringCommand c effect = (effect s).1.endExecution position words (effect s).2 := by
  simp [State.ringCommand, h.1, h.2]

/-- A ring command that is not in execution changes nothing. -/
theorem ringCommand_not_executing {s : State} {c : Instr} (h : ∀ position words, ¬ s.executes c position words)
    (effect : State → State × Option Reply) : s.ringCommand c effect = s := by
  unfold State.ringCommand
  split
  · rename_i position words hs
    split
    · rename_i hd
      exact absurd ⟨hs, hd⟩ (h position words)
    · rfl
  all_goals rfl

/-- A ring command answers with the state and the reply of its effect. -/
theorem answers_of_effect {s t : State} {c : Instr} {r : Reply} (effect : State → State × Option Reply)
    (hc : exec c s = .next (s.ringCommand c effect)) (he : effect s = (t, some r)) : s.answers c t r := by
  intro position words h
  rw [hc, ringCommand_executes h, he]
  rfl

/-- A window change in execution is taken and answered between the parts of a boundary. -/
theorem takeHeldWindow_executes {s : State} {base stride decimation : Word} {position : BitVec 4} {words : List Word}
    (h : s.executes (.setSnapshotWindow base stride decimation) position words) :
    s.takeHeldWindow = (setSnapshotWindowEffect base stride decimation s).1.endExecution position words
      (setSnapshotWindowEffect base stride decimation s).2 := by
  have hc : slotWord words 1 = base ∧ slotWord words 2 = stride ∧ slotWord words 3 = decimation := by
    have hd := h.2
    unfold decodeCommand at hd
    dsimp only at hd
    split at hd
    all_goals first
      | exact Instr.noConfusion hd
      | (split at hd <;> exact Instr.noConfusion hd)
      | (injection hd with h1 h2 h3; exact ⟨h1, h2, h3⟩)
  unfold State.takeHeldWindow
  rw [h.1]
  dsimp only
  rw [hc.1, hc.2.1, hc.2.2, ringCommand_executes h]

/-- With no window change in execution none is taken between the parts of a boundary. -/
theorem takeHeldWindow_of_none {s : State}
    (h : ∀ base stride decimation position words, ¬ s.executes (.setSnapshotWindow base stride decimation) position words) :
    s.takeHeldWindow = s := by
  unfold State.takeHeldWindow
  split
  · exact ringCommand_not_executing (h _ _ _) _
  all_goals rfl

/-! ## The part's own events -/

theorem mem_dueIf (due : Bool) (c d : Instr) : c ∈ dueIf due d ↔ due = true ∧ c = d := by
  cases due <;> simp [dueIf]

/-- The Command Unit's own event is the command it holds. -/
theorem mem_cuOwnEvents (s : State) (c : Instr) : c ∈ s.cu.ownEvents ↔ ∃ position words, s.executes c position words := by
  unfold CommandUnit.ownEvents State.executes
  constructor
  · intro h
    split at h
    · simp only [List.mem_singleton] at h
      exact ⟨_, _, by assumption, h.symm⟩
    all_goals exact absurd h (List.not_mem_nil)
  · rintro ⟨position, words, h, hd⟩
    simp [h, hd]

/-! ## Bays, channels and the link after shared operations -/

variable (s : State)

@[simp] theorem bay_fire (c : Cause) (b : Fin 12) : (s.fire c).bay b = s.bay b := by simp [State.bay]
@[simp] theorem bay_record (r : Recording) (b : Fin 12) : (s.record r).bay b = s.bay b := by simp [State.bay]
@[simp] theorem bay_batteryEvent (a : BatteryAccount) (b : Fin 12) : (s.batteryEvent a).bay b = s.bay b := by simp [State.bay]
@[simp] theorem bay_reserve (b : Fin 12) : s.reserve.bay b = s.bay b := by simp [State.bay]
@[simp] theorem bay_latch (b : Fin 12) : s.latch.bay b = s.bay b := by simp [State.bay]
@[simp] theorem channel_fire (c : Cause) (k : Fin 17) : (s.fire c).channel k = s.channel k := by simp [State.channel]
@[simp] theorem channel_record (r : Recording) (k : Fin 17) : (s.record r).channel k = s.channel k := by simp [State.channel]
@[simp] theorem channel_raise (b : Fin 12) (f : EventFlag) (k : Fin 17) : (s.raise b f).channel k = s.channel k := by
  simp [State.channel]
@[simp] theorem channel_watchFeedback (b : Fin 12) (k : Fin 17) : (s.watchFeedback b).channel k = s.channel k := by
  simp [State.channel]

@[simp] theorem link_setVector (v : Fin 8) (x : NoticeVector) : (s.setVector v x).pu.link = s.pu.link := rfl
@[simp] theorem link_queueNotice (v : Fin 8) : (s.queueNotice v).pu.link = s.pu.link := rfl

@[simp] theorem link_fire (c : Cause) : (s.fire c).pu.link = s.pu.link := by
  unfold State.fire
  dsimp only
  repeat' split
  all_goals rfl

@[simp] theorem link_record (r : Recording) : (s.record r).pu.link = s.pu.link := by
  unfold State.record
  dsimp only
  repeat' split
  all_goals simp

@[simp] theorem link_raise (b : Fin 12) (f : EventFlag) : (s.raise b f).pu.link = s.pu.link := by simp [State.raise, onBay_eq]
@[simp] theorem link_watchFeedback (b : Fin 12) : (s.watchFeedback b).pu.link = s.pu.link := rfl
@[simp] theorem link_issue (b : Fin 12) : (s.issue b).pu.link = s.pu.link := rfl
@[simp] theorem link_enterIssuing (b : Fin 12) : (s.enterIssuing b).pu.link = s.pu.link := rfl

@[simp] theorem link_judgeIssuing (b : Fin 12) : (s.judgeIssuing b).pu.link = s.pu.link := by
  unfold State.judgeIssuing
  split <;> simp

@[simp] theorem link_enterStopping (b : Fin 12) (c : StopCause) : (s.enterStopping b c).pu.link = s.pu.link := by
  simp [State.enterStopping, onBay_eq]

/-! ## A bay's own operations -/

@[simp] theorem bay_raise_self (b : Fin 12) (f : EventFlag) :
    (s.raise b f).bay b = { s.bay b with events := (s.bay b).events ||| f.bit } := by simp [State.raise, onBay_eq]

theorem bay_raise_of_ne {b c : Fin 12} (h : c ≠ b) (f : EventFlag) : (s.raise b f).bay c = s.bay c := by
  simp [State.raise, onBay_eq, bay_setBay_of_ne _ h]

@[simp] theorem bay_watchFeedback_self (b : Fin 12) :
    (s.watchFeedback b).bay b = (s.bay b).watch (s.pu.link != .starting) := by simp [State.watchFeedback, onBay_eq]

theorem bay_watchFeedback_of_ne {b c : Fin 12} (h : c ≠ b) : (s.watchFeedback b).bay c = s.bay c := by
  simp [State.watchFeedback, onBay_eq, bay_setBay_of_ne _ h]

/-- The watch changes the feedback timer and its mark, and nothing else of a bay. -/
theorem watch_eq (r : Bool) (x : Bay) : ∃ timer found, x.watch r = { x with feedbackTimer := timer, feedbackFound := found } := by
  unfold Bay.watch
  by_cases h : (!r || x.state == .faulted || x.drive == x.feedback) = true
  · exact ⟨none, false, by simp only [if_pos h]⟩
  · by_cases g : x.feedbackFound = true
    · exact ⟨none, x.feedbackFound, by simp only [if_neg h, if_pos g]⟩
    · exact ⟨some (x.feedbackTimer.getD Config.feedbackMs), x.feedbackFound, by simp only [if_neg h, if_neg g]⟩

@[simp] theorem plug_watch (r : Bool) (x : Bay) : (x.watch r).plug = x.plug := by
  obtain ⟨_, _, h⟩ := watch_eq r x; rw [h]
@[simp] theorem ready_watch (r : Bool) (x : Bay) : (x.watch r).ready = x.ready := by
  obtain ⟨_, _, h⟩ := watch_eq r x; rw [h]
@[simp] theorem plugTimer_watch (r : Bool) (x : Bay) : (x.watch r).plugTimer = x.plugTimer := by
  obtain ⟨_, _, h⟩ := watch_eq r x; rw [h]
@[simp] theorem readyTimer_watch (r : Bool) (x : Bay) : (x.watch r).readyTimer = x.readyTimer := by
  obtain ⟨_, _, h⟩ := watch_eq r x; rw [h]
@[simp] theorem state_watch (r : Bool) (x : Bay) : (x.watch r).state = x.state := by
  obtain ⟨_, _, h⟩ := watch_eq r x; rw [h]
@[simp] theorem drive_watch (r : Bool) (x : Bay) : (x.watch r).drive = x.drive := by
  obtain ⟨_, _, h⟩ := watch_eq r x; rw [h]
@[simp] theorem feedback_watch (r : Bool) (x : Bay) : (x.watch r).feedback = x.feedback := by
  obtain ⟨_, _, h⟩ := watch_eq r x; rw [h]
@[simp] theorem session_watch (r : Bool) (x : Bay) : (x.watch r).session = x.session := by
  obtain ⟨_, _, h⟩ := watch_eq r x; rw [h]
@[simp] theorem roundOverQuota_watch (r : Bool) (x : Bay) : (x.watch r).roundOverQuota = x.roundOverQuota := by
  obtain ⟨_, _, h⟩ := watch_eq r x; rw [h]
@[simp] theorem lastSession_watch (r : Bool) (x : Bay) : (x.watch r).lastSession = x.lastSession := by
  obtain ⟨_, _, h⟩ := watch_eq r x; rw [h]
@[simp] theorem maintenance_watch (r : Bool) (x : Bay) : (x.watch r).maintenance = x.maintenance := by
  obtain ⟨_, _, h⟩ := watch_eq r x; rw [h]
@[simp] theorem deferredRelease_watch (r : Bool) (x : Bay) : (x.watch r).deferredRelease = x.deferredRelease := by
  obtain ⟨_, _, h⟩ := watch_eq r x; rw [h]
@[simp] theorem weldMark_watch (r : Bool) (x : Bay) : (x.watch r).weldMark = x.weldMark := by
  obtain ⟨_, _, h⟩ := watch_eq r x; rw [h]
@[simp] theorem events_watch (r : Bool) (x : Bay) : (x.watch r).events = x.events := by
  obtain ⟨_, _, h⟩ := watch_eq r x; rw [h]
@[simp] theorem waitCount_watch (r : Bool) (x : Bay) : (x.watch r).waitCount = x.waitCount := by
  obtain ⟨_, _, h⟩ := watch_eq r x; rw [h]
@[simp] theorem allowance_watch (r : Bool) (x : Bay) : (x.watch r).allowance = x.allowance := by
  obtain ⟨_, _, h⟩ := watch_eq r x; rw [h]
@[simp] theorem idleTimer_watch (r : Bool) (x : Bay) : (x.watch r).idleTimer = x.idleTimer := by
  obtain ⟨_, _, h⟩ := watch_eq r x; rw [h]
@[simp] theorem releaseTimer_watch (r : Bool) (x : Bay) : (x.watch r).releaseTimer = x.releaseTimer := by
  obtain ⟨_, _, h⟩ := watch_eq r x; rw [h]
@[simp] theorem stopDelayTimer_watch (r : Bool) (x : Bay) : (x.watch r).stopDelayTimer = x.stopDelayTimer := by
  obtain ⟨_, _, h⟩ := watch_eq r x; rw [h]
@[simp] theorem keptPortions_watch (r : Bool) (x : Bay) : (x.watch r).keptPortions = x.keptPortions := by
  obtain ⟨_, _, h⟩ := watch_eq r x; rw [h]
@[simp] theorem keptSession_watch (r : Bool) (x : Bay) : (x.watch r).keptSession = x.keptSession := by
  obtain ⟨_, _, h⟩ := watch_eq r x; rw [h]
@[simp] theorem sessionPulses_watch (r : Bool) (x : Bay) : (x.watch r).sessionPulses = x.sessionPulses := by
  obtain ⟨_, _, h⟩ := watch_eq r x; rw [h]
@[simp] theorem unownedPulses_watch (r : Bool) (x : Bay) : (x.watch r).unownedPulses = x.unownedPulses := by
  obtain ⟨_, _, h⟩ := watch_eq r x; rw [h]
@[simp] theorem config_watch (r : Bool) (x : Bay) : (x.watch r).config = x.config := by
  obtain ⟨_, _, h⟩ := watch_eq r x; rw [h]
@[simp] theorem meterFaults_watch (r : Bool) (x : Bay) : (x.watch r).meterFaults = x.meterFaults := by
  obtain ⟨_, _, h⟩ := watch_eq r x; rw [h]
@[simp] theorem receiptFinished_watch (r : Bool) (x : Bay) : (x.watch r).receiptFinished = x.receiptFinished := by
  obtain ⟨_, _, h⟩ := watch_eq r x; rw [h]
@[simp] theorem closedReports_watch (r : Bool) (x : Bay) : (x.watch r).closedReports = x.closedReports := by
  obtain ⟨_, _, h⟩ := watch_eq r x; rw [h]

/-! ## Shadows after causes and recordings -/

/-- A cause leaves every vector's address and usability. -/
theorem shadow_fire (c : Cause) (v : Fin 8) :
    ((s.fire c).vector v).addr = (s.vector v).addr ∧ ((s.fire c).vector v).usable = (s.vector v).usable := by
  unfold State.fire State.queueNotice State.setVector State.enqueue State.vector
  dsimp only
  by_cases h : v = s.nu.causeMap[c.number]
  all_goals repeat' split
  all_goals first
    | exact ⟨rfl, rfl⟩
    | (subst h; simp)
    | (simp [Vector.getElem_set, Fin.val_inj]; split <;> simp_all)

/-- A recording leaves every vector's address and usability. -/
theorem shadow_record (r : Recording) (v : Fin 8) :
    ((s.record r).vector v).addr = (s.vector v).addr ∧ ((s.record r).vector v).usable = (s.vector v).usable := by
  unfold State.record
  dsimp only
  split
  · exact ⟨rfl, rfl⟩
  · split
    · rw [(shadow_fire ..).1, (shadow_fire ..).2, (shadow_fire ..).1, (shadow_fire ..).2]
      exact ⟨rfl, rfl⟩
    · rw [(shadow_fire ..).1, (shadow_fire ..).2]
      exact ⟨rfl, rfl⟩

/-! ## Hit-promote -/

/-- A transaction that touches no entry of a list has none to wait for. -/
theorem lastMet_of_none {x : Access} {l : List Entry} (h : ∀ e ∈ l, x.meets e = false) : x.lastMet l = 0 := by
  induction l with
  | nil => rfl
  | cons e l ih => simp [Access.lastMet, ih fun y hy => h y (by simp [hy]), h e (by simp)]

/-- The last entry that a transaction touches stands right after those ahead of it. -/
theorem lastMet_append {x : Access} {ahead behind : List Entry} {e : Entry} (he : x.meets e = true)
    (h : ∀ y ∈ behind, x.meets y = false) : x.lastMet (ahead ++ e :: behind) = ahead.length + 1 := by
  induction ahead with
  | nil => simp [Access.lastMet, lastMet_of_none h, he]
  | cons a l ih => simp [Access.lastMet, ih]

/-! ## Records of the settings image -/

/-- A record that is accepted replaces the image. -/
theorem take_accepted {j : Judged} {r : Record} {i d : Image} (h : judgeRecord j.image r = some (some i, d)) :
    j.take r = { j with image := i } := by simp [Judged.take, h]

/-- A record that is rejected leaves the image with its defaults, and its tag among the detail codes. -/
theorem take_rejected {j : Judged} {r : Record} {d : Image} (h : judgeRecord j.image r = some (none, d)) :
    j.take r = { image := d, bad := j.bad ++ [r.tag] } := by simp [Judged.take, h]

end Sys2Proof.Machine
end

