-- ==== Sys2Proof/WellFormed.lean ====
section
/-! DEFINITION. Well-formed commands: the operands that an outside agent can bring. A transaction of the bus is 1..8 words in
one aligned 32-byte block (R143), what memory answers has no more words than a transaction, an attempt has one or two
bursts (R150), a successful preload brings bytes 0..1007 (R181), and a settings read at most its four bytes (R180).
Operands of ring commands are whole fields, each judged by its owner, so every value of them is well-formed (R184). -/

namespace Sys2Proof

/-- A transaction's shape (R143): word-aligned, 1..8 words, within one aligned 32-byte block. -/
def transactionWf (addr : BitVec 26) (count : Nat) : Bool :=
  addr.toNat % 4 == 0 && decide (1 ≤ count) && decide (addr.toNat % 32 + 4 * count ≤ 32)

/-- The data of a completed read: one word for each requested word, at most 8 (R143). -/
def dataWf (data : List Word) : Bool := decide (data.length ≤ 8)

/-- Well-formed. -/
def Instr.wf : Instr → Bool
  | .controllerWriteAccept addr words => transactionWf addr words.length
  | .controllerReadAccept addr count => transactionWf addr count
  | .releaseWrite value => value.getLsbD 8
  | .forwardedTransactionComplete _ data => dataWf data
  | .sweepReadComplete _ data => dataWf data
  | .fetchReadComplete _ data => dataWf data
  | .ownWriteAttemptComplete bursts => bursts.length == 1 || bursts.length == 2
  | .settingsCommandEnd _ bytes => decide (bytes.length ≤ 4)
  | .preloadReadEnd ok bytes => !ok || bytes.length == Config.preloadBytes
  | .por | .crst | .settingsOperationStart | .startingEnd .. | .epochRetryTimerExpiry | .epochRetryEnd _ | .siteTimeTick
  | .meterLeadingEdge _ | .meterTrailingEdge _ | .pulseWidthExceeded _ | .channelStale _ | .silenceFound _
  | .meterFaultEvent _ | .plugFilterExpiry _ | .readyFilterExpiry _ | .releaseFilterExpiry _ | .feedbackChange ..
  | .feedbackTimerExpiry _ | .idleTimerExpiry _ | .releaseTimerExpiry _ | .stopDelayExpiry _ | .issuingExit _
  | .sessionClosedReport _ | .roundBoundary _ | .planComputationEnd | .battLineFilterExpiry _ | .postIndexWrite _
  | .viewSelectorWrite _ | .eventWordRead | .mPortGrant | .unknownCommand _ | .authorise .. | .stop .. | .extendQuota ..
  | .releaseConfirm .. | .releaseCancel .. | .maintenanceOn .. | .maintenanceOff .. | .clearBay _ | .setBay ..
  | .setSite .. | .setSupplyMap .. | .setBattery .. | .setTime _ | .collect _ | .setReceiptWindow ..
  | .setSnapshotWindow .. | .causeMap _ | .clearErrors .. | .ackError | .setErrorPolicy .. | .clearHold
  | .settingsRead _ | .settingsWrite .. | .plugLineChange .. | .readyLineChange ..
  | .releaseLineChange .. | .battLineChange .. => true

end Sys2Proof
end

