-- ==== Sys2Proof/Laws/PerInstr.lean ====
section
/-! SUPPORT. One fact about every command as syntax: a command that a slot of the ring can spell is well-formed whatever its
fields hold, since each numeric argument is taken at the whole width of its field and judged by its owner (R184). -/

namespace Sys2Proof.Laws.RingFields

/-- A command that some slot spells is well-formed. -/
def Statement (c : Instr) : Prop := (encodeSlot c 0).isSome = true → c.wf = true

theorem por : Statement (.por) := fun _ => rfl
theorem crst : Statement (.crst) := fun _ => rfl
theorem settingsOperationStart : Statement (.settingsOperationStart) := fun _ => rfl
theorem preloadReadEnd ok bytes : Statement (.preloadReadEnd ok bytes) := fun h => nomatch h
theorem startingEnd ok order : Statement (.startingEnd ok order) := fun _ => rfl
theorem epochRetryTimerExpiry : Statement (.epochRetryTimerExpiry) := fun _ => rfl
theorem epochRetryEnd ok : Statement (.epochRetryEnd ok) := fun _ => rfl
theorem siteTimeTick : Statement (.siteTimeTick) := fun _ => rfl
theorem meterLeadingEdge channel : Statement (.meterLeadingEdge channel) := fun _ => rfl
theorem meterTrailingEdge channel : Statement (.meterTrailingEdge channel) := fun _ => rfl
theorem pulseWidthExceeded channel : Statement (.pulseWidthExceeded channel) := fun _ => rfl
theorem channelStale channel : Statement (.channelStale channel) := fun _ => rfl
theorem silenceFound bay : Statement (.silenceFound bay) := fun _ => rfl
theorem meterFaultEvent bay : Statement (.meterFaultEvent bay) := fun _ => rfl
theorem plugFilterExpiry bay : Statement (.plugFilterExpiry bay) := fun _ => rfl
theorem readyFilterExpiry bay : Statement (.readyFilterExpiry bay) := fun _ => rfl
theorem releaseFilterExpiry bay : Statement (.releaseFilterExpiry bay) := fun _ => rfl
theorem feedbackChange bay closed : Statement (.feedbackChange bay closed) := fun _ => rfl
theorem feedbackTimerExpiry bay : Statement (.feedbackTimerExpiry bay) := fun _ => rfl
theorem idleTimerExpiry bay : Statement (.idleTimerExpiry bay) := fun _ => rfl
theorem releaseTimerExpiry bay : Statement (.releaseTimerExpiry bay) := fun _ => rfl
theorem stopDelayExpiry bay : Statement (.stopDelayExpiry bay) := fun _ => rfl
theorem issuingExit bay : Statement (.issuingExit bay) := fun _ => rfl
theorem sessionClosedReport bay : Statement (.sessionClosedReport bay) := fun _ => rfl
theorem roundBoundary order : Statement (.roundBoundary order) := fun _ => rfl
theorem planComputationEnd : Statement (.planComputationEnd) := fun _ => rfl
theorem battLineFilterExpiry line : Statement (.battLineFilterExpiry line) := fun _ => rfl
theorem controllerWriteAccept addr words : Statement (.controllerWriteAccept addr words) := fun h => nomatch h
theorem releaseWrite value : Statement (.releaseWrite value) := fun h => nomatch h
theorem postIndexWrite value : Statement (.postIndexWrite value) := fun _ => rfl
theorem viewSelectorWrite value : Statement (.viewSelectorWrite value) := fun _ => rfl
theorem eventWordRead : Statement (.eventWordRead) := fun _ => rfl
theorem forwardedTransactionComplete ok data : Statement (.forwardedTransactionComplete ok data) := fun h => nomatch h
theorem mPortGrant : Statement (.mPortGrant) := fun _ => rfl
theorem ownWriteAttemptComplete bursts : Statement (.ownWriteAttemptComplete bursts) := fun h => nomatch h
theorem sweepReadComplete ok data : Statement (.sweepReadComplete ok data) := fun h => nomatch h
theorem fetchReadComplete ok data : Statement (.fetchReadComplete ok data) := fun h => nomatch h
theorem unknownCommand code : Statement (.unknownCommand code) := fun _ => rfl
theorem authorise bay cls quota reference : Statement (.authorise bay cls quota reference) := fun _ => rfl
theorem stop bay session : Statement (.stop bay session) := fun _ => rfl
theorem extendQuota bay session amount : Statement (.extendQuota bay session amount) := fun _ => rfl
theorem releaseConfirm bay session : Statement (.releaseConfirm bay session) := fun _ => rfl
theorem releaseCancel bay session : Statement (.releaseCancel bay session) := fun _ => rfl
theorem maintenanceOn bay pattern : Statement (.maintenanceOn bay pattern) := fun _ => rfl
theorem maintenanceOff bay pattern : Statement (.maintenanceOff bay pattern) := fun _ => rfl
theorem clearBay bay : Statement (.clearBay bay) := fun _ => rfl
theorem setBay bay pmin pmax stopDelay releaseWindow idleTimeout cap pairWord : Statement (.setBay bay pmin pmax stopDelay releaseWindow idleTimeout cap pairWord) := fun _ => rfl
theorem setSite limit period : Statement (.setSite limit period) := fun _ => rfl
theorem setSupplyMap priority standard economy : Statement (.setSupplyMap priority standard economy) := fun _ => rfl
theorem setBattery cap reserve cmax dmax : Statement (.setBattery cap reserve cmax dmax) := fun _ => rfl
theorem setTime time : Statement (.setTime time) := fun _ => rfl
theorem collect sequence : Statement (.collect sequence) := fun _ => rfl
theorem setReceiptWindow base slots lowWater : Statement (.setReceiptWindow base slots lowWater) := fun _ => rfl
theorem setSnapshotWindow base stride decimation : Statement (.setSnapshotWindow base stride decimation) := fun _ => rfl
theorem causeMap map : Statement (.causeMap map) := fun _ => rfl
theorem clearErrors kinds overflow : Statement (.clearErrors kinds overflow) := fun _ => rfl
theorem ackError : Statement (.ackError) := fun _ => rfl
theorem setErrorPolicy masks holds : Statement (.setErrorPolicy masks holds) := fun _ => rfl
theorem clearHold : Statement (.clearHold) := fun _ => rfl
theorem settingsRead offset : Statement (.settingsRead offset) := fun _ => rfl
theorem settingsWrite offset data : Statement (.settingsWrite offset data) := fun _ => rfl
theorem settingsCommandEnd ok bytes : Statement (.settingsCommandEnd ok bytes) := fun h => nomatch h
theorem plugLineChange bay high : Statement (.plugLineChange bay high) := fun _ => rfl
theorem readyLineChange bay high : Statement (.readyLineChange bay high) := fun _ => rfl
theorem releaseLineChange bay high : Statement (.releaseLineChange bay high) := fun _ => rfl
theorem battLineChange line high : Statement (.battLineChange line high) := fun _ => rfl
theorem controllerReadAccept addr count : Statement (.controllerReadAccept addr count) := fun h => nomatch h

end Sys2Proof.Laws.RingFields
end

