-- ==== Sys2Proof/Laws/Slots.lean ====
section
/-! SUPPORT. Reading a slot that was written: its code, bay number, tag and reference, and the encoder on each ring command. -/

namespace Sys2Proof

theorem extract_low (c b : Byte) (t : BitVec 16) : (t ++ (b ++ c) : BitVec (16 + (8 + 8))).extractLsb' 0 8 = c := by
  apply BitVec.eq_of_getLsbD_eq
  intro i hi
  rw [BitVec.getLsbD_extractLsb', BitVec.getLsbD_append, BitVec.getLsbD_append]
  simp [hi]
  intro; omega

theorem extract_mid (c b : Byte) (t : BitVec 16) : (t ++ (b ++ c) : BitVec (16 + (8 + 8))).extractLsb' 8 8 = b := by
  apply BitVec.eq_of_getLsbD_eq
  intro i hi
  rw [BitVec.getLsbD_extractLsb', BitVec.getLsbD_append, BitVec.getLsbD_append]
  have h : 8 + i < 16 := by omega
  simp [hi, h]

theorem extract_high (c b : Byte) (t : BitVec 16) : (t ++ (b ++ c) : BitVec (16 + (8 + 8))).extractLsb' 16 16 = t := by
  apply BitVec.eq_of_getLsbD_eq
  intro i hi
  rw [BitVec.getLsbD_extractLsb', BitVec.getLsbD_append]
  simp [hi]

variable (c b : Byte) (t : BitVec 16) (rest : List Word)

theorem slotCode_head : slotCode (slotHead c b t :: rest) = c := extract_low c b t
theorem slotBay_head : slotBay (slotHead c b t :: rest) = b := extract_mid c b t
theorem slotTag_head : slotTag (slotHead c b t :: rest) = t := extract_high c b t

end Sys2Proof
end

