-- ==== Sys2Proof/Tests/Slice0.lean ====
section
/-! SUPPORT. The model's own tests: the well-formedness checks, slots written out from the spec, the spec's worked examples,
what single rows do on small states, and for every statement with hypotheses a state that meets them. -/

namespace Sys2Proof.Tests

open Sys2Proof.Machine

set_option Elab.async false

/-! ## Small states -/

/-- The slot of a command with tag 7. -/
def slotFor (c : Instr) : List Word := (encodeSlot c 7).getD []

/-- A part that is attached, with sixteen receipt slots and nothing under way. -/
def base : State :=
  { State.reset with
    pu := { State.reset.pu with link := .attached }
    rw := { geometry := { base := some 0x1000000, slots := 16, lowWater := 2 }, armed := true } }

/-- The Command Unit holds a command at position 3. -/
def executing (s : State) (c : Instr) : State := { s with cu := { s.cu with step := .executing 3 (slotFor c) false } }

/-- The Command Unit holds that command. -/
def holds (s : State) (c : Instr) : Bool :=
  s.cu.step == .executing 3 (slotFor c) false && decodeCommand (slotFor c) == c

theorem executes_of_holds {s : State} {c : Instr} (h : holds s c = true) : s.executes c 3 (slotFor c) := by
  simp only [holds, Bool.and_eq_true, beq_iff_eq] at h
  exact h

/-- Status, reason, tag and the two results of the reply that a command leaves at the queue's tail. -/
def reply (s : State) (c : Instr) : List Nat :=
  match nextState (exec c (executing s c)) with
  | some t => match t.pu.queue.getLast? with
    | some e => [leNat e.bytes 0 1, leNat e.bytes 1 1, leNat e.bytes 2 2, leNat e.bytes 4 4, leNat e.bytes 8 4]
    | none => []
  | none => []

/-- The reply DONE. -/
def done (first second : Nat) : List Nat := [1, 0, 7, first, second]

/-- The reply REFUSED. -/
def refused (r : Reason) (first : Nat) : List Nat := [2, r.code, 7, first, 0]

/-- A part of the state after a row. -/
def after {α : Type} (s : State) (c : Instr) (f : State → α) : Option α := (nextState (exec c s)).map f

/-- Bay 4 with session 41 in a state. -/
def bay4 (k : BayState) : Bay :=
  { state := k, plug := some true, plugLine := true, lastSession := some 41
    session := { number := 41, cls := some .standard, quota := 5000, remaining := 4994 } }

/-- The base state with that bay. -/
def at4 (k : BayState) : State := base.setBay 4 (bay4 k)

/-- The base state with bay 4 in a state with its contactor closed. -/
def closed4 (k : BayState) : State := base.setBay 4 { bay4 k with drive := true, ready := true, readyLine := true, feedback := true }

/-! ## Well-formedness: an ill-formed command for each check -/

theorem test_wf_write_alignment : (Instr.controllerWriteAccept 0x3FFF041 [{ lanes := 15, data := 1 }]).wf = false := by decide
theorem test_wf_write_empty : (Instr.controllerWriteAccept 0x3FFF040 []).wf = false := by decide
theorem test_wf_write_block :
    (Instr.controllerWriteAccept 0x3FFF05C [{ lanes := 15, data := 1 }, { lanes := 15, data := 1 }]).wf = false := by decide
theorem test_wf_read_alignment : (Instr.controllerReadAccept 2 1).wf = false := by decide
theorem test_wf_read_count : (Instr.controllerReadAccept 0 0).wf = false ∧ (Instr.controllerReadAccept 0 9).wf = false := by decide
theorem test_wf_release_field : (Instr.releaseWrite 0xFF).wf = false ∧ (Instr.releaseWrite 0x100).wf = true := by decide
theorem test_wf_data :
    (Instr.forwardedTransactionComplete true (List.replicate 9 0)).wf = false ∧
    (Instr.sweepReadComplete true (List.replicate 9 0)).wf = false ∧
    (Instr.fetchReadComplete true (List.replicate 9 0)).wf = false := by decide
theorem test_wf_bursts :
    (Instr.ownWriteAttemptComplete []).wf = false ∧ (Instr.ownWriteAttemptComplete [true, true, true]).wf = false := by decide
theorem test_wf_settings_bytes :
    (Instr.settingsCommandEnd true [1, 2, 3, 4, 5]).wf = false ∧ (Instr.settingsCommandEnd true [1, 2, 3, 4]).wf = true := by decide
theorem test_wf_preload :
    (Instr.preloadReadEnd true [1, 2, 3]).wf = false ∧ (Instr.preloadReadEnd false []).wf = true := by decide

/-! ## Slots written out from the command table -/

theorem test_decode_table_words_none : decodeTableWord 32 0x501 = none := rfl
theorem test_slot_authorise :
    decodeCommand [0xABCD0501, 2, 5000, 0, 0, 0, 0, 0, 0x04030201, 0x08070605, 0x0C0B0A09, 0x100F0E0D]
      = .authorise 5 2 5000 0x100F0E0D0C0B0A090807060504030201 ∧ slotTag [0xABCD0501] = 0xABCD := by decide +kernel
theorem test_slot_session_commands :
    decodeCommand [0x00010B02, 41] = .stop 11 41 ∧ decodeCommand [0x00010003, 41, 500] = .extendQuota 0 41 500 ∧
    decodeCommand [0x00010C04, 41] = .releaseConfirm 12 41 ∧ decodeCommand [0x0001FF05, 41] = .releaseCancel 255 41 := by
  decide +kernel
theorem test_slot_maintenance :
    decodeCommand [0x00010306, 1, 3] = .maintenanceOn 3 3 ∧ decodeCommand [0x00010306, 0xFFFFFFFE, 3] = .maintenanceOff 3 3 := by
  decide +kernel
theorem test_slot_bay_commands :
    decodeCommand [0x00010907] = .clearBay 9 ∧
    decodeCommand [0x00010408, 1400, 7400, 3, 10, 900, 11000, 0x80000005] = .setBay 4 1400 7400 3 10 900 11000 0x80000005 := by
  decide +kernel
theorem test_slot_site_commands :
    decodeCommand [0x10, 60000, 2] = .setSite 60000 2 ∧ decodeCommand [0x11, 7, 6, 3] = .setSupplyMap 7 6 3 ∧
    decodeCommand [0x12, 50000, 10000, 8000, 8000] = .setBattery 50000 10000 8000 8000 ∧
    decodeCommand [0x13, 99] = .setTime 99 := by decide +kernel
theorem test_slot_window_commands :
    decodeCommand [0x20, 5] = .collect 5 ∧ decodeCommand [0x21, 0x1000000, 256, 8] = .setReceiptWindow 0x1000000 256 8 ∧
    decodeCommand [0x22, 0x2000000, 64, 1] = .setSnapshotWindow 0x2000000 64 1 := by decide +kernel
theorem test_slot_log_commands :
    decodeCommand [0x30, 0x76543210] = .causeMap 0x76543210 ∧ decodeCommand [0x31, 0x121, 1] = .clearErrors 0x121 1 ∧
    decodeCommand [0x32] = .ackError ∧ decodeCommand [0x33, 0, 0x130] = .setErrorPolicy 0 0x130 ∧
    decodeCommand [0x34] = .clearHold := by decide +kernel
theorem test_slot_settings_commands :
    decodeCommand [0x40, 2047] = .settingsRead 2047 ∧ decodeCommand [0x41, 1024, 0xDDCCBBAA] = .settingsWrite 1024 0xDDCCBBAA := by
  decide +kernel
theorem test_slot_unknown :
    decodeCommand [0x42] = .unknownCommand 0x42 ∧ decodeCommand [0] = .unknownCommand 0 ∧
    decodeCommand [0x09] = .unknownCommand 9 ∧ decodeCommand [0xFF] = .unknownCommand 0xFF := by decide +kernel

/-! ## The spec's worked examples -/

/-- The CRC-32 of the nine bytes 31 to 39. -/
theorem test_crc_example : crc32 [0x31, 0x32, 0x33, 0x34, 0x35, 0x36, 0x37, 0x38, 0x39] = 0xCBF43926 := by decide +kernel

/-- A latched bay of a session. -/
def wants (c : SessionClass) (pmax wait : Nat) : LatchedBay :=
  { eligible := true, cls := some c, session := some 1, pmin := 1400, pmax := pmax, wait := wait }

/-- A latched bay that is not eligible. -/
def idle : LatchedBay := { pmin := 1400, pmax := 7400 }

/-- The latched inputs of the first worked plan of spec/03. -/
def latched1 : Latched where
  solar := 9000
  shop := 48000
  grid := 52000
  limit := 60000
  period := 2
  map := {}
  bays := #v[wants .standard 7400 0, wants .standard 7400 0, idle, wants .priority 11000 0, idle, wants .standard 7400 0,
    idle, idle, wants .economy 7400 0, wants .economy 7400 0, idle, idle]
  pairs := #v[{}, {}, {}, {}, { cap := 7400 }, {}]
  eb := 30000
  cap := 100000
  reserve := 20000
  cmax := 10000
  dmax := 10000
  calibrated := true
  offline := false
  hold := false
  attached := true

/-- The latched inputs of the second worked plan of spec/03. -/
def latched2 : Latched :=
  { latched1 with
    solar := 16000, shop := 55000, eb := 25000, dmax := 4000
    bays := #v[idle, idle, wants .standard 7400 0, wants .standard 7400 0, idle, idle, wants .economy 3600 0,
      { wants .economy 7400 2 with pmin := 3000 }, idle, idle, wants .economy 7400 1, idle]
    pairs := #v[{}, { cap := 2000 }, {}, {}, {}, {}] }

/-- Grant and portions of the bays of a plan. -/
def grantsOf (p : Plan) : List (List Nat) :=
  p.bays.toList.map fun b => [b.grant, b.portions.solar, b.portions.battery, b.portions.grid]

theorem test_plan_headroom :
    grantsOf (latched1.plan 0 701) = [[6600, 0, 2666, 3934], [6600, 0, 2667, 3933], [0, 0, 0, 0], [11000, 9000, 2000, 0],
      [0, 0, 0, 0], [6600, 0, 2667, 3933], [0, 0, 0, 0], [0, 0, 0, 0], [0, 0, 0, 0], [0, 0, 0, 0], [0, 0, 0, 0], [0, 0, 0, 0]] ∧
    (latched1.plan 0 701).setpoint = -10000 ∧ (latched1.waits 0).toList = [0, 0, 0, 0, 0, 0, 0, 0, 1, 1, 0, 0] := by
  decide +kernel

theorem test_plan_admission :
    grantsOf (latched2.plan 0 1001) = [[0, 0, 0, 0], [0, 0, 0, 0], [0, 0, 0, 0], [2000, 2000, 0, 0], [0, 0, 0, 0], [0, 0, 0, 0],
      [0, 0, 0, 0], [3400, 784, 2616, 0], [0, 0, 0, 0], [0, 0, 0, 0], [1800, 416, 1384, 0], [0, 0, 0, 0]] ∧
    (latched2.plan 0 1001).setpoint = 6000 ∧ (latched2.waits 0).toList = [0, 0, 0, 0, 0, 0, 1, 0, 0, 0, 0, 0] := by
  decide +kernel

/-- Boundary 813 of the worked session of spec/05: four pulses under 3,000 / 1,400 / 3,000. -/
def attributing : Bay :=
  { bay4 .charging with keptPortions := { solar := 3000, battery := 1400, grid := 3000 }, keptSession := some 41, sessionPulses := 4 }

theorem test_attribution_split : attributing.attribute.session.tallies = { total := 4, solar := 1, battery := 0, grid := 3 } := by
  decide +kernel

theorem test_attribution_other_session :
    { attributing with keptSession := some 40 }.attribute.session.tallies = { total := 4, solar := 0, battery := 0, grid := 4 } := by
  decide +kernel

/-- The Error Log's worked sequence of spec/09: the log after the six recordings. -/
def sixErrors : State :=
  [ErrorKind.guardWrite, .meterNoise, .batteryLost, .contactorFault, .memoryFault, .gridOverlimit].foldl
    (fun s k => s.record { kind := k }) base

theorem test_errors_recorded :
    sixErrors.el.records.map (fun r => r.recording.kind) = [.guardWrite, .batteryLost, .contactorFault, .memoryFault] ∧
    sixErrors.el.status = 0x1F1 ∧ sixErrors.el.overflow = true ∧ sixErrors.el.first = some .guardWrite ∧
    sixErrors.el.hold = true := by decide +kernel

theorem test_errors_cleared :
    reply sixErrors .clearHold = refused .wrongState 0 ∧ reply sixErrors (.clearErrors 0x121 0) = done 0x0D0 4 ∧
    reply sixErrors .ackError = done 0 3 := by decide +kernel

theorem test_errors_policy_holds :
    reply { sixErrors with el := sixErrors.el.clear 0x121 } (.setErrorPolicy 0 0x130) = done 1 0 ∧
    reply { sixErrors with el := (sixErrors.el.clear 0x121).takePolicy 0 0x130 } .clearHold = refused .wrongState 0 ∧
    reply { sixErrors with el := (sixErrors.el.clear 0x131).takePolicy 0 0x130 } .clearHold = done 0 0 := by decide +kernel

/-! ## Results of rows -/

/-- The base state with bay 4 plugged, no session opened yet. -/
def plugged4 : State := base.setBay 4 { state := .plugged, plug := some true, plugLine := true }

theorem test_authorise_opens :
    reply plugged4 (.authorise 4 2 5000 7) = done 1 0 ∧
    (authoriseEffect 4 2 5000 7 plugged4).1.nextSession = 2 ∧
    ((authoriseEffect 4 2 5000 7 plugged4).1.bay 4).state = .authorised ∧
    ((authoriseEffect 4 2 5000 7 plugged4).1.bay 4).idleTimer = some 900000 ∧
    (authoriseEffect 4 2 5000 7 plugged4).1.rw.reserved = 1 := by decide +kernel

theorem test_authorise_refused :
    reply plugged4 (.authorise 12 2 0 7) = refused .badArgument 0 ∧ reply plugged4 (.authorise 4 4 0 7) = refused .badArgument 0 ∧
    reply plugged4 (.authorise 4 2 1000001 7) = refused .badArgument 0 ∧
    reply plugged4 (.authorise 5 2 0 7) = refused .notPlugged 0 ∧ reply (at4 .charging) (.authorise 4 2 0 7) = refused .wrongState 0 ∧
    reply { plugged4 with rw := { plugged4.rw with uncollected := 16 } } (.authorise 4 2 0 7) = refused .noSlot 0 := by
  decide +kernel

theorem test_session_commands :
    reply (at4 .charging) (.stop 4 41) = done 0 0 ∧ reply (at4 .charging) (.stop 4 40) = refused .staleSession 0 ∧
    reply (at4 .ended) (.stop 4 41) = refused .tooLate 0 ∧
    reply (at4 .charging) (.extendQuota 4 41 500) = done 5500 5494 ∧
    reply (at4 .charging) (.extendQuota 4 41 995001) = refused .badArgument 0 ∧
    reply (at4 .charging) (.releaseConfirm 4 41) = refused .wrongState 0 ∧
    reply (at4 .releasePending) (.releaseConfirm 4 41) = done 0 0 ∧
    reply (at4 .releasePending) (.releaseCancel 4 41) = done 0 0 := by decide +kernel

theorem test_bay_commands :
    reply base (.maintenanceOn 4 5) = done 0 0 ∧ reply base (.maintenanceOn 4 6) = refused .badArgument 0 ∧
    reply base (.maintenanceOff 4 0) = done 0 0 ∧ reply (at4 .faulted) (.clearBay 4) = done 0 0 ∧
    reply (at4 .ended) (.clearBay 4) = refused .wrongState 0 ∧
    reply base (.setBay 4 1400 7400 3 10 900 11000 0x80000005) = done 0 0 ∧
    reply base (.setBay 4 1450 7400 3 10 900 11000 0x80000005) = refused .badArgument 0 ∧
    reply base (.setBay 4 1400 7400 3 10 900 11000 0x80000006) = refused .badArgument 0 ∧
    reply (at4 .paused) (.setBay 4 1400 7400 3 10 900 0 0) = refused .wrongState 0 := by decide +kernel

theorem test_site_commands :
    reply base (.setSite 1000000 10) = done 0 0 ∧ reply base (.setSite 0 11) = refused .badArgument 0 ∧
    reply base (.setSupplyMap 7 7 1) = done 0 0 ∧ reply base (.setSupplyMap 0 7 1) = refused .badArgument 0 ∧
    reply { base with ba := { base.ba with eb := 60000 } } (.setBattery 50000 50000 0 250000) = done 50000 0 ∧
    reply base (.setBattery 50000 50001 0 0) = refused .badArgument 0 ∧
    reply { base with clock := { siteTime := 77 } } (.setTime 5) = done 77 0 := by decide +kernel

theorem test_window_commands :
    reply { base with rw := { base.rw with lastIssued := 3, uncollected := 3 } } (.collect 2) = done 1 15 ∧
    reply base (.collect 1) = refused .badArgument 0 ∧ reply base (.setReceiptWindow 0x2000000 512 512) = done 1 0 ∧
    reply { base with rw := { base.rw with issuing := 1 } } (.setReceiptWindow 0 0 0) = refused .ringInUse 0 ∧
    reply base (.setSnapshotWindow 0x2000000 64 16) = done 0 0 ∧
    reply base (.setSnapshotWindow 0x1000000 64 16) = refused .badArgument 0 ∧
    reply base (.causeMap 0x76543210) = done 0 0 ∧ reply base (.causeMap 8) = refused .badArgument 0 := by decide +kernel

theorem test_unknown_and_log_refusals :
    reply base (.unknownCommand 0x42) = refused .unknownCommand 0 ∧ reply base .ackError = refused .wrongState 0 ∧
    reply base (.clearErrors 0x1000 0) = refused .badArgument 0 ∧ reply base (.setErrorPolicy 0 0x1000) = refused .badArgument 0 ∧
    reply base (.settingsRead 2048) = refused .badArgument 0 ∧ reply base (.settingsWrite 1023 0) = refused .isProtected 0 := by
  decide +kernel

/-- A meter line active since millisecond 0 at bay 4's channel, at a later millisecond. -/
def pulse (ms : Word) : State := { (base.setChannel 4 { lineActive := true, inProgress := some 0 }) with clock := { ms := ms } }

theorem test_meter_widths :
    after (pulse 9) (.meterTrailingEdge 4) (fun t => ((t.channel 4).total, (t.channel 4).noise)) = some (0, 1) ∧
    after (pulse 10) (.meterTrailingEdge 4) (fun t => ((t.channel 4).total, (t.channel 4).noise)) = some (1, 0) ∧
    after (pulse 200) (.meterTrailingEdge 4) (fun t => ((t.channel 4).total, (t.channel 4).noise)) = some (1, 0) ∧
    after (pulse 200) (.pulseWidthExceeded 4) (fun t => (t.channel 4).noise) = some 0 ∧
    after (pulse 201) (.pulseWidthExceeded 4) (fun t => (t.channel 4).noise) = some 1 := by decide +kernel

theorem test_link_and_request_words :
    after { base with pu := { base.pu with link := .detached } } (.releaseWrite 0x100) (fun t => t.pu.link) = some .attaching ∧
    after { base with pu := { base.pu with link := .detached } } (.releaseWrite 0xFF) (fun t => t.pu.quietDrops) = some 1 ∧
    after base (.postIndexWrite 8) (fun t => (t.cu.post, t.cu.step)) = some (8, .fetching 0 []) ∧
    after base (.postIndexWrite 9) (fun t => t.el.status) = some 2 ∧
    after base (.viewSelectorWrite 17) (fun t => t.pu.selector) = some (some 17) ∧
    after base (.viewSelectorWrite 18) (fun t => t.pu.selector) = some none := by decide +kernel

theorem test_controller_accesses :
    after base (.controllerReadAccept 0x3FFF000 2) (fun t => t.pu.completion) = some (some { ok := true, data := [0x2412, 1] }) ∧
    after base (.controllerWriteAccept 0x1000000 [{ lanes := 3, data := 0xAABBCCDD }]) (fun t => t.el.records.map fun r => r.recording)
      = some [{ kind := .guardWrite, addr := some 0x1000000, data := some 0xCCDD, detail := 2 }] ∧
    after base (.controllerWriteAccept 0x100 [{ lanes := 3, data := 5 }]) (fun t => t.pu.cport)
      = some (.waiting (.write 0x100 [{ lanes := 3, data := 5 }] true)) := by decide +kernel

theorem test_stop_makes_a_receipt :
    ((stopEffect 4 41 (at4 .authorised)).1.bay 4).state = .issuing ∧
    (stopEffect 4 41 (at4 .authorised)).1.rw.lastIssued = 1 ∧
    (stopEffect 4 41 (at4 .authorised)).1.pu.queue.map (fun e => (e.addr, e.bytes.length)) = [(0x1000000, 64)] ∧
    ((stopEffect 4 41 (closed4 .charging)).1.bay 4).state = .stopping ∧
    ((stopEffect 4 41 (closed4 .charging)).1.bay 4).stopDelayTimer = some 3000 := by decide +kernel

/-! ## Witnesses: states and operands that meet the hypotheses of the statements

Each theorem is named after the statement it belongs to, and meets every clause of it, at the ends of the ranges where a
clause has a range. -/

/-- A command in execution at the Command Unit. -/
def runs (s : State) (c : Instr) : Bool := holds (executing s c) c

/-- The base state with two notices and a snapshot queued, a transaction held for the first n entries. -/
def mixed (x : Access) (n : Nat) : State :=
  { base with pu := { base.pu with
      cport := .hitHeld x n
      queue := [{ kind := .notice 0, addr := 0x43C, bytes := [0, 0, 0, 0] },
        { kind := .snapshot 1, addr := 0x420, bytes := List.replicate 32 0 },
        { kind := .notice 1, addr := 0x43C, bytes := [0, 0, 0, 0] }] } }

theorem test_witness_StepRunsTheFrontCommand : { base with pending := [.por, .ackError] }.pending = .por :: [.ackError] := rfl

/-- The base state with bay 4 changed. -/
def with4 (k : BayState) (f : Bay → Bay) : State := base.setBay 4 (f (bay4 k))

theorem test_witness_IdleStepRunsAnOwnEventOrAMillisecond :
    State.reset.pending = [] ∧ State.reset.ownEvents ≠ [] ∧ base.pending = [] ∧ base.ownEvents = [] ∧
    ((with4 .stopping fun x => { x with stopDelayTimer := some 1 }).bay 4).stopDelayTimer = some (0 + 1) ∧
    ((with4 .stopping fun x => { x with stopDelayTimer := some 0 }).bay 4).stopDelayTimer = some 0 ∧
    { base with al := { base.al with boundaryTimer := some 1 } }.al.boundaryTimer = some (0 + 1) := by decide +kernel

theorem test_own_events_come_due :
    (base.setBay 4 (bay4 .issuing)).ownEvents = [] ∧
    (with4 .issuing fun x => { x with receiptFinished := true }).ownEvents = [.issuingExit 4] ∧
    (with4 .issuing fun x => { x with receiptFinished := true }).comesDue (.issuingExit 4) ∧
    ¬ (base.setBay 4 (bay4 .issuing)).comesDue (.issuingExit 4) :=
  ⟨by decide +kernel, by decide +kernel, ⟨by decide +kernel, by decide +kernel⟩, fun h => absurd h.1 (by decide +kernel)⟩

theorem test_witness_RowsTouchOnlyTheirParts : ∃ t, exec .crst base = .next t := ⟨_, rfl⟩

theorem test_witness_BayRowsLeaveOtherBaysAlone :
    ∃ t, exec (.plugFilterExpiry 11) (base.setBay 11 { plugTimer := some 0, plugLine := true }) = .next t ∧
      (t.bay 11).state = .plugged := ⟨_, rfl, by decide +kernel⟩

theorem test_witness_RowsWithoutOccasionChangeNothing :
    let s := { base with pu := { base.pu with mport := .controller } }
    (s.bay 4).plugTimer ≠ some 0 ∧ (s.bay 4).readyTimer ≠ some 0 ∧ (s.bay 4).releaseLineTimer ≠ some 0 ∧
    (s.bay 4).feedbackTimer ≠ some 0 ∧ (s.bay 4).idleTimer ≠ some 0 ∧ (s.bay 4).releaseTimer ≠ some 0 ∧
    (s.bay 4).stopDelayTimer ≠ some 0 ∧ (s.bay 4).state ≠ .authorised ∧ (s.bay 4).state ≠ .releasePending ∧
    (s.bay 4).state ≠ .stopping ∧ (s.bay 4).state ≠ .issuing ∧ (s.bay 4).receiptFinished = false ∧
    (s.bay 4).closedReports = 0 ∧ (s.bay 4).meterFaults = 0 ∧ (s.bay 4).drive = false ∧ (s.channel 4).inProgress = none ∧
    (s.channel 4).lastEdge = none ∧ (s.ba.line .full).timer ≠ some 0 ∧ s.al.boundaryTimer ≠ some 0 ∧ s.al.staged = none ∧
    s.al.latched = none ∧ s.sp.requests = [] ∧ s.sp.inFlight = none ∧ s.pu.link ≠ .starting ∧ s.sp.retryTimer ≠ some 0 ∧
    { s with clock := { subMs := 999 } }.clock.subMs < 1000 ∧ s.pu.mport ≠ .free ∧ s.pu.mport ≠ .entry ∧ s.pu.queue = [] ∧
    s.pu.partRead = none ∧ s.pu.cport = .empty := by decide +kernel

theorem test_witness_RowsWithoutOccasionChangeNothing_timed :
    ((pulse 200).channel 4).inProgress = some 0 ∧ ((pulse 200).clock.ms - 0).toNat ≤ (pulse 200).meterConfig.bayWmax ∧
    (let s := { base.setChannel 4 { lastEdge := some 0 } with clock := { ms := 3600000 } }
     (s.channel 4).lastEdge = some 0 ∧ (s.clock.ms - 0).toNat ≤ 3600000) ∧
    ({ base.setChannel 4 {} with clock := { ms := 60000 } }.clock.ms - 0).toNat ≤ 1000 * base.meterConfig.silenceLimit := by
  decide +kernel

theorem test_witness_RingRowsExecuteTheCommandHeld :
    (encodeSlot .ackError 0).isSome = true ∧ runs base .ackError = true ∧ base.cu.step = .idle := by decide +kernel

theorem test_witness_SlotsReadBack :
    (encodeSlot (.setSite 0xFFFFFFFF 0) 0xFFFF).isSome = true ∧ (encodeSlot (.unknownCommand 0) 0).isSome = true := by
  decide +kernel

theorem test_witness_CrstResetsTheControllerSide :
    let presented := fun (c : CPort) (m : MPort) => { base.pu with cport := c, mport := m }
    let write : Access := .write 0 [fullWord 1] true
    runs base .ackError = true ∧ base.cu.step = .idle ∧ base.pu.link ≠ .starting ∧ State.reset.pu.link = .starting ∧
    (presented (.waiting write) (.read (fetchRead 3 0) false)).cport = .waiting write ∧
    (presented .empty (.read (fetchRead 3 0) false)).mport = .read (fetchRead 3 0) false ∧
    (presented (.granted write) .controller).cport = .granted write ∧
    (presented (.granted (.read 0 [none])) .controller).cport = .granted (.read 0 [none]) ∧
    (presented (.anchorHeld (.read 0x3FFF000 1)) .free).cport = .anchorHeld (.read 0x3FFF000 1) := by decide +kernel

theorem test_witness_CrstResetsTheControllerSide_held :
    let held : Access := .read 0x43C [none]
    let left := fun (n : Nat) => ((mixed held n).pu.queue.take n).filter fun e => e.begun || !e.kind.isMessage
    (mixed held 3).cu.step = .idle ∧ (mixed held 3).pu.cport = .hitHeld held 3 ∧ (left 3).map held.meets = [true] ∧
    (left 1).map held.meets = [] ∧
    (mixed held 3).afterCrst.pu.cport = .hitHeld held 1 ∧ (mixed held 1).afterCrst.pu.cport = .hitHeld held 1 ∧
    (mixed (.read 0x800 [none]) 3).afterCrst.pu.cport = .waiting (.read 0x800 [none]) ∧
    ({ kind := .reply false, addr := 0, bytes := [] } : Entry).kind = .reply false ∧
    (∀ orphan, ({ kind := .notice 0, addr := 0, bytes := [] } : Entry).kind ≠ .reply orphan) := by decide +kernel

/-! ### Settings and power-up -/

/-- The base state with an operation in flight. -/
def inFlight (op : SettingsOp) : State := { base with sp := { base.sp with inFlight := some op } }

theorem test_witness_SettingsLineOperations :
    (State.reset.sp.inFlight = none ∧ State.reset.sp.requests = [] ∧ State.reset.pu.link = .starting) ∧
    (let s := { base with sp := { requests := [.commandRead [0, 1, 2, 3] false] } }
     s.sp.inFlight = none ∧ s.sp.requests = .commandRead [0, 1, 2, 3] false :: []) ∧
    (inFlight .preload).sp.inFlight = some .preload ∧
    { base with sp := { base.sp with retryTimer := some 0 } }.sp.retryTimer = some 0 ∧
    (inFlight (.epochRetry [])).sp.inFlight = some (.epochRetry []) := by decide +kernel

theorem test_preload_begins_of_itself :
    after State.reset .settingsOperationStart (fun t => t.sp.inFlight) = some (some .preload) ∧
    after (inFlight .preload) (.preloadReadEnd false []) (fun t => t.sp.requests) = some [.epochWrite (epochRecord 1)] ∧
    (epochRecord 1).map SettingsByte.offset = [1000, 1001, 1002, 1003, 1004, 1005, 1006, 1007] ∧
    ((epochRecord 1).take 4).map SettingsByte.value = [1, 0, 0, 0] := by decide +kernel

/-- An image without records, its epoch record 41. -/
def imageBytes : List Byte :=
  let head : List Byte := [0x4C, 0x56, 1, 0, 0, 0]
  let epoch : List Byte := [41, 0, 0, 0]
  head ++ wordBytes (crc32 head) ++ List.replicate 990 0 ++ epoch ++ wordBytes (crc32 epoch)

theorem test_witness_PreloadIsJudged :
    (inFlight .preload).sp.inFlight = some .preload ∧ imageBytes.length = 1008 ∧ imageValid imageBytes = true ∧
    imageValid (List.replicate 1008 0) = false ∧
    (crc32 (bytesAt imageBytes 1000 4)).toNat = leNat imageBytes 1004 4 ∧
    (crc32 (bytesAt (List.replicate 1008 0) 1000 4)).toNat ≠ leNat (List.replicate 1008 0) 1004 4 := by decide +kernel

/-- A record of a tag with some bytes of value, those of each argument one field. -/
def settingsRecord (tag : Nat) (fields : List (Nat × Nat)) : Record :=
  { tag := tag, value := fields.flatMap fun f => leBytes f.1 f.2 }

/-- Records at the ends of the ranges of each tag. -/
def goodRecords : List Record :=
  [settingsRecord 1 [(4, 1000000), (1, 10)], settingsRecord 1 [(4, 0), (1, 1)],
   settingsRecord 2 [(1, 11), (4, 11000), (4, 22000), (1, 10), (1, 60), (2, 3600)],
   settingsRecord 2 [(1, 0), (4, 1400), (4, 1400), (1, 1), (1, 2), (2, 0)],
   settingsRecord 3 [(1, 5), (4, 44000), (1, 11)], settingsRecord 3 [(1, 0), (4, 0), (1, 0)],
   settingsRecord 4 [(2, 1000), (2, 5000), (2, 600), (2, 1), (2, 1), (1, 1), (1, 100), (1, 1), (1, 1), (1, 1)],
   settingsRecord 5 [(4, 2000000), (4, 2000000), (4, 250000), (4, 0)], settingsRecord 5 [(4, 1000), (4, 0), (4, 0), (4, 250000)],
   settingsRecord 6 [(4, 0x3FF7000), (2, 512), (2, 512)], settingsRecord 6 [(4, 0), (2, 16), (2, 0)],
   settingsRecord 7 [(4, 0x3FFE300), (2, 256), (1, 16)], settingsRecord 7 [(4, 0xFFFFFFFF), (2, 32), (1, 1)],
   settingsRecord 8 [(2, 4095), (2, 0)], settingsRecord 9 [(4, 0x77777777)], settingsRecord 10 [(1, 7), (1, 1), (1, 7)]]

/-- Records a step past a range or a length of each tag. -/
def badRecords : List Record :=
  [settingsRecord 1 [(4, 1000001), (1, 10)], settingsRecord 1 [(4, 0), (1, 11)], settingsRecord 1 [(4, 0), (1, 0)],
   settingsRecord 1 [(4, 0)], settingsRecord 2 [(1, 12), (4, 1400), (4, 1400), (1, 1), (1, 2), (2, 0)],
   settingsRecord 2 [(1, 0), (4, 1400), (4, 1400), (1, 1), (1, 2), (2, 59)], settingsRecord 2 [],
   settingsRecord 3 [(1, 6), (4, 0), (1, 12)], settingsRecord 3 [(1, 5), (4, 44100), (1, 11)], settingsRecord 3 [(1, 5), (4, 0), (1, 9)],
   settingsRecord 3 [], settingsRecord 4 [(2, 1001), (2, 5000), (2, 600), (2, 1), (2, 1), (1, 1), (1, 100), (1, 1), (1, 1), (1, 1)],
   settingsRecord 5 [(4, 999), (4, 0), (4, 0), (4, 0)], settingsRecord 5 [(4, 1000), (4, 1001), (4, 0), (4, 0)],
   settingsRecord 6 [(4, 0x3FF7040), (2, 512), (2, 0)], settingsRecord 6 [(4, 0), (2, 15), (2, 0)],
   settingsRecord 7 [(4, 0x3FFE320), (2, 256), (1, 16)], settingsRecord 7 [(4, 0), (2, 32), (1, 17)],
   settingsRecord 8 [(2, 4096), (2, 0)], settingsRecord 9 [(4, 0x80000000)], settingsRecord 10 [(1, 7), (1, 0), (1, 7)]]

theorem test_preload_records_taken : ∀ r ∈ goodRecords, (({} : Judged).take r).bad = [] := by decide +kernel
theorem test_preload_records_rejected : ∀ r ∈ badRecords, ({} : Judged).take r = { bad := [r.tag] } := by decide +kernel

theorem test_witness_PreloadIsJudged_records :
    (∀ k : Fin 10, (∃ r ∈ goodRecords, r.tag = k.val + 1) ∧ ∃ r ∈ badRecords, r.tag = k.val + 1) ∧
    (let f := leNat (settingsRecord 2 [(1, 11), (4, 11000), (4, 22000), (1, 10), (1, 60), (2, 3600)]).value
     f 0 1 = (11 : Fin 12).val ∧ f 1 4 = 11000 ∧ f 5 4 = 22000 ∧ f 9 1 = 10 ∧ f 10 1 = 60 ∧ f 11 2 = 3600) ∧
    (let f := leNat (settingsRecord 3 [(1, 5), (4, 44000), (1, 11)]).value
     f 0 1 = (5 : Fin 6).val ∧ f 1 4 = 44000 ∧ f 5 1 = 2 * (5 : Fin 6).val + 1) ∧
    11 < leNat [12] 0 1 ∧ 5 < leNat [6] 0 1 ∧ 10 < (settingsRecord 11 []).tag := by decide +kernel

theorem test_witness_PreloadIsJudged_checks :
    let capped := fun (cap : Nat) => ({ image := { pairs := Vector.replicate 6 { cap := cap } } } : Judged)
    let windows := fun (base : Nat) =>
      ({ receipt := { base := some 0, slots := 16 }, snapshot := { base := some base } } : Image)
    max 1400 1400 ≤ ((capped 1400).image.pairs[(5 : Fin 6)]).cap ∧ ¬ max 1400 1400 ≤ ((capped 1300).image.pairs[(5 : Fin 6)]).cap ∧
    ((capped 0).image.pairs[(5 : Fin 6)]).cap = 0 ∧ windowsMeet (windows 1024).receipt (windows 1024).snapshot = false ∧
    windowsMeet (windows 992).receipt (windows 992).snapshot = true ∧
    ([7] : List Byte).length < (2 : Byte).toNat ∧ (2 : Byte).toNat ≤ ([7, 8] : List Byte).length := by decide +kernel

/-- The part awaiting the end of the epoch write-back, with a settings image found bad or not, and the C-port. -/
def writingEpoch (bad : List Nat) (c : CPort) : State :=
  { State.reset with
    sp := { inFlight := some (.epochWrite (epochRecord 1)), found := { epoch := 1, bad := bad } }
    pu := { State.reset.pu with cport := c } }

theorem test_witness_StartingEndTakesThePreloadedValues :
    let read : Request := .read 0x3FFF008 1
    (writingEpoch [0] .empty).pu.link = .starting ∧ (writingEpoch [0] .empty).sp.inFlight = some (.epochWrite (epochRecord 1)) ∧
    (∀ r, (writingEpoch [0] .empty).pu.cport ≠ .anchorHeld r) ∧ (writingEpoch [] (.anchorHeld read)).pu.cport = .anchorHeld read ∧
    (writingEpoch [0] .empty).sp.found.bad ≠ [] := by
  refine ⟨rfl, rfl, ?_, rfl, by decide⟩
  rintro r ⟨⟩

theorem test_starting_end_accepts_the_held_read :
    after (writingEpoch [] (.anchorHeld (.read 0x3FFF008 1))) (.startingEnd true []) (fun t => (t.pu.link, t.pu.completion))
      = some (.detached, some { ok := true, data := [1] }) := by decide +kernel

/-- The Command Unit waits for a settings operation. -/
def awaiting (op : SettingsOp) : State :=
  { inFlight op with cu := { base.cu with step := .executing 3 [0x00070040, 2045] true } }

theorem test_witness_SettingsCommands :
    let read := fun (discarded : Bool) => SettingsOp.commandRead [2045, 2046, 2047, 0] discarded
    let write : SettingsOp := .commandWrite [{ offset := 2047, value := 5 }] false
    2047 < (2048 : Word).toNat ∧ (1023 : Word).toNat < 1024 ∧ (1024 : Word).toNat = 1024 ∧ (2047 : Word).toNat ≤ 2047 ∧
    runs base (.settingsRead 2047) = true ∧ runs base (.settingsWrite 1024 5) = true ∧ runs base (.settingsRead 2048) = true ∧
    runs base (.settingsWrite 1023 5) = true ∧
    ((awaiting (read false)).cu.step = .executing 3 [0x00070040, 2045] true ∧
      (awaiting (read false)).sp.inFlight = some (read false)) ∧
    ((awaiting write).cu.step = .executing 3 [0x00070040, 2045] true ∧ (awaiting write).sp.inFlight = some write) ∧
    (inFlight (read true)).sp.inFlight = some (read true) := by decide +kernel

theorem test_settings_offsets :
    (settingsReadEffect 2046 base).1.sp.requests = [.commandRead [2046, 2047, 0, 1] false] ∧
    (settingsWriteEffect 2046 0xDDCCBBAA base).1.sp.requests
      = [.commandWrite [{ offset := 2046, value := 0xAA }, { offset := 2047, value := 0xBB }] false] := by decide +kernel

/-! ### Meter channels -/

theorem test_witness_MeterEdgesJudgePulses :
    ((pulse 10).channel 4).lineActive = true ∧ (base.channel 4).lineActive = false ∧ (base.channel 4).inProgress = none ∧
    ((base.setChannel 4 { lineActive := true }).channel 4).lineActive = true ∧
    ((base.setChannel 4 { lineActive := true }).channel 4).inProgress = none ∧ ((pulse 10).channel 4).inProgress = some 0 ∧
    ((pulse 9).clock.ms - 0).toNat = 9 ∧ ((pulse 10).clock.ms - 0).toNat = 10 ∧ ((pulse 200).clock.ms - 0).toNat = 200 ∧
    200 < ((pulse 201).clock.ms - 0).toNat := by decide +kernel

theorem test_witness_AcceptedPulseChangesItsChannel :
    ((base.setChannel 16 { lastEdge := some 5 }).channel 16).lastEdge = some 5 ∧ (base.channel 11).lastEdge = none ∧
    (11 : Fin 17) = bayChannel 11 ∧ 12 ≤ (12 : Fin 17).val ∧ (base.channel 12).round < wordMax ∧ (14 : Fin 17).val ≤ 14 ∧
    (15 : Fin 17).val = 15 ∧ (16 : Fin 17).val = 16 ∧ (4 : Fin 17) ≠ 5 ∧
    (let ba := { base.ba with calibrated := true, eb := 20010 }
     (ba.calibrated && decide (min ba.cap (ba.eb - 10) ≤ ba.reserve)) ≠ ba.atReserve ∧
     (ba.calibrated && decide (min ba.cap (ba.eb + 10) ≤ ba.reserve)) = ba.atReserve) := by decide +kernel

theorem test_witness_RejectedPulseCountsAsNoise :
    base.pu.link ≠ .starting ∧ State.reset.pu.link = .starting ∧
    ((base.setChannel 4 { noise := 14 }).channel 4).noise + 1 < 16 ∧
    ((base.setChannel 4 { noise := 15, noiseReported := true }).channel 4).noiseReported = true ∧
    16 ≤ ((base.setChannel 4 { noise := 15 }).channel 4).noise + 1 ∧
    ((base.setChannel 4 { noise := 15 }).channel 4).noiseReported = false ∧ (11 : Fin 17) = bayChannel 11 ∧
    12 ≤ (12 : Fin 17).val := by decide +kernel

/-- A charging bay 4 at a millisecond. -/
def chargingAt (ms : Word) : State :=
  { (base.setBay 4 { bay4 .charging with drive := true, allowance := 7400 }).setChannel 4
      { lastEdge := some 0, lastPeriod := some 900 } with clock := { ms := ms } }

theorem test_witness_StalenessAndSilence :
    ((chargingAt 0).channel 4).lastEdge = some 0 ∧ 3600000 < ((chargingAt 3600001).clock.ms - 0).toNat ∧
    ((chargingAt 3600000).clock.ms - 0).toNat ≤ 3600000 ∧
    ((chargingAt 60001).bay 4).drive = true ∧ 0 < ((chargingAt 60001).bay 4).allowance ∧
    ((chargingAt 60001).channel (bayChannel 4)).silent = false ∧ ((chargingAt 60001).channel (bayChannel 4)).inProgress = none ∧
    (chargingAt 60001).meterConfig.silenceLimit * 1000
      < ((chargingAt 60001).clock.ms - ((chargingAt 60001).channel (bayChannel 4)).silenceRef).toNat ∧
    (base.bay 4).drive = false ∧ (base.bay 4).allowance = 0 ∧
    ((base.setChannel 4 { silent := true }).channel (bayChannel 4)).silent = true ∧
    ((chargingAt 0).channel 4).lastPeriod = some 900 ∧ (base.channel 4).lastPeriod = none := by decide +kernel

theorem test_witness_RunawayIsJudgedPerPeriod :
    14400000 ≤ 5 * 7200 * 400 ∧ 5 * 7200 * 399 < 14400000 ∧ ({ runCount := 1 } : Channel).runCount < 2 ∧
    2 ≤ ({ runCount := 2 } : Channel).runCount ∧ (base.channel (bayChannel 4)).round < wordMax ∧
    (base.channel (bayChannel 4)).lastEdge = none ∧ ((chargingAt 0).channel (bayChannel 4)).lastEdge = some 0 := by decide +kernel

theorem test_third_runaway_period_stops_the_bay :
    let s := chargingAt 389
    let fast := { s.setChannel 4 { lastEdge := some 0, inProgress := some 379, runCount := 2, lineActive := true } with nu := s.nu }
    after fast (.meterTrailingEdge 4) (fun t => ((t.channel 4).runaway, t.el.status, (t.bay 4).meterFaults))
      = some (true, ErrorKind.meterRunaway.bit, 1) := by decide +kernel

/-! ### Bay lines and timers -/

theorem test_witness_LineChangesRestartFilters :
    (base.bay 4).plugLine ≠ true ∧ (base.bay 4).readyLine ≠ true ∧ (base.bay 4).releaseLine ≠ true ∧
    (base.ba.line .ready).line ≠ true ∧ (base.bay 4).plugLine = false ∧ (base.bay 4).readyLine = false ∧
    (base.bay 4).releaseLine = false ∧ (base.ba.line .ready).line = false := by decide +kernel

/-- All ten bay states. -/
def everyState : List BayState :=
  [.vacant, .plugged, .authorised, .paused, .charging, .releasePending, .stopping, .issuing, .ended, .faulted]

theorem test_witness_PlugFilterTakesPlugEvents :
    base.pu.link ≠ .starting ∧ State.reset.pu.link = .starting ∧
    ((with4 .ended fun x => { x with plugTimer := some 0 }).bay 4).plug.getD false
      = ((with4 .ended fun x => { x with plugTimer := some 0 }).bay 4).plugLine ∧
    (∀ k ∈ everyState,
      let rising := (with4 k fun x => { x with plugTimer := some 0, plug := none }).bay 4
      let falling := (with4 k fun x => { x with plugTimer := some 0, plugLine := false }).bay 4
      rising.plugTimer = some 0 ∧ rising.state = k ∧ rising.plug ≠ some true ∧ rising.plugLine = true ∧
      falling.plugTimer = some 0 ∧ falling.state = k ∧ falling.plug = some true ∧ falling.plugLine = false) ∧
    BayState.isActive .charging = true := by decide +kernel

theorem test_witness_ReadyFilterTakesReadyEvents :
    base.pu.link ≠ .starting ∧ State.reset.pu.link = .starting ∧
    (∀ k ∈ everyState,
      let rising := (with4 k fun x => { x with readyTimer := some 0, readyLine := true }).bay 4
      let falling := (with4 k fun x => { x with readyTimer := some 0, ready := true, drive := k == .stopping }).bay 4
      rising.readyTimer = some 0 ∧ rising.state = k ∧ rising.ready = false ∧ rising.readyLine = true ∧
      falling.readyTimer = some 0 ∧ falling.state = k ∧ falling.ready = true ∧ falling.readyLine = false ∧
      (falling.drive = true ↔ k = .stopping)) := by decide +kernel

theorem test_witness_ReleaseFilterTakesPresses :
    base.pu.link ≠ .starting ∧ State.reset.pu.link = .starting ∧
    (∀ k ∈ everyState,
      let pressed := (with4 k fun x => { x with releaseLineTimer := some 0, releaseLine := true }).bay 4
      let serviced := (with4 k fun x => { x with releaseLineTimer := some 0, releaseLine := true, maintenance := some .red }).bay 4
      pressed.releaseLineTimer = some 0 ∧ pressed.state = k ∧ pressed.release = false ∧ pressed.releaseLine = true ∧
      pressed.maintenance = none ∧ serviced.releaseLineTimer = some 0 ∧ serviced.state = k ∧ serviced.maintenance ≠ none) ∧
    ((with4 .ended fun x => { x with releaseLineTimer := some 0, release := true }).bay 4).release = true := by decide +kernel

theorem test_witness_FeedbackIsWatchedAndItsFaultActs :
    base.pu.link ≠ .starting ∧ (base.bay 4).feedback ≠ true ∧ (base.bay 4).feedback = false ∧
    (base.bay 4).drive = (base.bay 4).feedback ∧
    (∀ k ∈ everyState,
      let x := (with4 k fun x => { x with feedback := true }).bay 4
      let y := (with4 k fun x => { x with feedback := true, feedbackTimer := some 0 }).bay 4
      x.state = k ∧ x.drive ≠ x.feedback ∧ x.feedbackFound = false ∧ x.feedbackTimer = none ∧
      y.state = k ∧ y.feedbackTimer = some 0) := by decide +kernel

theorem test_witness_TimersAndMeterFaultsStopABay :
    let idle := (with4 .authorised fun x => { x with idleTimer := some 0 }).bay 4
    let window := (with4 .releasePending fun x => { x with releaseTimer := some 0 }).bay 4
    let delay := (with4 .stopping fun x => { x with stopDelayTimer := some 0, drive := true }).bay 4
    let fault := (with4 .charging fun x => { x with meterFaults := 1 }).bay 4
    let late := (with4 .stopping fun x => { x with meterFaults := 1 }).bay 4
    (idle.idleTimer = some 0 ∧ idle.state = .authorised) ∧ (window.releaseTimer = some 0 ∧ window.state = .releasePending) ∧
    (delay.stopDelayTimer = some 0 ∧ delay.state = .stopping ∧ delay.drive = true) ∧
    (base.pu.link ≠ .starting ∧ fault.meterFaults = 0 + 1 ∧ fault.state.isActive = true) ∧
    (late.meterFaults = 0 + 1 ∧ late.state.isActive = false) ∧
    (((at4 .stopping).bay 4).state = .stopping ∧ ((at4 .stopping).bay 4).drive = false ∧
      ((at4 .stopping).bay 4).feedback = false) ∧ ((at4 .charging).bay 4).state ≠ .stopping := by decide +kernel

theorem test_witness_ReceiptFieldsStandAtTheirOffsets : ({ stopTime := some 5 } : Session).stopTime = some 5 := rfl

theorem test_witness_IssuingEndsWithTheClosingReport :
    let x := (with4 .issuing fun x => { x with receiptFinished := true }).bay 4
    let y := (with4 .ended fun x => { x with closedReports := 1 }).bay 4
    x.state = .issuing ∧ x.receiptFinished = true ∧ y.closedReports = 0 + 1 := by decide +kernel

/-! ### Sessions -/

theorem test_witness_AuthoriseOpensASession :
    runs plugged4 (.authorise 4 3 1000000 7) = true ∧ runs base (.authorise 12 1 0 7) = true ∧
    11 < (12 : Byte).toNat ∧ 3 < (4 : Word).toNat ∧ 1000000 < (1000001 : Word).toNat ∧
    (4 : Byte).toNat = (4 : Fin 12).val ∧ (3 : Word).toNat = SessionClass.economy.code ∧
    sixErrors.el.hold = true ∧ plugged4.el.hold = false ∧ (plugged4.bay 4).maintenance = none ∧
    ((with4 .plugged fun x => { x with maintenance := some .off }).bay 4).maintenance ≠ none ∧
    (base.bay 4).state = .vacant ∧ ((at4 .faulted).bay 4).state ≠ .vacant ∧ ((at4 .faulted).bay 4).state ≠ .plugged ∧
    ((at4 .faulted).bay 4).state ≠ .ended ∧ (plugged4.bay 4).state = .plugged ∧
    (let full := { plugged4 with rw := { plugged4.rw with uncollected := 16 } }
     full.rw.geometry.slots - full.rw.reserved - full.rw.uncollected = 0) ∧
    (let last := { plugged4 with rw := { plugged4.rw with lastIssued := 4294967294, reserved := 1 } }
     last.rw.lastIssued + last.rw.reserved = wordMax) ∧
    0 < plugged4.rw.geometry.slots - plugged4.rw.reserved - plugged4.rw.uncollected ∧
    plugged4.rw.lastIssued + plugged4.rw.reserved ≠ wordMax := by decide +kernel

theorem test_witness_SessionCommandsAreCheckedAndAct :
    let s := at4 .releasePending
    runs s (.stop 4 41) = true ∧ runs s (.extendQuota 4 41 995000) = true ∧ runs s (.extendQuota 4 41 0) = true ∧
    runs s (.releaseCancel 4 41) = true ∧ runs s (.stop 12 41) = true ∧ 11 < (12 : Byte).toNat ∧
    (s.bay 4).lastSession ≠ some 40 ∧ (s.bay 4).lastSession = some 41 ∧ (s.bay 4).state.isActive = true ∧
    ((at4 .ended).bay 4).lastSession = some 41 ∧ ((at4 .ended).bay 4).state.isActive = false ∧
    ((with4 .paused fun x => { x with session := { x.session with quota := 0 } }).bay 4).session.quota = 0 ∧
    (s.bay 4).session.quota ≠ 0 ∧ 1000000 < (s.bay 4).session.quota + (995001 : Word).toNat ∧
    (s.bay 4).session.quota + (995000 : Word).toNat ≤ 1000000 ∧ (s.bay 4).state = .releasePending ∧
    ((at4 .paused).bay 4).state ≠ .releasePending := by decide +kernel

theorem test_witness_ReleaseConfirmStopsAReleasePendingBay :
    (4 : Byte).toNat = (4 : Fin 12).val ∧ runs (at4 .releasePending) (.releaseConfirm 4 41) = true ∧
    ((at4 .releasePending).bay 4).lastSession = some 41 ∧ ((at4 .releasePending).bay 4).state = .releasePending ∧
    ((at4 .charging).bay 4).lastSession = some 41 ∧ ((at4 .charging).bay 4).state = .charging ∧
    ((at4 .authorised).bay 4).state = .authorised ∧ ((at4 .paused).bay 4).state = .paused := by decide +kernel

theorem test_witness_ReleasePendingKeepsItsState :
    let s := with4 .releasePending fun x => { x with readyTimer := some 0, ready := true, drive := true }
    (s.bay 4).state = .releasePending ∧ s.pu.link ≠ .starting ∧ (s.bay 4).readyTimer = some 0 ∧ (s.bay 4).allowance = 0 := by
  decide +kernel

theorem test_witness_MaintenanceIsSetAndEnds :
    11 < (12 : Byte).toNat ∧ 5 < (6 : Word).toNat ∧ runs base (.maintenanceOn 4 5) = true ∧
    runs base (.maintenanceOff 4 0) = true ∧ (5 : Word).toNat = Light.red.code ∧ (4 : Byte).toNat = (4 : Fin 12).val ∧
    (base.bay 4).maintenance = none ∧
    (let x := (with4 .charging fun x => { x with maintenance := some .off, deferredRelease := true }).bay 4
     x.maintenance ≠ none ∧ x.deferredRelease = true ∧ x.state = .charging) ∧
    (let x := (with4 .stopping fun x => { x with maintenance := some .off, deferredRelease := true }).bay 4
     x.maintenance ≠ none ∧ x.state ≠ .authorised ∧ x.state ≠ .paused ∧ x.state ≠ .charging) ∧
    (let x := (with4 .charging fun x => { x with maintenance := some .off }).bay 4
     x.maintenance ≠ none ∧ x.deferredRelease = false) := by decide +kernel

theorem test_witness_ClearBayAndSetBay :
    11 < (12 : Byte).toNat ∧ runs (at4 .faulted) (.clearBay 4) = true ∧ ((at4 .faulted).bay 4).feedback = false ∧
    ((at4 .ended).bay 4).state ≠ .faulted ∧
    ((with4 .faulted fun x => { x with feedback := true }).bay 4).feedback = true ∧
    runs base (.setBay 4 11000 22000 10 60 3600 44000 0x80000005) = true ∧
    (0x80000005 : Word).getLsbD 31 = true ∧ (0x80000005 : Word).toNat % 16 / 2 = (4 : Fin 12).val / 2 ∧
    max (11000 : Word).toNat (base.bay (partnerOf 4)).config.pmin ≤ (44000 : Word).toNat ∧
    (base.bay 4).state.isOpen = false ∧ (base.bay (partnerOf 4)).state.isOpen = false ∧
    ¬ 1400 ≤ (1300 : Word).toNat ∧ ((at4 .paused).bay 4).state.isOpen = true ∧
    ((base.setBay 5 (bay4 .paused)).bay (partnerOf 4)).state.isOpen = true := by decide +kernel

/-! ### Pulses, attribution, grants and plans -/

theorem test_witness_PulsesCountAgainstTheQuota :
    let n := fun (k : BayState) (quota remaining : Nat) =>
      (with4 k fun x => { x with session := { x.session with quota := quota, remaining := remaining } }).bay 4
    ((n .issuing 0 0).state.countsPulses = false ∧ (n .issuing 0 0).unownedPulses < wordMax) ∧
    (∀ x ∈ [n .charging 0 0, n .charging 10 0, n .charging 10 2, n .stopping 10 1, n .charging 10 1],
      x.state.countsPulses = true ∧ x.sessionPulses < wordMax ∧ x.roundOverQuota < wordMax) ∧
    (n .charging 0 0).session.quota = 0 ∧ (n .charging 10 0).session.remaining = 0 ∧ (n .charging 10 0).session.quota ≠ 0 ∧
    1 < (n .charging 10 2).session.remaining ∧ (n .charging 10 2).session.quota ≠ 0 ∧
    (n .stopping 10 1).session.remaining = 1 ∧ (n .stopping 10 1).state = .stopping ∧
    (n .charging 10 1).session.remaining = 1 ∧ (n .charging 10 1).state.isActive = true := by decide +kernel

theorem test_witness_AttributionSplitsTheRound :
    attributing.state.countsPulses = true ∧ attributing.session.tallies.total + attributing.sessionPulses ≤ wordMax ∧
    attributing.keptSession = some attributing.session.number ∧
    0 < attributing.keptPortions.solar + attributing.keptPortions.battery + attributing.keptPortions.grid ∧
    { attributing with keptSession := none }.keptSession ≠ some attributing.session.number ∧
    (let x := { attributing with
       session := { attributing.session with tallies := { total := wordMax - 3, grid := wordMax - 3 } }, sessionPulses := 4 }
     x.state.countsPulses = true ∧ wordMax < x.session.tallies.total + x.sessionPulses ∧ x.session.tallies.total ≤ wordMax ∧
     x.session.tallies.solar + x.session.tallies.battery + x.session.tallies.grid = x.session.tallies.total) ∧
    (bay4 .issuing).state.countsPulses = false := by decide +kernel

theorem test_witness_BayTakesItsGrant :
    let p : PlanBay := { grant := 7400, session := some 41 }
    let grant := fun (k : BayState) (p : PlanBay) =>
      if (bay4 k).attribute.state.isOpen = true ∧ p.session = some (bay4 k).attribute.session.number then p.grant else 0
    0 < grant .paused p ∧ 0 < grant .charging p ∧ grant .paused { p with session := some 40 } = 0 ∧ grant .charging {} = 0 ∧
    (bay4 .paused).attribute.session.chargedMark = false ∧
    { bay4 .paused with session := { (bay4 .paused).session with chargedMark := true } }.attribute.session.chargedMark = true ∧
    ((with4 .paused id).takePlan 4 p).bay 4 ≠ (bay4 .paused) ∧ (bay4 .paused).attribute.allowance = 0 ∧
    0 < (((with4 .paused id).takePlan 4 p).bay 4).allowance ∧ (((with4 .stopping id).takePlan 4 p).bay 4).allowance = 0 := by
  decide +kernel

/-- A bay PAUSED again within the round uses the grant staged for its session (log 40). -/
theorem test_paused_again_uses_the_staged_grant :
    let s := (closed4 .charging).readyLow 4
    (s.bay 4).state = .authorised ∧ ((s.readyHigh 4).bay 4).state = .paused ∧
    (((s.readyHigh 4).takePlan 4 { grant := 3000, session := some 41 }).bay 4).allowance = 3000 := by decide +kernel

/-- The base state at a boundary, a plan staged, with a GRID power of 7,500 W against a limit, at an episode count. -/
def dueBoundary (limit episodes : Nat) : State :=
  { (base.setChannel 14 { lastPeriod := some 4800, lastEdge := some 0 }) with
    al := { base.al with boundaryTimer := some 0, staged := some { roundLength := 2 }, limit := limit, episodes := episodes } }

theorem test_witness_BoundaryAppliesTheStagedPlan :
    (dueBoundary 7499 2).al.boundaryTimer = some 0 ∧ (dueBoundary 7499 2).al.staged = some { roundLength := 2 } ∧
    (dueBoundary 7499 2).al.limit < (dueBoundary 7499 2).estimate 14 ∧ (dueBoundary 7499 2).al.episodes = 2 ∧
    (dueBoundary 7499 2).al.episodeReported = false ∧ (dueBoundary 7500 0).estimate 14 ≤ (dueBoundary 7500 0).al.limit ∧
    (let x := (closed4 .paused).bay 4
     x.state = .paused ∧ x.drive = true ∧ x.ready = true) ∧ ((closed4 .stopping).bay 4).state = .stopping := by
  decide +kernel

theorem test_witness_PlanIsStagedFromItsPots :
    ({ base with al := { base.al with latched := some latched1 } }.al.latched = some latched1 ∧
      { base with al := { base.al with latched := some latched1 } }.al.staged = none) ∧
    latched1.shop + 12000 ≤ latched1.limit ∧ latched1.limit ≤ latched1.shop + 12000 ∧
    latched1.limit ≤ latched1.shop + 22000 ∧ latched1.offline = false ∧ latched1.calibrated = true ∧
    ¬ ({ latched1 with calibrated := false } : Latched).calibrated = true ∧ latched1.reserve < latched1.eb ∧
    ({ latched1 with eb := 20000 } : Latched).eb ≤ latched1.reserve := by decide +kernel

theorem test_witness_PlanStaysWithinThePots : latched1.legal := by
  refine ⟨?_, ?_, ?_, ?_⟩ <;> decide +kernel

theorem test_witness_PlanStaysWithinThePots_portions :
    let bs := (List.finRange 12).filter fun b => (latched2.bay b).eligible && (latched2.bay b).cls == some .economy
    latched2.map.economy.getLsbD 2 = false ∧ latched2.map.economy.getLsbD 1 = true ∧ 6 ∈ bs ∧
    bs = [] ++ 6 :: [7, 10] ∧ bs = [6, 7] ++ 10 :: [] := by decide +kernel

/-- The Pmins of a class's bays. -/
def needOf (l : Latched) (c : SessionClass) : Nat :=
  (((List.finRange 12).filter fun b => (l.bay b).eligible && (l.bay b).cls == some c).map fun b => (l.bay b).pmin).sum

theorem test_witness_GrantsAreLegalAndPairsWithinCaps : latched2.legal ∧ (latched2.pairs[(1 : Fin 6)]).cap ≠ 0 := by
  refine ⟨⟨?_, ?_, ?_, ?_⟩, ?_⟩ <;> decide +kernel

theorem test_witness_GrantsAreLegalAndPairsWithinCaps_classes :
    let v := latched2.serving (latched2.pots 0)
    let pots := latched2.pots 0
    let left := (pots.less v.priority.deductions).less v.standard.deductions
    (needOf latched2 .standard = 2800 ∧ 2800 ≤ (pots.less v.priority.deductions).sum) ∧
    (needOf latched2 .economy = 5800 ∧ left.solar + left.battery < 5800) ∧ latched2.map.economy = 3 ∧
    (v.served 3 = true ∧ (3, grantIn v.grants 3) ∈ v.standard.grants) ∧ v.served 6 = false := by decide +kernel

theorem test_witness_LoneGrantOfACappedPairIsCutToTheCap :
    let fp := (latched1.pairs[(4 : Fin 6)]).cap
    latched1.legal ∧ fp ≠ 0 ∧ fp < 7500 ∧ 3700 + 3700 ≤ fp :=
  ⟨test_witness_PlanStaysWithinThePots, by decide +kernel, by decide +kernel, by decide +kernel⟩

theorem test_witness_LoneGrantOfACappedPairIsCutToTheCap_two_grants :
    let l := latched2
    let fp := (l.pairs[(1 : Fin 6)]).cap
    latched2.legal ∧ (l.pairs[(0 : Fin 6)]).cap = 0 ∧ fp = 2000 ∧ fp < 1400 + 7400 ∧
    fp < (l.bay (lowerBay 1)).pmin + (l.bay (higherBay 1)).pmin ∧ (l.pairs[(1 : Fin 6)]).evenIsOdd = false ∧
    (2 : Word).toNat % 2 = 0 ∧ (3 : Word).toNat % 2 ≠ 0 ∧
    (latched1.bay (lowerBay 4)).pmin + (latched1.bay (higherBay 4)).pmin ≤ (latched1.pairs[(4 : Fin 6)]).cap ∧
    latched1.pairGrants 0 (fun _ => 6000) 4 = (3700, 3700) ∧ l.pairGrants 2 (fun _ => 6000) 1 = (2000, 0) ∧
    l.pairGrants 3 (fun _ => 6000) 1 = (0, 2000) :=
  ⟨test_witness_GrantsAreLegalAndPairsWithinCaps.1, by decide +kernel⟩

/-! ### Site, battery and windows -/

theorem test_witness_SiteSettingsAreReplaced :
    1000 ≤ ({ subMs := 1000 } : Clock).subMs ∧ runs base (.setTime 0) = true ∧ 1000000 < (1000001 : Word).toNat ∧
    10 < (11 : Word).toNat ∧ runs base (.setSite 1000000 10) = true ∧ runs base (.setSite 0 0) = true ∧
    7 < (8 : Word).toNat ∧ runs base (.setSupplyMap 7 1 7) = true ∧ (999 : Word).toNat < 1000 ∧
    2000000 < (2000001 : Word).toNat ∧ 250000 < (250001 : Word).toNat ∧
    runs base (.setBattery 2000000 2000000 250000 250000) = true ∧ runs base (.setBattery 1000 0 0 0) = true ∧
    base.ba.state = .offline ∧ { base with ba := { base.ba with state := .idle } }.ba.state ≠ .offline ∧
    7 < (0x80000000 : Word).toNat / 16 ^ 7 % 16 ∧ (∀ k : Fin 8, (0x77777777 : Word).toNat / 16 ^ k.val % 16 ≤ 7) ∧
    runs base (.causeMap 0x77777777) = true ∧ runs base (.causeMap 0x80000000) = true := by decide +kernel

theorem test_witness_BatteryLinesAndEvents :
    let run := fun (line taken : Bool) => (base.setLine .ready { line := line, taken := taken, timer := some 0 }).ba.line .ready
    (run true true).timer = some 0 ∧ (run true true).taken = (run true true).line ∧ base.pu.link ≠ .starting ∧
    State.reset.pu.link = .starting ∧ (run false true).taken = true ∧ (run false true).line = false ∧
    (run false true).timer = some 0 ∧ (run true false).taken = false ∧ (run true false).line = true ∧
    base.ba.setpoint = 0 ∧ { base.ba with setpoint := -5, state := .discharging }.setpoint ≠ 0 ∧
    base.ba.state = .offline ∧ { base.ba with state := .idle }.state ≠ .offline := by decide +kernel

theorem test_witness_SnapshotsGoToTheirWindow :
    let legal := fun (base stride decimation : Word) =>
      32 ≤ stride.toNat ∧ stride.toNat ≤ 256 ∧ stride.toNat % 32 = 0 ∧ 1 ≤ decimation.toNat ∧ decimation.toNat ≤ 16 ∧
      (base = 0xFFFFFFFF ∨ base.toNat % 32 = 0 ∧ base.toNat + 13 * stride.toNat ≤ 0x3FFF000)
    legal 0xFFFFFFFF 32 1 ∧ legal 0x3FFE300 256 16 ∧ ¬ legal 0x3FFE320 256 16 ∧ ¬ legal 0 31 1 ∧ ¬ legal 0 32 17 ∧
    windowsMeet base.rw.geometry { base := some 0x3FFE300, stride := 256, decimation := 16 } = false ∧
    windowsMeet base.rw.geometry { base := some 0x1000000 } = true ∧ 0 < ({ base := some 0x1000000 } : SnapshotWriter).stride ∧
    [0x10003E0, 0x1000400, 0xFFFE60, 0xFFFE80].map (fun b => windowsMeet base.rw.geometry { base := some b })
      = [true, false, false, true] ∧
    runs base (.setSnapshotWindow 0x3FFE300 256 16) = true ∧ base.pu.queue = [] ∧
    (let e : Entry := { kind := .snapshot 3, addr := 96, bytes := [] }
     e.kind = .snapshot 3 ∧ e.begun = false ∧ e.addr = 96) := by decide +kernel

/-- A boundary due that ends round r, with a snapshot window of a decimation. -/
def snapshotBoundary (r : Word) (decimation : Nat) : State :=
  let s := dueBoundary 0 0
  { s with al := { s.al with round := r }, sw := { base := some 0x2000000, stride := 64, decimation := decimation } }

theorem test_witness_SnapshotsGoToTheirWindow_trigger :
    let s := snapshotBoundary 15 16
    s.al.boundaryTimer = some 0 ∧ s.al.staged = some { roundLength := 2 } ∧ s.sw.base = some 0x2000000 ∧ 0 < s.sw.stride ∧
    (s.al.round + 1).toNat % s.sw.decimation = 0 ∧
    ((snapshotBoundary 14 16).al.round + 1).toNat % (snapshotBoundary 14 16).sw.decimation ≠ 0 ∧
    (dueBoundary 0 0).sw.base = none := by decide +kernel

theorem test_snapshot_records_at_a_boundary :
    after (snapshotBoundary 15 16) (.roundBoundary ⟨[13], none⟩) (fun t => t.pu.queue.map Entry.addr)
      = some ((12 :: List.range 12).map fun k => 0x2000000 + 64 * k) ∧
    after (snapshotBoundary 14 16) (.roundBoundary ⟨[], none⟩) (fun t => t.pu.queue) = some [] := by decide +kernel

/-- A window change to 0x3000000 that the Command Unit holds while a boundary is due. -/
def movingWindow (base : Word) : State := executing (snapshotBoundary 15 16) (.setSnapshotWindow base 64 1)

theorem test_witness_SnapshotsGoToTheirWindow_moved :
    [0x3000000, 0xFFFFFFFF].map (fun b => holds (movingWindow b) (.setSnapshotWindow b 64 1)) = [true, true] ∧
    (movingWindow 0x3000000).al.boundaryTimer = some 0 ∧ (movingWindow 0x3000000).al.staged = some { roundLength := 2 } ∧
    (movingWindow 0x3000000).sw.base ≠ none ∧
    ((movingWindow 0x3000000).al.round + 1).toNat % (movingWindow 0x3000000).sw.decimation = 0 ∧
    windowsMeet (movingWindow 0).rw.geometry { base := some 0x3000000, stride := 64, decimation := 1 } = false ∧
    0x3000000 % 32 = 0 ∧ 0x3000000 + 13 * 64 ≤ 0x3FFF000 ∧ (snapshotBoundary 15 16).cu.step = .idle := by decide +kernel

/-- Records of later parts go to the window set between them; with no base they are discarded (R111). -/
theorem test_window_moved_between_the_parts :
    after (movingWindow 0x3000000) (.roundBoundary ⟨[], some 10⟩) (fun t => t.pu.queue.map Entry.addr)
      = some [0x3FFF4F0, 0x3000000 + 64 * 10, 0x3000000 + 64 * 11, 0x3000000 + 64 * 12] ∧
    after (movingWindow 0xFFFFFFFF) (.roundBoundary ⟨[], some 10⟩) (fun t => t.pu.queue.map Entry.addr) = some [0x3FFF4F0] := by
  decide +kernel

/-- The base state with three receipts issued and one of them collected. -/
def issued3 : State := { base with rw := { base.rw with lastIssued := 3, lastCollected := 1, uncollected := 2 } }

theorem test_witness_CollectAndReceiptWindow :
    (0 : Word).toNat < issued3.rw.lastCollected ∧ issued3.rw.lastIssued < (4 : Word).toNat ∧
    (1 : Word).toNat = issued3.rw.lastCollected ∧ issued3.rw.lastCollected ≤ issued3.rw.lastIssued ∧
    issued3.rw.lastCollected < (2 : Word).toNat ∧ (3 : Word).toNat ≤ issued3.rw.lastIssued ∧
    runs issued3 (.collect 3) = true ∧ runs base (.setReceiptWindow 0x3FF7000 512 512) = true ∧
    0x3FF7000 % 64 = 0 ∧ 0x3FF7000 + 64 * 512 ≤ 0x3FFF000 ∧
    windowsMeet { base := some 0x3FF7000, slots := 512, lowWater := 512 } base.sw = false ∧
    runs base (.setReceiptWindow 0 0 0) = true ∧ runs base (.setReceiptWindow 0 15 0) = true ∧ 0 < issued3.rw.uncollected ∧
    base.rw.reserved = 0 ∧ base.rw.uncollected = 0 ∧ base.rw.issuing = 0 := by decide +kernel

/-! ### The memory path -/

/-- The base state with the link in a state. -/
def linked (l : LinkState) : State := { base with pu := { base.pu with link := l } }

theorem test_witness_ControllerAccessesAreAcceptedOrHeld :
    base.takes (.write 0x3FFF040 [fullWord 1]) ∧ base.takes (.read 0x3FFFFE0 8) ∧ (linked .starting).takes (.read 0 1) ∧
    ((linked .attaching).pu.cport = .empty ∧ (linked .attaching).pu.link = .attaching ∧ inAnchor 0x3FFF000 = true ∧
      Request.wellFormed (.read 0x3FFF000 1) = true ∧ Request.wellFormed (.write 0x3FFF01C [fullWord 1]) = true) ∧
    ({ lanes := 7, data := 0 } : WriteWord).lanes ≠ 0xF ∧ (fullWord 0x100).lanes = 0xF ∧
    (fullWord 0x100).data.getLsbD 8 = true ∧ (fullWord 0xFF).data.getLsbD 8 = false ∧ base.pu.link ≠ .starting ∧
    (linked .starting).pu.link = .starting ∧ (0x3FFF280 ≤ 0x3FFF294 ∧ 0x3FFF294 < 0x3FFF280 + 4 * 6) ∧
    ¬ 0x3FFF294 < 0x3FFF280 + 4 * 5 ∧ base.pu.selector = none := by
  unfold State.takes
  decide +kernel

/-- The base state with three snapshots queued from address 0x400 on, a transaction held for the first n. -/
def holding (x : Access) (n : Nat) : State :=
  let e : Fin 13 → Entry := fun k => { kind := .snapshot k, addr := 0x400 + 32 * k.val, bytes := List.replicate 32 0 }
  { base with pu := { base.pu with cport := .hitHeld x n, queue := [e 0, e 1, e 2] } }

theorem test_witness_ControllerAccessesAreAcceptedOrHeld_hits :
    let x : Access := .read 0x43C [none]
    let y : Access := .write 0x45C [fullWord 1, fullWord 2] true
    let past : Access := .read 0x460 [none]
    (holding x 2).pu.queue.map x.meets = [false, true, false] ∧ (holding y 3).pu.queue.map y.meets = [false, false, true] ∧
    (∀ e ∈ (holding past 1).pu.queue, past.meets e = false) ∧ (holding x 2).pu.cport = .hitHeld x 2 ∧
    [(none : Option Word)].contains none = true ∧ [some (5 : Word)].all Option.isSome = true ∧ [({ lanes := 0, data := 5 } : WriteWord)].map WriteWord.lanes = [0] ∧
    [fullWord 1].map WriteWord.lanes = [0xF] ∧ base.pu.cport = .empty := by decide +kernel

theorem test_witness_ControllerAccessesAreAcceptedOrHeld_removal :
    let x : Access := .read 0x43C [none]
    let left := fun (drop : EntryKind → Bool) => ((holding x 2).pu.queue.take 2).filter fun e => e.begun || !drop e.kind
    (left EntryKind.isSnapshot = []) ∧ ((left EntryKind.isMessage).map x.meets = [false, true]) ∧
    { base with pu := { base.pu with selector := some 11 } }.pu.selector = some ⟨(11 : Fin 12).val, by omega⟩ ∧
    12 ≤ (17 : Fin 18).val ∧
    (let s := { base with sw := { base := some 0x2000000, stride := 64, decimation := 1 } }
     s.rw.geometry.base = some 0x1000000 ∧ 0x10003FC < 0x1000000 + 64 * s.rw.geometry.slots ∧
     s.sw.base = some 0x2000000 ∧ 0x200033C < 0x2000000 + 13 * s.sw.stride) := by decide +kernel

theorem test_hit_promote_releases :
    let x : Access := .read 0x43C [none]
    (holding x 2).popHead.pu.cport = .hitHeld x 1 ∧ (holding x 2).popHead.popHead.pu.cport = .waiting x ∧
    ((holding x 2).removeEntries EntryKind.isSnapshot).pu.cport = .waiting x := by decide +kernel

theorem test_witness_RequestWordsAct :
    base.pu.cport = .empty ∧ base.pu.link = .attached ∧ (linked .detached).pu.link = .detached ∧
    (0x100 : Word).getLsbD 8 = true ∧ base.pu.queue = [] ∧ (linked .detached).pu.queue = [] ∧
    (let ahead := fun (s : State) (v : Word) => (v.toNat + 16 - s.cu.taken.toNat) % 16
     let s := { base with cu := { post := 5, taken := 3 } }
     (s.cu.post - s.cu.taken).toNat ≤ ahead s 11 ∧ ahead s 11 ≤ 8 ∧ (s.cu.post - s.cu.taken).toNat ≤ ahead s 5 ∧
     ahead s 4 < (s.cu.post - s.cu.taken).toNat ∧ 8 < ahead s 12) ∧ 15 < (16 : Word).toNat ∧
    (17 : Word).toNat = (17 : Fin 18).val ∧ 17 < (18 : Word).toNat ∧
    { base with pu := { base.pu with selector := some 11 } }.pu.selector = some 11 ∧ base.pu.selector = none := by decide +kernel

theorem test_witness_OwnedWordsReadTheState :
    base.pu.selector = none ∧ 0x200 ≤ 0x200 ∧ 0x3FF < 0x400 ∧ 0x034 ≤ 0x03C ∧ 0x03C < 0x040 ∧
    base.el.records.length ≤ 4 ∧ sixErrors.el.records.length ≤ 4 ∧
    { base with pu := { base.pu with selector := some 17 } }.pu.selector = some 17 ∧
    ((with4 .charging fun x => { x with maintenance := some .red }).bay 4).maintenance = some .red ∧
    (base.bay 4).maintenance = none := by decide +kernel

/-- A part with latched inputs, an applied and a staged plan, a battery event and an abandoned receipt. -/
def shown : State :=
  { sixErrors with
    al := { base.al with latched := some latched1, applied := some { roundLength := 2, setpoint := -300 }
                         staged := some (latched1.plan 0 701) }
    ba := { base.ba with lastEvent := some { reasons := ⟨true, false, true⟩, stateAfter := .discharging, time := 9, round := 8 } }
    rw := { base.rw with lastAbandoned := some (7, 0xABCD) } }

theorem test_witness_OwnedWordsReadTheState_views :
    (shown.al.latched = some latched1 ∧ base.al.latched = none) ∧
    (shown.al.applied = some { roundLength := 2, setpoint := -300 } ∧ base.al.applied = none) ∧
    (shown.al.staged = some (latched1.plan 0 701) ∧ base.al.staged = none) ∧
    (shown.ba.lastEvent = some { reasons := ⟨true, false, true⟩, stateAfter := .discharging, time := 9, round := 8 } ∧
      base.ba.lastEvent = none) ∧
    (shown.rw.lastAbandoned = some (7, 0xABCD) ∧ base.rw.lastAbandoned = none) ∧
    [0, 3].map (fun i : Nat => (shown.el.records[i]?).isSome) = [true, true] ∧
    ([5, 6] : List Word)[0]? = some 5 ∧ ([5, 6] : List Word)[1]? = some 6 ∧
    0x98 ≤ 4 * 38 ∧ 4 * 127 < 0x200 ∧ 0x10 + 24 * shown.el.records.length ≤ 4 * 127 := by decide +kernel

/-- What the view of a selector shows at an offset. -/
def viewed (k : Fin 18) (offset : Nat) : Nat :=
  ({ shown with pu := { shown.pu with selector := some k } }.ownedWord (0x200 + offset)).toNat

theorem test_views_show :
    [(12, 0x14), (12, 0x70), (12, 0x84), (12, 0x9C), (12, 0x130), (12, 0x1E0)].map (fun p => viewed p.1 p.2)
      = [9000, 0, 0x00010002, 4294966996, 701, 0] ∧
    [(13, 0x1C), (13, 0x20), (14, 0x0C), (14, 0x58), (17, 0x38), (17, 0x3C)].map (fun p => viewed p.1 p.2)
      = [4294966996, 0x0305, 0x01010400, 0x00FF0008, 7, 0xABCD] := by decide +kernel

/-- A reply entry at the head of the queue. -/
def headReply : Entry := { kind := .reply false, addr := 0x3FFF430, bytes := List.replicate 16 0 }

/-- The memory path with a C-port, an M-port and a wait count, and entries in the queue. -/
def path (c : CPort) (m : MPort) (wait : Nat) (queue : List Entry) (read : Option PartRead) : State :=
  { base with pu := { base.pu with cport := c, mport := m, waitCount := wait, queue := queue, partRead := read } }

theorem test_witness_MPortIsGrantedAndFreed :
    (let s := path (.waiting (.read 0 [none])) .free 3 [headReply] none
     s.pu.mport = .free ∧ s.pu.cport = .waiting (.read 0 [none]) ∧ s.pu.waitCount < 4) ∧
    (let s := path (.waiting (.read 0 [none])) .free 4 [headReply] none
     s.pu.mport = .free ∧ s.pu.queue = headReply :: [] ∧ 4 ≤ s.pu.waitCount) ∧
    (let s := path (.waiting (.read 0 [none])) .free 4 [] none
     s.pu.queue = [] ∧ s.pu.partRead = none ∧ s.pu.cport = .waiting (.read 0 [none])) ∧
    (let s := path (.waiting (.read 0 [none])) .free 4 [] (some (fetchRead 3 0))
     s.pu.mport = .free ∧ s.pu.queue = [] ∧ s.pu.partRead = some (fetchRead 3 0) ∧ 4 ≤ s.pu.waitCount) ∧
    (let s := path (.granted (.read 0 [none])) .controller 0 [] none
     s.pu.mport = .controller ∧ s.pu.cport = .granted (.read 0 [none])) ∧
    (let s := path (.granted (.write 0x3FFF04C [fullWord 1] true)) .controller 0 [] none
     s.pu.cport = .granted (.write 0x3FFF04C [fullWord 1] true) ∧ inAnchor 0x3FFF04C = true ∧ inAnchor 0x3FFEFFC = false) ∧
    (let s := path .empty .entry 0 [{ headReply with attempts := 2 }] none
     s.pu.mport = .entry ∧ s.pu.queue = { headReply with attempts := 2 } :: [] ∧ 2 ≤ ({ headReply with attempts := 2 } : Entry).attempts) ∧
    [true] = List.replicate 1 true ∧ false ∈ [false] ∧ headReply.attempts < 2 ∧ [false].length = headReply.kind.bursts ∧
    (let receipt : Entry := { kind := .receipt 4 1 0, addr := 0x1000000, bytes := List.replicate 64 0 }
     [true, true] = List.replicate 2 true ∧ false ∈ [true, false] ∧ [true, false].length = receipt.kind.bursts ∧
     [true].length ≠ receipt.kind.bursts) ∧
    [some (5 : Word), none][0]? = some (some 5) ∧ [some (5 : Word), none][1]? = some none := by decide +kernel

theorem test_bursts_of_a_receipt :
    let s := path .empty .entry 0 [{ kind := .receipt 4 1 0, addr := 0x1000000, bytes := List.replicate 64 0, begun := true }] none
    after s (.ownWriteAttemptComplete [true]) (fun t => t.pu.queue.length) = some 1 ∧
    after s (.ownWriteAttemptComplete [true, true]) (fun t => t.pu.queue.length) = some 0 := by decide +kernel

theorem test_witness_SweepFetchAndReply :
    (let s := path .empty (.read { kind := .sweep 4, addr := 0x3FFF160, count := 8, attempts := 2 } false) 0 [] none
     s.pu.mport = .read { kind := .sweep 4, addr := 0x3FFF160, count := 8, attempts := 2 } false) ∧
    (let s := path .empty (.read { kind := .sweep 0, addr := 0x3FFF04C, count := 1, attempts := 1 } true) 0 [] none
     s.pu.mport = .read { kind := .sweep 0, addr := 0x3FFF04C, count := 1, attempts := 1 } true) ∧
    (let s := { path .empty (.read { kind := .fetch 1, addr := 0x3FFF4E0, count := 4, attempts := 2 } false) 0 [] none with
                cu := { post := 4, taken := 3, step := .fetching 3 (List.replicate 8 0) } }
     s.pu.mport = .read { kind := .fetch 1, addr := 0x3FFF4E0, count := 4, attempts := 2 } false ∧
     s.cu.step = .fetching 3 (List.replicate 8 0)) ∧ runs base (.unknownCommand 9) = true ∧
    (path (.anchorHeld (.read 0x3FFF000 1)) .free 0 [] none).pu.cport = .anchorHeld (.read 0x3FFF000 1) ∧
    base.pu.cport = .empty := by decide +kernel

/-! ### Notices and errors -/

/-- The base state with every cause on vector 0, its shadow in a state. -/
def notifying (x : NoticeVector) (allMask : Bool) : State :=
  { base with nu := { enable := true, allMask := allMask, vectors := (Vector.replicate 8 {}).set 0 x } }

theorem test_witness_CausesAndRecordingsAreTaken :
    base.nu.enable = false ∧ base.pu.link = .attached ∧ (notifying { masked := false } false).nu.enable = true ∧
    (linked .attaching).pu.link ≠ .attached ∧
    (let s := notifying { masked := false } false
     s.nu.allMask = false ∧ (s.vector 0).masked = false ∧ (s.vector 0).usable = true ∧ (s.vector 0).queued = false) ∧
    ((notifying { masked := false, queued := true } false).vector 0).queued = true ∧
    (notifying { masked := false } true).nu.allMask = true ∧
    inKindSet base.el.masked .meterNoise = true ∧ inKindSet base.el.masked .guardWrite = false ∧
    base.el.records.length < 4 ∧ 4 ≤ sixErrors.el.records.length ∧ base.el.hold = false ∧
    inKindSet base.el.holds .memoryFault = true ∧ inKindSet base.el.holds .guardWrite = false ∧ sixErrors.el.hold = true := by
  decide +kernel

theorem test_witness_CausesAndRecordingsAreTaken_shadows :
    (let s := notifying { masked := false, pending := true } false
     (s.vector 0).pending = true ∧ s.nu.enable = true ∧ s.nu.allMask = false ∧ (s.vector 0).masked = false ∧
     (s.vector 0).usable = true ∧ (s.vector 0).queued = false) ∧
    ((notifying { masked := false, pending := true, queued := true } false).vector 0).queued = true ∧
    (base.vector 0).pending = false ∧ 0x3FFF170 % 4 = 0 ∧
    wordFor 0x3FFF170 [fullWord 1, fullWord 2, fullWord 0] (0x3FFF100 + 16 * (7 : Fin 8).val) = some (fullWord 1) ∧
    wordFor 0x3FFF170 [fullWord 1, fullWord 2, fullWord 0] 0x3FFF04C = none ∧ (31 : Nat) < 32 := by decide +kernel

theorem test_two_unusable_addresses_queue_no_notice :
    let s := { base with nu := { enable := true, allMask := false, vectors := Vector.replicate 8 { masked := false },
                                 causeMap := Vector.replicate 8 7 } }
    let t := s.takeWatched 0x3FFF160 [fullWord 0x1000000, fullWord 0, fullWord 0, fullWord 0, fullWord 0x10003C0]
    t.el.records.map (fun r => (r.recording.kind, r.recording.detail)) = [(.vectorFault, 6), (.vectorFault, 7)] ∧
    t.pu.queue = [] ∧ (t.vector 7).pending = true := by decide +kernel

theorem test_causes_are_dropped_while_attaching :
    { linked .attaching with nu := (notifying { masked := false } true).nu }.fire .holdChanged
      = { linked .attaching with nu := (notifying { masked := false } true).nu } := by decide +kernel

theorem test_witness_ErrorCommands :
    4096 ≤ (4096 : Word).toNat ∧ (4095 : Word).toNat < 4096 ∧ runs base (.clearErrors 4095 1) = true ∧
    base.el.records = [] ∧ runs base .ackError = true ∧ sixErrors.el.records ≠ [] ∧
    runs base (.setErrorPolicy 4095 4095) = true ∧
    (let mild := base.record { kind := .guardWrite }
     mild.el.hold = false ∧ ({ mild.el with masked := 0, holds := 0x401 } : ErrorLog).mustHold = true ∧
     ({ mild.el with masked := 0, holds := 0x400 } : ErrorLog).mustHold = false) ∧ sixErrors.el.hold = true := by decide +kernel

theorem test_witness_ClearHoldLeavesHold :
    (inKindSet sixErrors.el.status .memoryFault = true ∧ inKindSet sixErrors.el.masked .memoryFault = false ∧
      inKindSet sixErrors.el.holds .memoryFault = true) ∧ runs sixErrors .clearHold = true ∧
    (let quiet := { sixErrors with el := sixErrors.el.clear 0xFFF }
     quiet.el.mustHold = false ∧ quiet.el.hold = true ∧ runs quiet .clearHold = true) ∧
    base.el.mustHold = false ∧ base.el.hold = false ∧ inKindSet base.el.masked .memoryFault = false ∧
    inKindSet base.el.holds .memoryFault = true := by decide +kernel

/-! ### Invariants -/

theorem test_witness_steps : (∃ t, step base = .next t) ∧ ∃ t, step { closed4 .charging with pending := [.crst] } = .next t :=
  ⟨⟨_, rfl⟩, ⟨_, rfl⟩⟩

theorem test_witness_LogNoticesAndBatteryStaySound :
    sixErrors.el.sound ∧ (notifying { masked := true, pending := true } false).nu.sound ∧
    ({ base.ba with state := .charging, setpoint := 10000, eb := 100000 } : BatteryAccount).sound := by
  refine ⟨⟨by decide +kernel, ?_, by decide +kernel, by decide +kernel, by decide +kernel⟩, ?_, ?_⟩
  · intro k h
    have hk : sixErrors.el.first = some .guardWrite := by decide +kernel
    rw [hk] at h
    cases h
    decide +kernel
  · unfold NoticeUnit.sound
    decide +kernel
  · unfold BatteryAccount.sound
    decide +kernel

/-- A charging bay with its drive closed and an allowance: a state a run reaches. -/
def sound4 : State :=
  { base.setBay 4 { bay4 .charging with drive := true, allowance := 7400, ready := true, feedback := true } with
    rw := { base.rw with reserved := 1, lastIssued := 40, lastCollected := 37, uncollected := 3 }
    nextSession := 42 }

theorem test_witness_BaysStaySound : sound4.baysSound := by
  refine ⟨fun h => absurd h (by decide +kernel), ?_⟩
  unfold Bay.sound
  decide +kernel

theorem test_witness_BaysStaySound_allowances : sound4.allowancesSound := by
  refine ⟨?_, by decide +kernel, by decide +kernel, ?_, ?_⟩
  · unfold BayConfig.allows
    decide +kernel
  · intro l h
    exact absurd h (by rw [show sound4.al.latched = none by decide +kernel]; nofun)
  · intro p h
    exact absurd h (by rw [show sound4.al.staged = none by decide +kernel]; nofun)

theorem test_witness_RingStaysSound : sound4.ringSound := by
  unfold State.ringSound
  refine ⟨by decide +kernel, by decide +kernel, by decide +kernel, by decide +kernel, fun h => absurd h (by decide +kernel)⟩

/-- A receipt in performance, a snapshot, a notice and the reply, each as its block has it. -/
def queued4 : State :=
  { (base.setBay 4 (bay4 .issuing)).setVector 2 { queued := true } with
    sw := { base := some 0x2000000 }
    cu := { post := 4, taken := 3, step := .replying 3 }
    pu := { base.pu with
      mport := .entry
      queue := [{ kind := .receipt 4 1 0, addr := 0x1000000, bytes := List.replicate 64 0, begun := true },
        { kind := .snapshot 12, addr := 0x2000180, bytes := List.replicate 32 0 },
        { kind := .notice 2, addr := 0, bytes := [0, 0, 0, 0] },
        { kind := .reply false, addr := 0x3FFF4F0, bytes := List.replicate 16 0 }] } }

theorem test_witness_RingStaysSound_queue : queued4.heldSafe ∧ queued4.queueSound := by
  refine ⟨fun h => absurd h (by decide +kernel), by decide +kernel, by decide +kernel, by decide +kernel, ?_, by decide +kernel,
    fun h => absurd h (by decide +kernel)⟩
  intro e h
  simp only [queued4, List.mem_cons, List.not_mem_nil, or_false] at h
  rcases h with rfl | rfl | rfl | rfl
  · exact ⟨by decide +kernel, by decide +kernel⟩
  · exact Or.inr ⟨_, rfl, rfl⟩
  · exact Or.inr (by decide +kernel)
  · exact ⟨_, rfl⟩

/-- A part still STARTING, a notice in performance, with a boundary at the front of its commands. -/
def startingPart : State :=
  { State.reset with
    pending := [.roundBoundary ⟨[], none⟩]
    pu := { State.reset.pu with
      mport := .entry, queue := [{ kind := .notice 2, addr := 0, bytes := [0, 0, 0, 0], begun := true }] } }

theorem test_witness_RingStaysSound_starting :
    startingPart.pu.link = .starting ∧ startingPart.heldSafe ∧ startingPart.queueSound ∧
    (nextState (step startingPart)).map (fun t => (t.pending, t.pu.queue)) = some ([], startingPart.pu.queue) := by
  refine ⟨by decide +kernel, ?_, ⟨by decide +kernel, by decide +kernel, by decide +kernel, ?_, by decide +kernel, fun _ => by decide +kernel⟩,
    by decide +kernel⟩
  · exact fun _ => by decide +kernel
  · intro e h
    simp only [startingPart, List.mem_cons, List.not_mem_nil, or_false] at h
    rcases h with rfl
    exact Or.inl rfl

theorem test_witness_ConfigurationStaysLegal : sound4.configSound ∧ sound4.windowsApart := by
  refine ⟨⟨?_, ?_, by decide +kernel, ?_⟩, ?_⟩
  · unfold configLegal
    decide +kernel
  · unfold configLegal
    decide +kernel
  · intro l h
    exact absurd h (by rw [show sound4.al.latched = none by decide +kernel]; nofun)
  · unfold State.windowsApart
    decide +kernel

end Sys2Proof.Tests
end

section
/-! Charge bays and sessions (spec/02 2.2, 2.4, 2.9, 2.10): RELEASE_CONFIRM, a RELEASE_PENDING bay under READY events and plans,
and MAINTENANCE. First what the operations used do at their bay and at the others, then the statements. -/

namespace Sys2Proof.Machine

/-! ## Operands of ring commands -/

theorem bayOf_eq_some {n : Nat} {b : Fin 12} (h : n = b.val) : bayOf n = some b := by
  subst h
  simp [bayOf]

theorem bayOf_eq_none {n : Nat} (h : 11 < n) : bayOf n = none := by
  simp [bayOf]
  omega

@[simp] theorem Light.ofCode_code (l : Light) : Light.ofCode l.code = some l := by
  cases l <;> rfl

theorem Light.ofCode_eq_none {n : Nat} (h : 5 < n) : Light.ofCode n = none := by
  unfold Light.ofCode
  split
  case h_7 => rfl
  all_goals omega

/-- A command that names the last session of a bay acts while that session is active (R36). -/
theorem sessionCommand_acts {s : State} {bay : Byte} {session : Word} {b : Fin 12} (hb : bay.toNat = b.val)
    (hs : (s.bay b).lastSession = some session) (ha : (s.bay b).state.isActive = true)
    (act : Fin 12 → State × Option Reply) : sessionCommand bay session act s = act b := by
  simp [sessionCommand, bayOf_eq_some hb, hs, ha]

/-! ## Other bays -/

theorem otherBaysSame_onBay (s : State) (b : Fin 12) (f : Bay → Bay) : State.otherBaysSame b s (s.onBay b f) :=
  fun _ h => ⟨bay_setBay_of_ne s h _, rfl⟩

theorem otherBaysSame_watchFeedback (s : State) (b : Fin 12) : State.otherBaysSame b s (s.watchFeedback b) :=
  otherBaysSame_onBay s b _

theorem otherBaysSame_trans {b : Fin 12} {s t u : State} (h : State.otherBaysSame b s t) (g : State.otherBaysSame b t u) :
    State.otherBaysSame b s u :=
  fun c hc => ⟨(g c hc).1.trans (h c hc).1, (g c hc).2.trans (h c hc).2⟩

/-! ## Attribution and entry to ISSUING, at the bay -/

@[simp] theorem bay_onBay_self (s : State) (b : Fin 12) (f : Bay → Bay) : (s.onBay b f).bay b = f (s.bay b) :=
  bay_setBay_self ..

/-- Attribution changes the session's tallies and the round's counts, and nothing else of a bay (R105 to R108). -/
theorem attribute_eq (x : Bay) : ∃ tallies, x.attribute = { x with
    session := { x.session with tallies := tallies }, roundOverQuota := 0, sessionPulses := 0, unownedPulses := 0 } := by
  unfold Bay.attribute
  by_cases h : x.state.countsPulses = true
  · exact ⟨x.splitTallies, by simp only [if_pos h]⟩
  · exact ⟨x.session.tallies, by simp only [if_neg h]⟩

@[simp] theorem state_attribute (x : Bay) : x.attribute.state = x.state := by
  obtain ⟨_, h⟩ := attribute_eq x; rw [h]
@[simp] theorem drive_attribute (x : Bay) : x.attribute.drive = x.drive := by
  obtain ⟨_, h⟩ := attribute_eq x; rw [h]
@[simp] theorem allowance_attribute (x : Bay) : x.attribute.allowance = x.allowance := by
  obtain ⟨_, h⟩ := attribute_eq x; rw [h]
@[simp] theorem events_attribute (x : Bay) : x.attribute.events = x.events := by
  obtain ⟨_, h⟩ := attribute_eq x; rw [h]
@[simp] theorem releaseTimer_attribute (x : Bay) : x.attribute.releaseTimer = x.releaseTimer := by
  obtain ⟨_, h⟩ := attribute_eq x; rw [h]
@[simp] theorem stopCause_attribute (x : Bay) : x.attribute.session.stopCause = x.session.stopCause := by
  obtain ⟨_, h⟩ := attribute_eq x; rw [h]

@[simp] theorem bay_issue (s : State) (b c : Fin 12) : (s.issue b).bay c = s.bay c := rfl

/-- A bay that enters ISSUING attributes its round and sets the stop time (R47). -/
theorem bay_enterIssuing_self (s : State) (b : Fin 12) : (s.enterIssuing b).bay b = { (s.bay b).attribute with
    state := .issuing, stopDelayTimer := none
    session := { (s.bay b).attribute.session with stopTime := some s.clock.siteTime } } := by
  simp [State.enterIssuing, onChannel_eq]

/-- R47 judged leaves the bay as it was, or in ISSUING, and the feedback watch follows. -/
theorem bay_judgeIssuing_self (s : State) (b : Fin 12) : (s.judgeIssuing b).bay b =
    (if (s.bay b).readyToIssue then (s.enterIssuing b).bay b else s.bay b).watch (s.pu.link != .starting) := by
  unfold State.judgeIssuing
  split <;> simp

@[simp] theorem allowance_judgeIssuing (s : State) (b : Fin 12) :
    ((s.judgeIssuing b).bay b).allowance = (s.bay b).allowance := by
  rw [bay_judgeIssuing_self]; split <;> simp [bay_enterIssuing_self]
@[simp] theorem events_judgeIssuing (s : State) (b : Fin 12) : ((s.judgeIssuing b).bay b).events = (s.bay b).events := by
  rw [bay_judgeIssuing_self]; split <;> simp [bay_enterIssuing_self]
@[simp] theorem releaseTimer_judgeIssuing (s : State) (b : Fin 12) :
    ((s.judgeIssuing b).bay b).releaseTimer = (s.bay b).releaseTimer := by
  rw [bay_judgeIssuing_self]; split <;> simp [bay_enterIssuing_self]
@[simp] theorem stopCause_judgeIssuing (s : State) (b : Fin 12) :
    ((s.judgeIssuing b).bay b).session.stopCause = (s.bay b).session.stopCause := by
  rw [bay_judgeIssuing_self]; split <;> simp [bay_enterIssuing_self]

/-- A STOPPING bay whose stop is judged is STOPPING or ISSUING (R47). -/
theorem state_judgeIssuing {s : State} {b : Fin 12} (h : (s.bay b).state = .stopping) :
    ((s.judgeIssuing b).bay b).state = .stopping ∨ ((s.judgeIssuing b).bay b).state = .issuing := by
  rw [bay_judgeIssuing_self]
  split
  · right; simp [bay_enterIssuing_self]
  · left; simp [h]

/-! ## Entry to STOPPING, at the bay (R45) -/

section EnterStopping

variable (s : State) (b : Fin 12) (cause : StopCause)

@[simp] theorem allowance_enterStopping : ((s.enterStopping b cause).bay b).allowance = 0 := by simp [State.enterStopping]
@[simp] theorem releaseTimer_enterStopping : ((s.enterStopping b cause).bay b).releaseTimer = none := by
  simp [State.enterStopping]
@[simp] theorem stopCause_enterStopping : ((s.enterStopping b cause).bay b).session.stopCause = some cause := by
  simp [State.enterStopping]
@[simp] theorem events_enterStopping :
    ((s.enterStopping b cause).bay b).events = (s.bay b).events ||| EventFlag.stopped.bit := by simp [State.enterStopping]

/-- The contactor may be open already, and then the bay goes straight on to ISSUING (R47). -/
theorem state_enterStopping :
    ((s.enterStopping b cause).bay b).state = .stopping ∨ ((s.enterStopping b cause).bay b).state = .issuing :=
  state_judgeIssuing (by simp)

end EnterStopping

/-! ## RELEASE_CONFIRM (R40) -/

/-- Settles O32: past the checks of R36 the command acts by the bay's state alone. -/
theorem releaseConfirmStopsAReleasePendingBay : Obligations.ReleaseConfirmStopsAReleasePendingBay := by
  intro s bay session b x t hb hs
  constructor
  · intro hx
    refine ⟨answers_of_effect (releaseConfirmEffect bay session) rfl ?_, releaseTimer_enterStopping .., stopCause_enterStopping ..,
      events_enterStopping .., allowance_enterStopping .., state_enterStopping ..⟩
    have active : (s.bay b).state.isActive = true := by rw [hx]; rfl
    rw [releaseConfirmEffect, sessionCommand_acts hb hs active, if_pos hx]
    rfl
  · intro hx
    have active : (s.bay b).state.isActive = true := by rcases hx with h | h | h <;> rw [h] <;> rfl
    have notPending : (s.bay b).state ≠ .releasePending := by rcases hx with h | h | h <;> rw [h] <;> decide
    refine answers_of_effect (releaseConfirmEffect bay session) rfl ?_
    rw [releaseConfirmEffect, sessionCommand_acts hb hs active, if_neg notPending]
    rfl

/-! ## READY events (R21, R31, R39) -/

theorem readyHigh_of_ne_authorised {s : State} {b : Fin 12} (h : (s.bay b).state ≠ .authorised) : s.readyHigh b = s :=
  if_neg h

theorem readyLow_releasePending {s : State} {b : Fin 12} (h : (s.bay b).state = .releasePending) :
    s.readyLow b = (s.onBay b fun x => { x with drive := false }).watchFeedback b := by
  simp only [State.readyLow, h]

/-- A bay with its READY level taken at the end of the filter (R21). -/
def Bay.takeReady (x : Bay) : Bay := { x with readyTimer := none, ready := x.readyLine }

/-- The READY filter of a bay ends after STARTING: a level that differs from the taken one is an event (R21). -/
theorem readyFilterExpiry_due {s : State} {b : Fin 12} (hl : s.pu.link ≠ .starting) (ht : (s.bay b).readyTimer = some 0) :
    let t := s.onBay b Bay.takeReady
    exec (.readyFilterExpiry b) s = .next
      (if (s.bay b).ready = (s.bay b).readyLine then t else if (s.bay b).readyLine then t.readyHigh b else t.readyLow b) := by
  have started : s.started = true := by simpa [State.started] using hl
  change execReadyFilterExpiry b s = _
  simp only [execReadyFilterExpiry, if_pos ht, started, Bool.not_true, Bool.false_or, beq_iff_eq]
  split
  · rfl
  · split <;> rfl

/-- A RELEASE_PENDING bay follows READY low, and otherwise only takes the level (R39). -/
theorem readyFilterExpiry_releasePending {s : State} {b : Fin 12} (hs : (s.bay b).state = .releasePending)
    (hl : s.pu.link ≠ .starting) (ht : (s.bay b).readyTimer = some 0) :
    exec (.readyFilterExpiry b) s = .next
      (if (s.bay b).ready = true ∧ (s.bay b).readyLine = false then
        ((s.onBay b Bay.takeReady).onBay b fun x => { x with drive := false }).watchFeedback b
      else s.onBay b Bay.takeReady) := by
  have taken : ((s.onBay b Bay.takeReady).bay b).state = .releasePending := by rw [bay_onBay_self]; exact hs
  have high : (s.onBay b Bay.takeReady).readyHigh b = s.onBay b Bay.takeReady :=
    readyHigh_of_ne_authorised (by rw [taken]; decide)
  rw [readyFilterExpiry_due hl ht, high, readyLow_releasePending taken]
  cases (s.bay b).ready <;> cases (s.bay b).readyLine <;> rfl

/-! ## A plan applied to a bay (R32, R61) -/

/-- A bay that has attributed its round and keeps the portions of its part of the plan (R61). -/
def Bay.keepPortions (x : Bay) (p : PlanBay) : Bay :=
  { x.attribute with keptPortions := p.portions, keptSession := p.session }

/-- A bay's part of a plan: the grant is taken after attribution, and the first entry to CHARGING sets its flag. -/
theorem bay_takePlan_self (s : State) (b : Fin 12) (p : PlanBay) : (s.takePlan b p).bay b =
    let x := (s.bay b).keepPortions p
    let y := x.takeGrant (x.usedGrant p)
    if x.startsCharging (x.usedGrant p) then { y with events := y.events ||| EventFlag.chargingStarted.bit } else y := by
  unfold State.takePlan
  dsimp only [Bay.keepPortions]
  split <;> split <;> simp [onChannel_eq]

theorem takeGrant_releasePending {x : Bay} (h : x.state = .releasePending) (grant : Nat) : x.takeGrant grant = x := by
  simp only [Bay.takeGrant, h]

theorem startsCharging_of_ne_paused {x : Bay} (h : x.state ≠ .paused) (grant : Nat) : x.startsCharging grant = false := by
  simp [Bay.startsCharging, h]

/-- A RELEASE_PENDING bay takes no grant (R32, R39). -/
theorem bay_takePlan_releasePending {s : State} {b : Fin 12} (h : (s.bay b).state = .releasePending) (p : PlanBay) :
    (s.takePlan b p).bay b = (s.bay b).keepPortions p := by
  have kept : ((s.bay b).keepPortions p).state = .releasePending := (state_attribute _).trans h
  have quiet := startsCharging_of_ne_paused (x := (s.bay b).keepPortions p) (by rw [kept]; decide)
  simp [bay_takePlan_self, takeGrant_releasePending kept, quiet]

/-- Settles O33: the branches of the READY filter at a RELEASE_PENDING bay, and the grant that such a bay does not take. -/
theorem releasePendingKeepsItsState : Obligations.ReleasePendingKeepsItsState := by
  intro s b p x y hx
  have plan : y = x.keepPortions p := bay_takePlan_releasePending hx p
  have allowance : y.allowance = x.allowance := by rw [plan]; exact allowance_attribute x
  refine ⟨fun hl ht => ?_, by rw [plan]; exact (state_attribute x).trans hx, allowance,
    by rw [plan]; exact drive_attribute x, fun sound => ?_⟩
  · rw [readyFilterExpiry_releasePending hx hl ht]
    by_cases falling : x.ready = true ∧ x.readyLine = false
    · obtain ⟨timer, found, watched⟩ := watch_eq (s.pu.link != .starting) { x.takeReady with drive := false }
      refine ⟨_, timer, found, congrArg _ (if_pos falling), ?_, ?_⟩
      · exact otherBaysSame_trans (otherBaysSame_trans (otherBaysSame_onBay s b _) (otherBaysSame_onBay _ b _))
          (otherBaysSame_watchFeedback _ b)
      · rw [if_pos falling, bay_watchFeedback_self, bay_onBay_self, bay_onBay_self]
        exact watched
    · refine ⟨_, x.feedbackTimer, x.feedbackFound, congrArg _ (if_neg falling), otherBaysSame_onBay s b _, ?_⟩
      rw [if_neg falling, bay_onBay_self]
      rfl
  · obtain ⟨charging, -⟩ := sound
    have notCharging : ¬ x.state = .charging := by rw [hx]; decide
    have := mt charging.mp notCharging
    omega

/-! ## MAINTENANCE (R43, R44) -/

/-- A bay number or a pattern outside its range is refused in both settings. -/
theorem maintenance_refuses {s : State} {bay : Byte} {pattern : Word} (h : 11 < bay.toNat ∨ 5 < pattern.toNat) :
    s.refuses (.maintenanceOn bay pattern) .badArgument ∧ s.refuses (.maintenanceOff bay pattern) .badArgument := by
  have bad : bayOf bay.toNat = none ∨ Light.ofCode pattern.toNat = none := h.imp bayOf_eq_none Light.ofCode_eq_none
  constructor
  · refine answers_of_effect (maintenanceOnEffect bay pattern) rfl ?_
    unfold maintenanceOnEffect
    split
    case h_1 hb hp => simp [hb, hp] at bad
    all_goals rfl
  · refine answers_of_effect (maintenanceOffEffect bay pattern) rfl ?_
    unfold maintenanceOffEffect
    split
    case h_1 hb hp => simp [hb, hp] at bad
    all_goals rfl

section Maintenance

variable {s : State} {bay : Byte} {pattern : Word} {b : Fin 12} {l : Light}

theorem maintenanceOn_answers (hb : bay.toNat = b.val) (hp : pattern.toNat = l.code) :
    s.answers (.maintenanceOn bay pattern) (s.onBay b fun y => { y with maintenance := some l }) (.done 0 0) := by
  refine answers_of_effect (maintenanceOnEffect bay pattern) rfl ?_
  rw [maintenanceOnEffect, bayOf_eq_some hb, hp, Light.ofCode_code]
  rfl

theorem maintenanceOff_answers (hb : bay.toNat = b.val) (hp : pattern.toNat = l.code) :
    s.answers (.maintenanceOff bay pattern) (s.endMaintenance b) (.done 0 0) := by
  refine answers_of_effect (maintenanceOffEffect bay pattern) rfl ?_
  rw [maintenanceOffEffect, bayOf_eq_some hb, hp, Light.ofCode_code]
  rfl

theorem endMaintenance_off (h : (s.bay b).maintenance = none) : s.endMaintenance b = s := by
  simp [State.endMaintenance, h]

/-- The end of a maintenance that was on clears it, and replays a deferred press where a press is taken (R44). -/
theorem endMaintenance_on (h : (s.bay b).maintenance ≠ none) :
    let t := s.onBay b fun y => { y with maintenance := none, deferredRelease := false }
    s.endMaintenance b =
      if (s.bay b).deferredRelease = true ∧ (s.bay b).state.takesPress = true then t.enterReleasePending b else t := by
  simp [State.endMaintenance, h]

end Maintenance

/-- The states that take a press (R38). -/
theorem takesPress_iff (k : BayState) : k.takesPress = true ↔ k = .authorised ∨ k = .paused ∨ k = .charging := by
  cases k <;> simp [BayState.takesPress]

/-- Settles O34: the two settings answer as their effects say, and the end of maintenance splits on the deferred press. -/
theorem maintenanceIsSetAndEnds : Obligations.MaintenanceIsSetAndEnds := by
  intro s bay pattern
  refine ⟨maintenance_refuses, ?_⟩
  intro b l hb hp x t
  have off : s.answers (.maintenanceOff bay pattern) (s.endMaintenance b) (.done 0 0) := maintenanceOff_answers hb hp
  refine ⟨maintenanceOn_answers hb hp, fun already => ?_, fun on deferred state => ?_, fun on notReplayed => ?_, ?_, ?_⟩
  · rwa [endMaintenance_off already] at off
  · rwa [endMaintenance_on on, if_pos ⟨deferred, (takesPress_iff _).mpr state⟩] at off
  · have kept : ¬ ((s.bay b).deferredRelease = true ∧ (s.bay b).state.takesPress = true) := by
      rw [takesPress_iff]
      rintro ⟨deferred, state⟩
      rcases notReplayed with h | ⟨h1, h2, h3⟩
      · exact Bool.false_ne_true (h.symm.trans deferred)
      · rcases state with h | h | h
        · exact h1 h
        · exact h2 h
        · exact h3 h
    rwa [endMaintenance_on on, if_neg kept] at off
  · intro y h
    simp [Bay.light, h]
  · intro y h
    simp [Bay.light, h]

end Sys2Proof.Machine
end

section
/-! Feeder caps (spec/03 3.8): what the cap of a pair makes of its two grants (R77 to R79), whose turn an alternating pair has
(R78), and that the cap is one either bay of the pair can present (R24). Then the statement. -/

namespace Sys2Proof.Machine

/-! ## The cap of a pair, case by case -/

/-- A pair without a cap, or within it, is left as it is (R79). -/
theorem capPair_uncapped {cap ga gb : Nat} (h : cap = 0 ∨ ga + gb ≤ cap) (pa pb : Nat) (lower : Bool) :
    capPair cap pa pb lower ga gb = (ga, gb) :=
  if_pos h

/-- With one grant 0, each grant of a capped pair is cut to the cap (R79). -/
theorem capPair_lone {cap ga gb : Nat} (hc : cap ≠ 0) (exceeds : cap < ga + gb) (lone : ga = 0 ∨ gb = 0)
    (pa pb : Nat) (lower : Bool) : capPair cap pa pb lower ga gb = (min ga cap, min gb cap) := by
  rw [capPair, if_neg (not_or.mpr ⟨hc, Nat.not_le.mpr exceeds⟩), if_pos lone]

/-- A capped pair with two grants above 0 shares its cap or alternates, by what the two Pmins need (R77, R78). -/
theorem capPair_two_grants {cap ga gb : Nat} (hc : cap ≠ 0) (ha : 0 < ga) (hb : 0 < gb) (exceeds : cap < ga + gb)
    (pa pb : Nat) (lower : Bool) : capPair cap pa pb lower ga gb =
      if pa + pb ≤ cap then (sharedGrant cap pa pb ga, sharedGrant cap pb pa gb)
      else if lower then (min ga cap, 0) else (0, min gb cap) := by
  rw [capPair, if_neg (not_or.mpr ⟨hc, Nat.not_le.mpr exceeds⟩), if_neg (not_or.mpr ⟨Nat.ne_of_gt ha, Nat.ne_of_gt hb⟩)]

/-- The two bays of a sharing pair get the same half of the margin (R77). -/
theorem sharedGrant_swap (cap pmin other grant : Nat) :
    sharedGrant cap pmin other grant = pmin + min (grant - pmin) (floor100 ((cap - other - pmin) / 2)) := by
  rw [sharedGrant, Nat.sub_right_comm]

/-! ## Turns and legal caps -/

/-- The lower bay has its turn on even rounds when it is the pair even member, and on odd rounds otherwise (R78). -/
theorem lowerKeeps_iff (c : PairConfig) (round : Word) :
    c.lowerKeeps round = true ↔ round.toNat % 2 = if c.evenIsOdd then 1 else 0 := by
  rw [PairConfig.lowerKeeps, BitVec.getLsbD, Nat.testBit_zero]
  cases c.evenIsOdd
  case false => simp
  case true => simp

/-- The cap of a latched pair is a multiple of 100 and at least either bay's Pmin (R24). -/
theorem Latched.legal.cap_presentable {l : Latched} (hl : l.legal) (p : Fin 6) (hc : (l.pairs[p]).cap ≠ 0) :
    (l.pairs[p]).cap % 100 = 0 ∧ (l.bay (lowerBay p)).pmin ≤ (l.pairs[p]).cap ∧
      (l.bay (higherBay p)).pmin ≤ (l.pairs[p]).cap := by
  obtain ⟨-, -, pairs, -⟩ := hl
  obtain ⟨hundreds, uncapped | pmins⟩ := pairs p
  · exact absurd uncapped hc
  · exact ⟨hundreds, Nat.max_le.mp pmins⟩

/-! ## The caps of a plan (R77 to R79) -/

/-- Settles O43: the branches of the pair's cap, the turn read from the round's parity, and R24's bound on the cap. -/
theorem loneGrantOfACappedPairIsCutToTheCap : Obligations.LoneGrantOfACappedPairIsCutToTheCap := by
  intro l round g p legal fp a b
  refine ⟨fun hc hb exceeds => ?lower, fun hc ha exceeds => ?higher, fun within => capPair_uncapped (.inr within) ..,
    fun uncapped => capPair_uncapped (.inl uncapped) .., fun hc ha hb exceeds => ?two,
    legal.cap_presentable p⟩
  case lower =>
    calc l.pairGrants round g p = (min a fp, min b fp) := capPair_lone hc (Nat.lt_add_right b exceeds) (.inr hb) ..
      _ = (fp, 0) := by rw [hb, Nat.min_eq_right (Nat.le_of_lt exceeds), Nat.zero_min]
  case higher =>
    calc l.pairGrants round g p = (min a fp, min b fp) := capPair_lone hc (Nat.lt_add_left a exceeds) (.inl ha) ..
      _ = (0, fp) := by rw [ha, Nat.min_eq_right (Nat.le_of_lt exceeds), Nat.zero_min]
  case two =>
    intro pa pb half lowerTurn
    have split : l.pairGrants round g p =
        if pa + pb ≤ fp then (sharedGrant fp pa pb a, sharedGrant fp pb pa b)
        else if (l.pairs[p]).lowerKeeps round then (min a fp, 0) else (0, min b fp) := capPair_two_grants hc ha hb exceeds ..
    have turn := lowerKeeps_iff l.pairs[p] round
    refine ⟨fun covers => ?_, fun short lowers => ?_, fun short highers => ?_⟩
    · rw [split, if_pos covers, sharedGrant_swap fp pb pa b]
      rfl
    · rw [split, if_neg (Nat.not_le.mpr short), if_pos (turn.mpr lowers)]
    · rw [split, if_neg (Nat.not_le.mpr short), if_neg (mt turn.mp highers)]

end Sys2Proof.Machine
end

section
/-! The receipt ring's commands (spec/06): COLLECT (R135, R137) and SET_RECEIPT_WINDOW (R118, R138, R139). First what each
effect does in each of its cases, in the order of its refusals, then the statement. -/

namespace Sys2Proof.Machine

/-! ## COLLECT (R135) -/

section Collect

variable {s : State} {q : Word}

theorem collectEffect_outside (h : q.toNat < s.rw.lastCollected ∨ s.rw.lastIssued < q.toNat) :
    collectEffect q s = (s, some (.refused .badArgument 0)) :=
  if_pos h

/-- Collecting up to the last collected receipt again changes nothing. -/
theorem collectEffect_again (same : q.toNat = s.rw.lastCollected) (within : s.rw.lastCollected ≤ s.rw.lastIssued) :
    collectEffect q s = (s, some (.done (field s.rw.uncollected) (field s.rw.freeCount))) := by
  have inside : ¬ (q.toNat < s.rw.lastCollected ∨ s.rw.lastIssued < q.toNat) := by omega
  simp only [collectEffect, if_neg inside, if_pos same]

/-- Collecting further frees slots, and the low-water mark is judged on the rise (R137). -/
theorem collectEffect_further (further : s.rw.lastCollected < q.toNat) (issued : q.toNat ≤ s.rw.lastIssued) :
    let r := { s.rw with lastCollected := q.toNat, uncollected := s.rw.lastIssued - q.toNat }.judgeRise
    collectEffect q s = ({ s with rw := r }, some (.done (field r.uncollected) (field r.freeCount))) := by
  have inside : ¬ (q.toNat < s.rw.lastCollected ∨ s.rw.lastIssued < q.toNat) := by omega
  have moved : q.toNat ≠ s.rw.lastCollected := Nat.ne_of_gt further
  simp only [collectEffect, if_neg inside, if_neg moved]

end Collect

/-! ## The arguments of SET_RECEIPT_WINDOW (R118, R138) -/

/-- The anchor page is the top of the address space, so a window fits when it ends below that page. -/
theorem windowFits_iff {base len : Nat} (h : 0 < len) : windowFits base len = true ↔ base + len ≤ Config.anchorBase := by
  have top : Config.anchorBase + Config.anchorBytes = Config.spaceBytes := rfl
  simp only [windowFits, rangesMeet, Bool.and_eq_true, Bool.not_eq_true', Bool.and_eq_false_iff, decide_eq_true_eq,
    decide_eq_false_iff_not]
  omega

theorem receiptFits_iff (base slots lowWater : Nat) : receiptFits base slots lowWater = true ↔
    16 ≤ slots ∧ slots ≤ 512 ∧ lowWater ≤ slots ∧ base % 64 = 0 ∧ base + 64 * slots ≤ Config.anchorBase := by
  by_cases h : 16 ≤ slots
  · have nonempty : 0 < slots * 64 := by omega
    simp [receiptFits, inRange, windowFits_iff nonempty, Nat.mul_comm 64, and_assoc]
  · simp [receiptFits, inRange, h]

/-- The arguments are taken when they give no ring at all, or a ring that fits and is apart from the snapshot window. -/
theorem receiptWindowBad_eq_false_iff (s : State) (base slots lowWater : Nat) :
    receiptWindowBad s base slots lowWater = false ↔ (slots = 0 ∧ lowWater = 0) ∨
      (16 ≤ slots ∧ slots ≤ 512 ∧ lowWater ≤ slots ∧ base % 64 = 0 ∧ base + 64 * slots ≤ Config.anchorBase ∧
        windowsMeet (receiptGeometryOf base slots lowWater) s.sw = false) := by
  unfold receiptWindowBad
  by_cases noRing : slots = 0
  · simp [noRing]
  · simp [noRing, receiptFits_iff, and_assoc]

/-! ## The effect of SET_RECEIPT_WINDOW (R138, R139) -/

/-- The ring is in use (R138): a slot is reserved or uncollected, or a receipt is being issued. -/
def ReceiptWriter.inUse (r : ReceiptWriter) : Prop := 0 < r.reserved ∨ 0 < r.uncollected ∨ 0 < r.issuing

theorem ReceiptWriter.inUse_iff (r : ReceiptWriter) :
    r.inUse ↔ (r.reserved != 0 || r.uncollected != 0 || r.issuing != 0) = true := by
  simp [ReceiptWriter.inUse, Nat.pos_iff_ne_zero, or_assoc]

/-- With no slot reserved or uncollected, every slot of a new geometry is free when its mark is judged (R119, R137). -/
theorem takeGeometry_of_not_inUse {r : ReceiptWriter} (h : ¬ r.inUse) (g : ReceiptGeometry) :
    r.takeGeometry g = { r with
      geometry := g, nextSlot := 0, windowFirst := if r.lastIssued = wordMax then 0 else r.lastIssued + 1,
      armed := decide (g.lowWater < g.slots) } := by
  have idle : r.reserved = 0 ∧ r.uncollected = 0 := by
    unfold ReceiptWriter.inUse at h
    omega
  simp [ReceiptWriter.takeGeometry, ReceiptWriter.judgeGeometry, ReceiptWriter.freeCount, idle]

section SetReceiptWindow

variable {s : State} {base slots lowWater : Word}

theorem setReceiptWindowEffect_bad (bad : receiptWindowBad s base.toNat slots.toNat lowWater.toNat ≠ false) :
    setReceiptWindowEffect base slots lowWater s = (s, some (.refused .badArgument 0)) :=
  if_pos (eq_true_of_ne_false bad)

theorem setReceiptWindowEffect_inUse (good : receiptWindowBad s base.toNat slots.toNat lowWater.toNat = false)
    (used : s.rw.inUse) : setReceiptWindowEffect base slots lowWater s = (s, some (.refused .ringInUse 0)) := by
  rw [setReceiptWindowEffect, if_neg (Bool.eq_false_iff.mp good), if_pos (s.rw.inUse_iff.mp used)]

theorem setReceiptWindowEffect_taken (good : receiptWindowBad s base.toNat slots.toNat lowWater.toNat = false)
    (unused : ¬ s.rw.inUse) :
    let r := s.rw.takeGeometry (receiptGeometryOf base.toNat slots.toNat lowWater.toNat)
    setReceiptWindowEffect base slots lowWater s = ({ s with rw := r }.windowsChanged, some (.done (field r.windowFirst) 0)) := by
  rw [setReceiptWindowEffect, if_neg (Bool.eq_false_iff.mp good), if_neg (mt s.rw.inUse_iff.mpr unused)]

end SetReceiptWindow

/-! ## The statement -/

/-- Settles O47: COLLECT by where its sequence number lies, SET_RECEIPT_WINDOW by its arguments and then the ring's use. -/
theorem collectAndReceiptWindow : Obligations.CollectAndReceiptWindow := by
  intro s q base slots lowWater r c g legal inUse
  have noSlots : slots = 0 ↔ slots.toNat = 0 := BitVec.toNat_inj.symm
  have noLowWater : lowWater = 0 ↔ lowWater.toNat = 0 := BitVec.toNat_inj.symm
  have geometry : receiptGeometryOf base.toNat slots.toNat lowWater.toNat = g := by
    simp only [receiptGeometryOf, g, noSlots]
  have legal_iff : receiptWindowBad s base.toNat slots.toNat lowWater.toNat = false ↔ legal := by
    rw [receiptWindowBad_eq_false_iff, geometry, ← noSlots, ← noLowWater]
  refine ⟨fun outside => ?_, fun same within => ?_, fun further issued => ?_, fun bad => ?_, fun good used => ?_,
    fun good unused => ?_⟩
  · exact answers_of_effect (collectEffect q) rfl (collectEffect_outside outside)
  · exact answers_of_effect (collectEffect q) rfl (collectEffect_again same within)
  · exact answers_of_effect (collectEffect q) rfl (collectEffect_further further issued)
  · exact answers_of_effect (setReceiptWindowEffect base slots lowWater) rfl
      (setReceiptWindowEffect_bad (mt legal_iff.mp bad))
  · exact answers_of_effect (setReceiptWindowEffect base slots lowWater) rfl
      (setReceiptWindowEffect_inUse (legal_iff.mpr good) used)
  · have taken := setReceiptWindowEffect_taken (legal_iff.mpr good) unused
    rw [takeGeometry_of_not_inUse unused, geometry] at taken
    exact answers_of_effect (setReceiptWindowEffect base slots lowWater) rfl taken

end Sys2Proof.Machine
end

section
/-! The site hold (spec/09 9.3, 9.4): the reasons for which the site must be held, CLEAR_HOLD (R177) and the recording of a HOLD
kind (R171, R173). First the kind sets and the log, then the statement. -/

namespace Sys2Proof.Machine

/-! ## Kind sets -/

theorem ErrorKind.number_lt (k : ErrorKind) : k.number < 12 := by
  cases k <;> decide

/-- The twelve kinds, in the order of their numbers (R170). -/
def ErrorKind.all : List ErrorKind :=
  [.guardWrite, .commandOverrun, .meterSilent, .meterRunaway, .meterNoise, .contactorFault, .gridOverlimit, .batteryLost,
    .memoryFault, .settingsBad, .epochUnsaved, .vectorFault]

theorem ErrorKind.numbers_all : ErrorKind.all.map ErrorKind.number = List.range 12 := by decide

/-- Each of the twelve numbers names a kind. -/
theorem ErrorKind.exists_number_eq {i : Nat} (h : i < 12) : ∃ k : ErrorKind, k.number = i := by
  have listed : i ∈ ErrorKind.all.map ErrorKind.number := ErrorKind.numbers_all ▸ List.mem_range.mpr h
  obtain ⟨k, -, number⟩ := List.mem_map.mp listed
  exact ⟨k, number⟩

@[simp] theorem inKindSet_and (a b : BitVec 12) (k : ErrorKind) :
    inKindSet (a &&& b) k = (inKindSet a k && inKindSet b k) :=
  BitVec.getLsbD_and

@[simp] theorem inKindSet_or (a b : BitVec 12) (k : ErrorKind) :
    inKindSet (a ||| b) k = (inKindSet a k || inKindSet b k) :=
  BitVec.getLsbD_or

@[simp] theorem inKindSet_not (a : BitVec 12) (k : ErrorKind) : inKindSet (~~~a) k = !inKindSet a k := by
  simp [inKindSet, k.number_lt]

@[simp] theorem inKindSet_bit_self (k : ErrorKind) : inKindSet k.bit k = true := by
  cases k <;> decide

/-- A kind set is not empty when some kind is in it. -/
theorem kindSet_ne_zero_iff (set : BitVec 12) : set ≠ 0 ↔ ∃ k, inKindSet set k = true := by
  constructor
  · refine fun nonzero => Classical.byContradiction fun empty => nonzero (BitVec.eq_of_getLsbD_eq fun i hi => ?_)
    obtain ⟨k, rfl⟩ := ErrorKind.exists_number_eq hi
    have absent : inKindSet set k = false := Bool.eq_false_iff.mpr fun h => empty ⟨k, h⟩
    simpa [inKindSet] using absent
  · rintro ⟨k, member⟩ rfl
    simp [inKindSet] at member

/-! ## The log -/

/-- A kind stands as a reason for the hold (R173): its status set, its mask off, its severity HOLD. -/
def ErrorLog.holdReason (el : ErrorLog) (k : ErrorKind) : Prop :=
  inKindSet el.status k = true ∧ inKindSet el.masked k = false ∧ inKindSet el.holds k = true

theorem ErrorLog.mustHold_iff (el : ErrorLog) : el.mustHold = true ↔ ∃ k, el.holdReason k := by
  rw [ErrorLog.mustHold, bne_iff_ne, kindSet_ne_zero_iff]
  simp [ErrorLog.holdReason, and_assoc]

/-- The list, its overflow flag and nothing else change when a record is appended (R171 step 3). -/
theorem append_eq (el : ErrorLog) (r : ErrorRecord) :
    ∃ records overflow, el.append r = { el with records := records, overflow := overflow } := by
  unfold ErrorLog.append
  split
  case isTrue => exact ⟨el.records ++ [r], el.overflow, rfl⟩
  case isFalse => exact ⟨el.records, true, rfl⟩

section Take

variable (el : ErrorLog) (r : ErrorRecord)

/-- A recording, masked or not, sets its kind's status and leaves the policy as it was (R171 step 1). -/
theorem take_eq : ∃ records overflow first hold, el.take r = { el with
    status := el.status ||| r.recording.kind.bit, records := records, overflow := overflow, first := first, hold := hold } := by
  unfold ErrorLog.take
  dsimp only
  split
  case isTrue => exact ⟨_, _, _, _, rfl⟩
  case isFalse =>
    obtain ⟨_, _, listed⟩ := append_eq { el with status := el.status ||| r.recording.kind.bit } r
    rw [listed]
    exact ⟨_, _, _, _, rfl⟩

@[simp] theorem status_take : (el.take r).status = el.status ||| r.recording.kind.bit := by
  obtain ⟨_, _, _, _, h⟩ := take_eq el r; rw [h]
@[simp] theorem masked_take : (el.take r).masked = el.masked := by
  obtain ⟨_, _, _, _, h⟩ := take_eq el r; rw [h]
@[simp] theorem holds_take : (el.take r).holds = el.holds := by
  obtain ⟨_, _, _, _, h⟩ := take_eq el r; rw [h]

variable {el r}

/-- An unmasked recording of a HOLD kind has the site in HOLD (R171 step 6). -/
theorem hold_take (unmasked : inKindSet el.masked r.recording.kind = false)
    (severe : inKindSet el.holds r.recording.kind = true) : (el.take r).hold = true := by
  simp [ErrorLog.take, unmasked, severe]

/-- An unmasked recording of a HOLD kind leaves its kind standing as a reason. -/
theorem holdReason_take (unmasked : inKindSet el.masked r.recording.kind = false)
    (severe : inKindSet el.holds r.recording.kind = true) : (el.take r).holdReason r.recording.kind := by
  simp [ErrorLog.holdReason, unmasked, severe]

end Take

/-! ## A recording in the state -/

/-- The causes that a recording fires leave the log as the recording has it. -/
@[simp] theorem el_record (s : State) (r : Recording) :
    (s.record r).el = s.el.take { recording := r, time := s.clock.siteTime, round := s.al.round } := by
  unfold State.record
  split
  case isTrue => rfl
  case isFalse => dsimp only; split <;> simp

/-- A recording by which the site enters HOLD fires ERROR_RECORDED and then HOLD_CHANGED (R171 steps 5 and 6). -/
theorem record_entersHold {s : State} {r : Recording} (unmasked : inKindSet s.el.masked r.kind = false)
    (severe : inKindSet s.el.holds r.kind = true) (clear : s.el.hold = false) :
    s.record r = ({ s with el := (s.record r).el }.fire .errorRecorded).fire .holdChanged := by
  have held := hold_take (r := ⟨r, s.clock.siteTime, s.al.round⟩) unmasked severe
  rw [el_record]
  simp [State.record, unmasked, held, clear]

/-! ## CLEAR_HOLD (R177) -/

theorem clearHoldEffect_reason {s : State} (reason : s.el.mustHold = true) :
    clearHoldEffect s = (s, some (.refused .wrongState 0)) :=
  if_pos reason

theorem clearHoldEffect_held {s : State} (free : ¬ s.el.mustHold = true) (held : s.el.hold = true) :
    clearHoldEffect s = ({ s with el := { s.el with hold := false } }.fire .holdChanged, some (.done 0 0)) := by
  rw [clearHoldEffect, if_neg free, if_pos held]
  rfl

theorem clearHoldEffect_clear {s : State} (free : ¬ s.el.mustHold = true) (clear : s.el.hold = false) :
    clearHoldEffect s = (s, some (.done 0 0)) := by
  rw [clearHoldEffect, if_neg free, if_neg (Bool.eq_false_iff.mp clear)]
  rfl

theorem clearHold_refuses {s : State} (reason : s.el.mustHold = true) : s.refuses .clearHold .wrongState :=
  answers_of_effect clearHoldEffect rfl (clearHoldEffect_reason reason)

/-- Settles O55: CLEAR_HOLD by its reasons and the hold, and the recording that leaves its kind as a reason. -/
theorem clearHoldLeavesHold : Obligations.ClearHoldLeavesHold := by
  intro s reason left
  have reason_iff : s.el.mustHold = true ↔ reason := s.el.mustHold_iff
  have clear : left.el.hold = false := by simp [left]
  refine ⟨fun stands => clearHold_refuses (reason_iff.mpr stands), fun free held => ⟨?_, clear, clear⟩,
    fun free unheld => ?_, fun r unmasked severe => ⟨clearHold_refuses ?_, ?_, record_entersHold unmasked severe⟩⟩
  · exact answers_of_effect clearHoldEffect rfl (clearHoldEffect_held (mt reason_iff.mp free) held)
  · exact answers_of_effect clearHoldEffect rfl (clearHoldEffect_clear (mt reason_iff.mp free) unheld)
  · rw [el_record, ErrorLog.mustHold_iff]
    exact ⟨r.kind, holdReason_take unmasked severe⟩
  · rw [el_record]
    exact hold_take unmasked severe

end Sys2Proof.Machine
end

section
/-! Entries of lists read with a default value, sums of lists, and equivalent conditions: what the proofs need beside core Lean's lemmas. -/

namespace Sys2Proof.Machine

theorem ite_congr_iff {α : Type} {p q : Prop} [Decidable p] [Decidable q] {x u y v : α} (same : p ↔ q) (yes : x = u) (no : y = v) :
    (if p then x else y) = if q then u else v :=
  ite_congr (propext same) (fun _ => yes) fun _ => no

section
variable {α : Type} {l m : List α} {d : α} {i : Nat}

theorem getD_of_lt (low : i < l.length) : l.getD i d = l[i] := by
  rw [List.getD_eq_getElem?_getD, List.getElem?_eq_getElem low, Option.getD_some]

theorem getD_of_le (past : l.length ≤ i) : l.getD i d = d := by
  rw [List.getD_eq_getElem?_getD, List.getElem?_eq_none past, Option.getD_none]

theorem getD_append_of_lt (low : i < l.length) : (l ++ m).getD i d = l.getD i d := by
  rw [List.getD_eq_getElem?_getD, List.getElem?_append_left low, ← List.getD_eq_getElem?_getD]

theorem getD_append_of_le (past : l.length ≤ i) : (l ++ m).getD i d = m.getD (i - l.length) d := by
  rw [List.getD_eq_getElem?_getD, List.getElem?_append_right past, ← List.getD_eq_getElem?_getD]

end

section
variable {α : Type} {l m : List α} {f g : α → Nat}

theorem le_sum_of_mem {n : Nat} {ns : List Nat} (mem : n ∈ ns) : n ≤ ns.sum := by
  induction ns with
  | nil => cases mem
  | cons k ns ih =>
    rw [List.sum_cons]
    rcases List.mem_cons.mp mem with rfl | later
    · exact Nat.le_add_right ..
    · exact Nat.le_trans (ih later) (Nat.le_add_left ..)

theorem sum_map_le (le : ∀ a ∈ l, f a ≤ g a) : (l.map f).sum ≤ (l.map g).sum := by
  induction l with
  | nil => exact Nat.le.refl
  | cons a l ih =>
    rw [List.map_cons, List.map_cons, List.sum_cons, List.sum_cons]
    exact Nat.add_le_add (le a List.mem_cons_self) (ih fun b mem => le b (List.mem_cons_of_mem _ mem))

theorem sum_map_add : (l.map fun a => f a + g a).sum = (l.map f).sum + (l.map g).sum := by
  induction l with
  | nil => rfl
  | cons a l ih =>
    simp only [List.map_cons, List.sum_cons]
    omega

theorem sum_map_if (p : α → Prop) [DecidablePred p] : (l.map fun a => if p a then f a else 0).sum = ((l.filter p).map f).sum := by
  induction l with
  | nil => rfl
  | cons a l ih =>
    rw [List.map_cons, List.sum_cons, ih]
    by_cases here : p a
    · rw [if_pos here, List.filter_cons_of_pos (by simpa using here), List.map_cons, List.sum_cons]
    · rw [if_neg here, List.filter_cons_of_neg (by simpa using here), Nat.zero_add]

/-- What adds nothing may be left out of a sum. -/
theorem sum_map_of_subset [DecidableEq α] (nodup : l.Nodup) (nodup' : m.Nodup) (sub : m ⊆ l) (none : ∀ a ∈ l, a ∉ m → f a = 0) :
    (l.map f).sum = (m.map f).sum := by
  have kept : (l.filter (· ∈ m)).Perm m := by
    refine (List.perm_ext_iff_of_nodup (nodup.sublist List.filter_sublist) nodup').mpr fun a => ?_
    rw [List.mem_filter, decide_eq_true_iff]
    exact ⟨And.right, fun mem => ⟨sub mem, mem⟩⟩
  calc (l.map f).sum = (l.map fun a => if a ∈ m then f a else 0).sum := by
        refine congrArg List.sum (List.map_congr_left fun a mem => ?_)
        split
        · rfl
        · next out => exact none a mem out
    _ = ((l.filter (· ∈ m)).map f).sum := sum_map_if (· ∈ m)
    _ = (m.map f).sum := (kept.map f).sum_nat

end

end Sys2Proof.Machine
end

section
/-! Steps and rows (spec/95): a step runs the front command, every row completes, a ring row runs the effect of the command that
the Command Unit holds, and each row keeps to its parts of the state. -/

namespace Sys2Proof.Machine

/-- Settles O1: the first case of a step. -/
theorem stepRunsTheFrontCommand : Obligations.StepRunsTheFrontCommand := by
  intro s c rest waiting
  rw [step, waiting]

/-! ## Ring rows -/

/-- The row of a ring command runs the command's effect through the Command Unit (R160). -/
theorem exec_ringCommand {c : Instr} (ring : (encodeSlot c 0).isSome = true) (s : State) :
    exec c s = .next (s.ringCommand c (commandEffect c)) := by
  cases c
  all_goals first
    | rfl
    | cases ring

/-- Settles O7: a ring row in execution is answered as its effect says, and otherwise changes nothing. -/
theorem ringRowsExecuteTheCommandHeld : Obligations.RingRowsExecuteTheCommandHeld := by
  intro c s ring
  constructor
  · intro position words held
    rw [exec_ringCommand ring, ringCommand_executes held]
  · intro notHeld
    rw [exec_ringCommand ring, ringCommand_not_executing notHeld]

/-! ## Every row completes -/

theorem execOwnWriteAttemptComplete_completes (bursts : List Bool) (s : State) :
    ∃ t, execOwnWriteAttemptComplete bursts s = .next t := by
  unfold execOwnWriteAttemptComplete
  repeat' split
  all_goals exact ⟨_, rfl⟩

theorem execSweepReadComplete_completes (ok : Bool) (data : List Word) (s : State) :
    ∃ t, execSweepReadComplete ok data s = .next t := by
  unfold execSweepReadComplete
  dsimp only
  repeat' split
  all_goals exact ⟨_, rfl⟩

theorem execFetchReadComplete_completes (ok : Bool) (data : List Word) (s : State) :
    ∃ t, execFetchReadComplete ok data s = .next t := by
  unfold execFetchReadComplete
  dsimp only
  repeat' split
  all_goals exact ⟨_, rfl⟩

theorem execMeterTrailingEdge_completes (ch : Fin 17) (s : State) : ∃ t, execMeterTrailingEdge ch s = .next t := by
  unfold execMeterTrailingEdge
  dsimp only
  repeat' split
  all_goals exact ⟨_, rfl⟩

theorem execMPortGrant_completes (s : State) : ∃ t, execMPortGrant s = .next t := by
  unfold execMPortGrant
  repeat' split
  all_goals exact ⟨_, rfl⟩

/-- Every row ends each of its branches with a next state: a ring row at once, and the others branch by branch. -/
theorem exec_completes (c : Instr) (s : State) : ∃ t, exec c s = .next t := by
  by_cases ring : (encodeSlot c 0).isSome = true
  · exact ⟨_, exec_ringCommand ring s⟩
  cases c
  case ownWriteAttemptComplete bursts => exact execOwnWriteAttemptComplete_completes ..
  case sweepReadComplete => exact execSweepReadComplete_completes ..
  case fetchReadComplete => exact execFetchReadComplete_completes ..
  case meterTrailingEdge => exact execMeterTrailingEdge_completes ..
  case mPortGrant => exact execMPortGrant_completes ..
  case settingsCommandEnd =>
    unfold exec execSettingsCommandEnd
    dsimp only
    split
    all_goals exact ⟨_, rfl⟩
  all_goals
    simp only [exec, execPor, execCrst, execSettingsOperationStart, execPreloadReadEnd, execStartingEnd,
      execEpochRetryTimerExpiry, execEpochRetryEnd, execSiteTimeTick, execMeterLeadingEdge, execPulseWidthExceeded,
      execChannelStale, execSilenceFound, execMeterFaultEvent, execPlugFilterExpiry, execReadyFilterExpiry,
      execReleaseFilterExpiry, execFeedbackChange, execFeedbackTimerExpiry, execIdleTimerExpiry, execReleaseTimerExpiry,
      execStopDelayExpiry, execIssuingExit, execSessionClosedReport, execRoundBoundary, execPlanComputationEnd,
      execBattLineFilterExpiry, execControllerWriteAccept, execControllerReadAccept, execReleaseWrite, execPostIndexWrite,
      execViewSelectorWrite, execEventWordRead, execForwardedTransactionComplete, execPlugLineChange, execReadyLineChange,
      execReleaseLineChange, execBattLineChange, execUnknownCommand]
    repeat' split
  all_goals exact ⟨_, rfl⟩

/-- Settles O3. -/
theorem everyRowCompletes : Obligations.EveryRowCompletes := exec_completes

/-! ## What each row leaves alone -/

/-- The effect of every ring command leaves the Command Unit, the settings of the channels and what is the model's own. -/
theorem commandEffect_frame (c : Instr) (s : State) : State.changesOnly
    [.clock, .channels, .bays, .pairs, .nextSession, .al, .ba, .sw, .rw, .pu, .nu, .el, .sp] s (commandEffect c s).1 := by
  cases c
  case authorise => exact changesOnly_mono (authoriseEffect_frame ..) rfl
  case stop => exact changesOnly_mono (stopEffect_frame ..) rfl
  case extendQuota => exact changesOnly_mono (extendQuotaEffect_frame ..) rfl
  case releaseConfirm => exact changesOnly_mono (releaseConfirmEffect_frame ..) rfl
  case releaseCancel => exact changesOnly_mono (releaseCancelEffect_frame ..) rfl
  case maintenanceOn => exact changesOnly_mono (maintenanceOnEffect_frame ..) rfl
  case maintenanceOff => exact changesOnly_mono (maintenanceOffEffect_frame ..) rfl
  case clearBay => exact changesOnly_mono (clearBayEffect_frame ..) rfl
  case setBay => exact changesOnly_mono (setBayEffect_frame ..) rfl
  case setSite => exact changesOnly_mono (setSiteEffect_frame ..) rfl
  case setSupplyMap => exact changesOnly_mono (setSupplyMapEffect_frame ..) rfl
  case setBattery => exact changesOnly_mono (setBatteryEffect_frame ..) rfl
  case setTime => exact changesOnly_mono (setTimeEffect_frame ..) rfl
  case collect => exact changesOnly_mono (collectEffect_frame ..) rfl
  case setReceiptWindow => exact changesOnly_mono (setReceiptWindowEffect_frame ..) rfl
  case setSnapshotWindow => exact changesOnly_mono (setSnapshotWindowEffect_frame ..) rfl
  case causeMap => exact changesOnly_mono (causeMapEffect_frame ..) rfl
  case clearErrors => exact changesOnly_mono (clearErrorsEffect_frame ..) rfl
  case ackError => exact changesOnly_mono (ackErrorEffect_frame ..) rfl
  case setErrorPolicy => exact changesOnly_mono (setErrorPolicyEffect_frame ..) rfl
  case clearHold => exact changesOnly_mono (clearHoldEffect_frame ..) rfl
  case settingsRead => exact changesOnly_mono (settingsReadEffect_frame ..) rfl
  case settingsWrite => exact changesOnly_mono (settingsWriteEffect_frame ..) rfl
  all_goals exact changesOnly_refl _ s

@[simp] theorem cu_commandEffect (c : Instr) (s : State) : (commandEffect c s).1.cu = s.cu :=
  ((commandEffect_frame c s).same .cu (by decide)).symm

/-- What a ring row may change beside the Command Unit and the queue is what its command's effect changes. -/
theorem ringRow_frame {c : Instr} (ring : (encodeSlot c 0).isSome = true) (s : State) :
    State.changesOnly (touchedBy c) s (s.ringCommand c (commandEffect c)) := by
  cases c
  case authorise => exact ringCommand_frame s _ _ (authoriseEffect_frame ..) rfl
  case stop => exact ringCommand_frame s _ _ (stopEffect_frame ..) rfl
  case extendQuota => exact ringCommand_frame s _ _ (extendQuotaEffect_frame ..) rfl
  case releaseConfirm => exact ringCommand_frame s _ _ (releaseConfirmEffect_frame ..) rfl
  case releaseCancel => exact ringCommand_frame s _ _ (releaseCancelEffect_frame ..) rfl
  case maintenanceOn => exact ringCommand_frame s _ _ (maintenanceOnEffect_frame ..) rfl
  case maintenanceOff => exact ringCommand_frame s _ _ (maintenanceOffEffect_frame ..) rfl
  case clearBay => exact ringCommand_frame s _ _ (clearBayEffect_frame ..) rfl
  case setBay => exact ringCommand_frame s _ _ (setBayEffect_frame ..) rfl
  case setSite => exact ringCommand_frame s _ _ (setSiteEffect_frame ..) rfl
  case setSupplyMap => exact ringCommand_frame s _ _ (setSupplyMapEffect_frame ..) rfl
  case setBattery => exact ringCommand_frame s _ _ (setBatteryEffect_frame ..) rfl
  case setTime => exact ringCommand_frame s _ _ (setTimeEffect_frame ..) rfl
  case collect => exact ringCommand_frame s _ _ (collectEffect_frame ..) rfl
  case setReceiptWindow => exact ringCommand_frame s _ _ (setReceiptWindowEffect_frame ..) rfl
  case setSnapshotWindow => exact ringCommand_frame s _ _ (setSnapshotWindowEffect_frame ..) rfl
  case causeMap => exact ringCommand_frame s _ _ (causeMapEffect_frame ..) rfl
  case clearErrors => exact ringCommand_frame s _ _ (clearErrorsEffect_frame ..) rfl
  case ackError => exact ringCommand_frame s _ _ (ackErrorEffect_frame ..) rfl
  case setErrorPolicy => exact ringCommand_frame s _ _ (setErrorPolicyEffect_frame ..) rfl
  case clearHold => exact ringCommand_frame s _ _ (clearHoldEffect_frame ..) rfl
  case settingsRead => exact ringCommand_frame s _ _ (settingsReadEffect_frame ..) rfl
  case settingsWrite => exact ringCommand_frame s _ _ (settingsWriteEffect_frame ..) rfl
  case unknownCommand => exact ringCommand_frame s _ _ (changesOnly_refl [] s) rfl
  all_goals cases ring

theorem completeExecution_frame (s : State) : State.changesOnly
    [.clock, .channels, .bays, .pairs, .nextSession, .al, .ba, .sw, .rw, .pu, .nu, .el, .sp] s s.completeExecution := by
  unfold State.completeExecution
  split
  · exact commandEffect_frame ..
  all_goals exact changesOnly_refl ..

/-- CRST as it clears the controller's side, before a held access is accepted (R156, R163, R169). -/
def State.clearedByCrst (s : State) : State :=
  (({ s with pu := s.pu.afterCrst, cu := {}, sp := s.sp.discard }.removeEntries EntryKind.isMessage).orphanReplies).resetNotices

theorem afterCrst_eq (s : State) : s.afterCrst = s.completeExecution.clearedByCrst.acceptAfterCrst := rfl

theorem resetSide_frame (s : State) (p : PathUnit) (c : CommandUnit) (q : SettingsPort) :
    State.changesOnly [.pu, .cu, .sp] s { s with pu := p, cu := c, sp := q } := by
  constructor; intro k hk; cases k <;> first | rfl | simp at hk

theorem clearedByCrst_frame (s : State) : State.changesOnly [.pu, .cu, .nu, .sp] s s.clearedByCrst := by
  refine changesOnly_comp (ps := [.pu, .cu, .sp]) ?_ (nu_frame _ _) rfl
  refine changesOnly_comp (ps := [.pu, .cu, .sp]) ?_ (pu_frame _ _) rfl
  exact changesOnly_comp (resetSide_frame s _ _ _) (removeEntries_frame _ _) rfl

theorem acceptAfterCrst_frame (s : State) : State.changesOnly [.bays, .cu, .el, .nu, .pu] s s.acceptAfterCrst := by
  unfold State.acceptAfterCrst
  split
  · exact changesOnly_refl ..
  · exact acceptHeld_frame ..

theorem afterCrst_frame (s : State) : State.changesOnly (touchedBy .crst) s s.afterCrst := by
  rw [afterCrst_eq]
  exact changesOnly_comp (changesOnly_comp (rs := touchedBy .crst) (completeExecution_frame s) (clearedByCrst_frame _) rfl)
    (acceptAfterCrst_frame _) rfl

theorem afterPor_frame (s : State) : State.changesOnly (touchedBy .por) s s.afterPor := by
  constructor; intro k hk; cases k <;> first | rfl | simp [touchedBy] at hk

theorem present_frame (s : State) (r : Request) : State.changesOnly [.bays, .cu, .el, .nu, .pu] s (s.present r) := by
  unfold State.present
  repeat' split
  · exact changesOnly_refl ..
  · exact changesOnly_mono (pu_frame ..) rfl
  · exact accept_frame ..

theorem present_write_frame (s : State) (a : Nat) (words : List WriteWord) :
    State.changesOnly [.cu, .el, .nu, .pu] s (s.present (.write a words)) := by
  unfold State.present
  repeat' split
  · exact changesOnly_refl ..
  · exact changesOnly_mono (pu_frame ..) rfl
  · exact acceptWrite_frame ..

theorem present_read_frame (s : State) (a n : Nat) : State.changesOnly [.bays, .pu] s (s.present (.read a n)) := by
  unfold State.present
  repeat' split
  · exact changesOnly_refl ..
  · exact changesOnly_mono (pu_frame ..) rfl
  · exact acceptRead_frame ..

theorem completeForwarded_frame (s : State) (a : Access) (ok : Bool) (data : List Word) :
    State.changesOnly [.el, .nu, .pu] s (s.completeForwarded a ok data) := by
  unfold State.completeForwarded
  split
  · exact changesOnly_mono (completeC_frame ..) rfl
  · dsimp only
    split
    · exact changesOnly_comp (completeC_frame ..) (takeWatched_frame ..) rfl
    · exact changesOnly_mono (completeC_frame ..) rfl

theorem beginEntry_frame (s : State) (e : Entry) : State.changesOnly [.nu] s (s.beginEntry e) := by
  unfold State.beginEntry
  split
  · exact setVector_frame ..
  all_goals exact changesOnly_refl ..

theorem grantPart_frame (s : State) : State.changesOnly [.nu, .pu] s s.grantPart := by
  unfold State.grantPart
  split
  · exact changesOnly_comp (pu_frame ..) (beginEntry_frame ..) rfl
  · exact changesOnly_mono (pu_frame ..) rfl
  · exact changesOnly_refl ..

theorem takeFetched_frame (s : State) (k : Nat) (data : List Word) : State.changesOnly [.cu, .pu] s (s.takeFetched k data) := by
  unfold State.takeFetched
  repeat' split
  · exact changesOnly_comp (cu_frame ..) (requestRead_frame ..) rfl
  · exact changesOnly_mono (cu_frame ..) rfl
  all_goals exact changesOnly_refl ..

theorem skipFetch_frame (s : State) : State.changesOnly [.cu, .pu] s s.skipFetch := by
  unfold State.skipFetch
  split
  · exact queueReply_frame ..
  all_goals exact changesOnly_refl ..

/-! ## The frame of each row -/

/-- Each row that is no ring command, branch by branch. -/
theorem row_frame {c : Instr} (notRing : ¬ (encodeSlot c 0).isSome = true) {s t : State} (h : exec c s = .next t) :
    State.changesOnly (touchedBy c) s t := by
  cases c
  case por => cases h; exact afterPor_frame s
  case crst => cases h; exact afterCrst_frame s
  case settingsOperationStart =>
    simp only [exec, execSettingsOperationStart] at h
    split at h <;> cases h
    · exact sp_frame ..
    · exact changesOnly_refl ..
  case preloadReadEnd =>
    simp only [exec, execPreloadReadEnd] at h
    split at h <;> cases h
    · exact sp_frame ..
    · exact changesOnly_refl ..
  case startingEnd ok order =>
    simp only [exec, execStartingEnd] at h
    split at h <;> cases h
    · exact endStarting_frame ..
    · exact changesOnly_refl ..
  case epochRetryTimerExpiry =>
    simp only [exec, execEpochRetryTimerExpiry] at h
    split at h <;> cases h
    · exact sp_frame ..
    · exact changesOnly_refl ..
  case epochRetryEnd =>
    simp only [exec, execEpochRetryEnd] at h
    repeat' split at h
    all_goals cases h
    · exact changesOnly_comp (endSettings_frame s) (el_frame _ _) rfl
    · exact changesOnly_mono (sp_frame ..) rfl
    all_goals exact changesOnly_refl ..
  case siteTimeTick =>
    simp only [exec, execSiteTimeTick] at h
    split at h <;> cases h
    · exact clock_frame ..
    · exact changesOnly_refl ..
  case meterLeadingEdge =>
    simp only [exec, execMeterLeadingEdge] at h
    split at h <;> cases h
    · exact changesOnly_refl ..
    · exact onChannel_frame ..
  case meterTrailingEdge ch =>
    simp only [exec, execMeterTrailingEdge] at h
    repeat' split at h
    all_goals cases h
    · exact changesOnly_mono (onChannel_frame ..) rfl
    · exact changesOnly_comp (onChannel_frame ..) (reject_frame ..) rfl
    · exact changesOnly_comp (onChannel_frame ..) (acceptPulse_frame ..) rfl
    · exact changesOnly_comp (onChannel_frame ..) (reject_frame ..) rfl
    · exact changesOnly_refl ..
  case pulseWidthExceeded =>
    simp only [exec, execPulseWidthExceeded] at h
    split at h <;> cases h
    · exact reject_frame ..
    · exact changesOnly_refl ..
  case channelStale =>
    simp only [exec, execChannelStale] at h
    split at h <;> cases h
    · exact onChannel_frame ..
    · exact changesOnly_refl ..
  case silenceFound =>
    simp only [exec, execSilenceFound] at h
    split at h <;> cases h
    · exact findSilence_frame ..
    · exact changesOnly_refl ..
  case meterFaultEvent =>
    simp only [exec, execMeterFaultEvent] at h
    repeat' split at h
    all_goals cases h
    · exact changesOnly_refl ..
    · exact changesOnly_comp (onBay_frame ..) (enterStopping_frame ..) rfl
    · exact changesOnly_mono (onBay_frame ..) rfl
  case plugFilterExpiry =>
    simp only [exec, execPlugFilterExpiry] at h
    repeat' split at h
    all_goals cases h
    · exact changesOnly_mono (onBay_frame ..) rfl
    · exact changesOnly_comp (onBay_frame ..) (plugIn_frame ..) rfl
    · exact changesOnly_comp (onBay_frame ..) (plugOut_frame ..) rfl
    · exact changesOnly_refl ..
  case readyFilterExpiry =>
    simp only [exec, execReadyFilterExpiry] at h
    repeat' split at h
    all_goals cases h
    · exact changesOnly_mono (onBay_frame ..) rfl
    · exact changesOnly_comp (onBay_frame ..) (readyHigh_frame ..) rfl
    · exact changesOnly_comp (onBay_frame ..) (readyLow_frame ..) rfl
    · exact changesOnly_refl ..
  case releaseFilterExpiry =>
    simp only [exec, execReleaseFilterExpiry] at h
    repeat' split at h
    all_goals cases h
    · exact changesOnly_comp (onBay_frame ..) (press_frame ..) rfl
    · exact changesOnly_mono (onBay_frame ..) rfl
    · exact changesOnly_refl ..
  case feedbackChange =>
    simp only [exec, execFeedbackChange] at h
    split at h <;> cases h
    · exact changesOnly_refl ..
    · exact changesOnly_comp (onBay_frame ..) (judgeIssuing_frame ..) rfl
  case feedbackTimerExpiry b =>
    simp only [exec, execFeedbackTimerExpiry] at h
    split at h <;> cases h
    · refine changesOnly_comp (ps := [.bays, .el, .nu, .pu]) ?_ (contactorFault_frame _ b) rfl
      exact changesOnly_comp (changesOnly_comp (rs := [.bays, .el, .nu, .pu]) (onBay_frame s b _) (record_frame _ _) rfl)
        (raise_frame _ b .fault) rfl
    · exact changesOnly_refl ..
  case idleTimerExpiry =>
    simp only [exec, execIdleTimerExpiry] at h
    split at h <;> cases h
    · exact enterStopping_frame ..
    · exact changesOnly_refl ..
  case releaseTimerExpiry =>
    simp only [exec, execReleaseTimerExpiry] at h
    split at h <;> cases h
    · exact enterStopping_frame ..
    · exact changesOnly_refl ..
  case stopDelayExpiry =>
    simp only [exec, execStopDelayExpiry] at h
    split at h <;> cases h
    · exact changesOnly_comp (onBay_frame ..) (judgeIssuing_frame ..) rfl
    · exact changesOnly_refl ..
  case issuingExit b =>
    simp only [exec, execIssuingExit] at h
    split at h <;> cases h
    · exact changesOnly_comp (changesOnly_comp (rs := [.bays, .nu, .pu]) (raise_frame s b .receiptIssued) (onBay_frame _ b _) rfl)
        (watchFeedback_frame _ b) rfl
    · exact changesOnly_refl ..
  case sessionClosedReport b =>
    simp only [exec, execSessionClosedReport] at h
    split at h <;> cases h
    · exact changesOnly_comp (onBay_frame s b _) (rw_frame _ _) rfl
    · exact changesOnly_refl ..
  case roundBoundary order =>
    simp only [exec, execRoundBoundary] at h
    split at h <;> cases h
    · exact changesOnly_comp (al_frame s _) (boundary_frame _ _ order) rfl
    · exact changesOnly_refl ..
  case planComputationEnd =>
    simp only [exec, execPlanComputationEnd] at h
    split at h <;> cases h
    · constructor; intro k hk; cases k <;> first | rfl | simp [touchedBy] at hk
    · exact changesOnly_refl ..
  case battLineFilterExpiry =>
    simp only [exec, execBattLineFilterExpiry] at h
    repeat' split at h
    all_goals cases h
    · exact changesOnly_mono (setLine_frame ..) rfl
    · exact changesOnly_comp (setLine_frame ..) (battEdge_frame ..) rfl
    · exact changesOnly_refl ..
  case controllerWriteAccept => cases h; exact present_write_frame ..
  case releaseWrite => cases h; exact present_write_frame ..
  case postIndexWrite => cases h; exact present_write_frame ..
  case viewSelectorWrite => cases h; exact present_write_frame ..
  case controllerReadAccept => cases h; exact present_read_frame ..
  case eventWordRead => cases h; exact present_read_frame ..
  case forwardedTransactionComplete =>
    simp only [exec, execForwardedTransactionComplete] at h
    split at h <;> cases h
    · exact changesOnly_comp (freePort_frame s) (completeForwarded_frame ..) rfl
    all_goals exact changesOnly_refl ..
  case mPortGrant =>
    simp only [exec, execMPortGrant] at h
    repeat' split at h
    all_goals cases h
    · exact changesOnly_mono (pu_frame ..) rfl
    · exact grantPart_frame ..
    · exact grantPart_frame ..
    · exact changesOnly_refl ..
  case ownWriteAttemptComplete =>
    simp only [exec, execOwnWriteAttemptComplete] at h
    repeat' split at h
    all_goals cases h
    · exact changesOnly_comp (freePort_frame s) (attemptDone_frame ..) rfl
    all_goals exact changesOnly_refl ..
  case sweepReadComplete =>
    simp only [exec, execSweepReadComplete] at h
    repeat' split at h
    all_goals cases h
    · exact changesOnly_mono (freePort_frame s) rfl
    · exact changesOnly_comp (changesOnly_comp (rs := [.el, .nu, .pu]) (freePort_frame s) (takeWatched_frame ..) rfl)
        (nextSweep_frame ..) rfl
    · exact changesOnly_comp (rs := touchedBy (.sweepReadComplete true [])) (freePort_frame s) (requestRead_frame ..) rfl
    · exact changesOnly_comp (changesOnly_comp (rs := [.el, .nu, .pu]) (freePort_frame s) (memoryFault_frame ..) rfl)
        (nextSweep_frame ..) rfl
    all_goals exact changesOnly_refl ..
  case fetchReadComplete =>
    simp only [exec, execFetchReadComplete] at h
    repeat' split at h
    all_goals cases h
    · exact changesOnly_mono (freePort_frame s) rfl
    · exact changesOnly_comp (freePort_frame s) (takeFetched_frame ..) rfl
    · exact changesOnly_comp (rs := touchedBy (.fetchReadComplete true [])) (freePort_frame s) (requestRead_frame ..) rfl
    · exact changesOnly_comp (changesOnly_comp (rs := [.el, .nu, .pu]) (freePort_frame s) (memoryFault_frame ..) rfl)
        (skipFetch_frame _) rfl
    all_goals exact changesOnly_refl ..
  case settingsCommandEnd =>
    simp only [exec, execSettingsCommandEnd] at h
    repeat' split at h
    all_goals cases h
    all_goals first
      | exact changesOnly_mono (endSettings_frame s) rfl
      | exact changesOnly_comp (endSettings_frame s) (replySettings_frame ..) rfl
      | exact changesOnly_refl ..
  case plugLineChange =>
    simp only [exec, execPlugLineChange] at h
    split at h <;> cases h
    · exact changesOnly_refl ..
    · exact onBay_frame ..
  case readyLineChange =>
    simp only [exec, execReadyLineChange] at h
    split at h <;> cases h
    · exact changesOnly_refl ..
    · exact onBay_frame ..
  case releaseLineChange =>
    simp only [exec, execReleaseLineChange] at h
    split at h <;> cases h
    · exact changesOnly_refl ..
    · exact onBay_frame ..
  case battLineChange =>
    simp only [exec, execBattLineChange] at h
    split at h <;> cases h
    · exact changesOnly_refl ..
    · exact setLine_frame ..
  case unknownCommand =>
    cases h
    exact ringCommand_frame s _ _ (changesOnly_refl [] s) rfl
  all_goals exact absurd rfl notRing

/-- The frame of every row. -/
theorem exec_frame {c : Instr} {s t : State} (h : exec c s = .next t) : State.changesOnly (touchedBy c) s t := by
  by_cases ring : (encodeSlot c 0).isSome = true
  · rw [exec_ringCommand ring] at h
    cases h
    exact ringRow_frame ring s
  · exact row_frame ring h

/-- Settles O4: the frame of each row, and no row's list holds the queue of commands that wait. -/
theorem rowsTouchOnlyTheirParts : Obligations.RowsTouchOnlyTheirParts := by
  intro c s t h
  have frame := exec_frame h
  have untouched : Part.pending ∉ touchedBy c := by cases c <;> simp [touchedBy]
  exact ⟨frame, (frame.same .pending untouched).symm⟩

end Sys2Proof.Machine
end

section
/-! Invariants of every step: what is enough. `Kept P` lists the elementary changes that every row of the part is made of, each
with what the invariants may assume of it; a predicate that they all keep is kept by every step. `Unqueued P` lists fewer, for
a predicate that reads neither the outbound queue nor the vector shadows. -/

namespace Sys2Proof.Machine

/-! ## What the invariants read -/

/-- What the invariants read of the part, the outbound queue and the Notice Unit apart. -/
structure Vitals where
  bays : Vector Bay 12
  pairs : Vector PairConfig 6
  nextSession : Word
  limit : Nat
  period : Nat
  latched : Option Latched
  staged : Option Plan
  timed : Bool
  ba : BatteryAccount
  sw : SnapshotWriter
  geometry : ReceiptGeometry
  reserved : Nat
  uncollected : Nat
  lastIssued : Nat
  lastCollected : Nat
  link : LinkState
  step : CuStep
  el : ErrorLog
  found : Preloaded

def State.vitals (s : State) : Vitals where
  bays := s.bays
  pairs := s.pairs
  nextSession := s.nextSession
  limit := s.al.limit
  period := s.al.period
  latched := s.al.latched
  staged := s.al.staged
  timed := s.al.boundaryTimer.isSome
  ba := s.ba
  sw := s.sw
  geometry := s.rw.geometry
  reserved := s.rw.reserved
  uncollected := s.rw.uncollected
  lastIssued := s.rw.lastIssued
  lastCollected := s.rw.lastCollected
  link := s.pu.link
  step := s.cu.step
  el := s.el
  found := s.sp.found

/-- A bay held safe: no session open, the drive open, no allowance (R23). -/
def Bay.heldSafe (x : Bay) : Prop := x.state.isOpen = false ∧ x.drive = false ∧ x.allowance = 0

/-- A turn of a bay that opens and closes no session, neither enters nor leaves ISSUING, and starts no charging. -/
structure BayTurn (x y : Bay) : Prop where
  sound : x.sound → y.sound
  safe : x.heldSafe → y.heldSafe
  config : y.config = x.config
  counts : y.state.countsPulses = x.state.countsPulses
  issuing : y.state = .issuing ↔ x.state = .issuing
  session : y.state.isOpen = true → y.session.number = x.session.number ∧ y.session.cls = x.session.cls
  charging : y.state = .charging → x.state = .charging ∧ y.allowance = x.allowance

/-- Such a turn that leaves the report of the receipt as it is. -/
structure BayStep (x y : Bay) : Prop extends BayTurn x y where
  finished : y.receiptFinished = x.receiptFinished

theorem BayStep.refl (x : Bay) : BayStep x x :=
  ⟨⟨id, id, rfl, rfl, Iff.rfl, fun _ => ⟨rfl, rfl⟩, fun h => ⟨h, rfl⟩⟩, rfl⟩

/-- A session is open while it counts pulses and while its receipt is being issued. -/
theorem isOpen_iff (k : BayState) : k.isOpen = true ↔ k.countsPulses = true ∨ k = .issuing := by
  cases k <;> simp [BayState.isOpen, BayState.countsPulses]

theorem BayTurn.isOpen {x y : Bay} (h : BayTurn x y) : y.state.isOpen = true ↔ x.state.isOpen = true := by
  rw [isOpen_iff, isOpen_iff, h.counts, h.issuing]

theorem BayStep.trans {x y z : Bay} (h : BayStep x y) (g : BayStep y z) : BayStep x z where
  sound := g.sound ∘ h.sound
  safe := g.safe ∘ h.safe
  config := g.config.trans h.config
  counts := g.counts.trans h.counts
  issuing := g.issuing.trans h.issuing
  session k := ⟨(g.session k).1.trans (h.session (g.isOpen.mp k)).1, (g.session k).2.trans (h.session (g.isOpen.mp k)).2⟩
  charging k := ⟨(h.charging (g.charging k).1).1, (g.charging k).2.trans (h.charging (g.charging k).1).2⟩
  finished := g.finished.trans h.finished

/-- A change of a bay that leaves its state, outputs, configuration, session number, class and tallies, and the report of its
receipt. -/
theorem BayStep.of_same {x y : Bay} (state : y.state = x.state) (drive : y.drive = x.drive) (allowance : y.allowance = x.allowance)
    (config : y.config = x.config) (number : y.session.number = x.session.number) (cls : y.session.cls = x.session.cls)
    (tallies : y.session.tallies = x.session.tallies) (finished : y.receiptFinished = x.receiptFinished) : BayStep x y where
  sound := by unfold Bay.sound; rw [state, drive, allowance, tallies]; exact id
  safe := by unfold Bay.heldSafe; rw [state, drive, allowance]; exact id
  config := config
  counts := by rw [state]
  issuing := by rw [state]
  session _ := ⟨number, cls⟩
  charging h := ⟨state ▸ h, allowance⟩
  finished := finished

/-! ## The elementary changes -/

/-- The Command Unit is at work. -/
def State.busy (s : State) : Prop := s.cu.step ≠ .idle

/-- A boundary is under way: STARTING has ended, or a boundary is timed. -/
def State.running (s : State) : Prop := s.pu.link = .starting → s.al.boundaryTimer.isSome = true

/-- AUTHORISE past its checks, the causes it fires apart: the slot reserved, the number given, the bay opened (R30, R120). -/
def State.openSession (s : State) (b : Fin 12) (n : Session) : State :=
  { s with
    rw := { s.rw with reserved := s.rw.reserved + 1 }
    nextSession := sessionAfter s.nextSession
    bays := s.bays.set b ((s.bay b).open n) }

/-- A bay after it has left ISSUING (R48). -/
def Bay.exit (x : Bay) : Bay :=
  { x with state := x.afterIssuing, weldMark := false, receiptFinished := false, closedReports := x.closedReports + 1 }

/-- The elementary changes beside those of the queue and the shadows, each with what may be assumed where it comes about. -/
structure KeptApart (P : State → Prop) : Prop where
  battery : ∀ {s : State} {n : BatteryAccount}, (s.ba.sound → n.sound) → P s → P { s with ba := n }
  log : ∀ {s : State} {el : ErrorLog}, (s.el.sound → el.sound) → P s → P { s with el := el }
  issuing : ∀ {s : State} {b : Fin 12}, (s.bay b).readyToIssue = true → P s → P (s.enterIssuing b)
  opens : ∀ {s : State} {b : Fin 12} {c : SessionClass} {quota : Nat} {reference : BitVec 128}, s.busy →
    s.authoriseRefusal b = none → P s → P (s.openSession b (s.newSession c quota reference))
  exits : ∀ {s : State} {b : Fin 12}, (s.bay b).exitDue = true → P s → P (s.onBay b Bay.exit)
  latches : ∀ {s : State}, s.running → P s → P { s with al := { s.al with latched := some s.readInputs } }
  stages : ∀ {s : State} {l : Latched} (x : Nat) (round : Word), s.al.latched = some l → P s →
    P { s with al := { s.al with staged := some (l.plan x round) } }
  applies : ∀ {s : State} (p : Plan), s.running → P s → P (s.applyPlan p)
  receipts : ∀ {s : State} {g : ReceiptGeometry}, s.rw.reserved = 0 → s.rw.uncollected = 0 →
    windowsMeet g s.sw = false → P s → P { s with rw := s.rw.takeGeometry g }
  collects : ∀ {s : State} {q : Nat}, s.rw.lastCollected ≤ q → q ≤ s.rw.lastIssued → P s →
    P { s with rw := { s.rw with lastCollected := q, uncollected := s.rw.lastIssued - q } }
  site : ∀ {s : State} {limit period : Nat}, siteInRanges limit period = true → P s →
    P { s with al := { s.al with limit := limit, period := period } }
  bayConfig : ∀ {s : State} {b : Fin 12} {c : BayConfig} {cap pairWord : Word}, s.setBayBad b c cap pairWord = false →
    s.setBayOpen b pairWord = false → P s →
    P ((s.onBay b fun x => { x with config := c }).setPair (pairOf b) (s.pairAfter b cap pairWord))
  finds : ∀ {s : State} (ok : Bool) (bytes : List Byte), P s → P { s with sp := { s.sp with found := preloaded ok bytes } }
  links : ∀ {s : State} {l : LinkState}, l ≠ .starting → P s → P { s with pu := { s.pu with link := l } }

/-- The elementary changes of the part (see above), and with them those of the queue and the shadows. -/
structure Kept (P : State → Prop) : Prop extends KeptApart P where
  quiet : ∀ {s t : State}, P s → t.vitals = s.vitals → t.nu = s.nu → t.pu.queue = s.pu.queue → P t
  bays : ∀ {s : State} {v : Vector Bay 12}, (∀ b : Fin 12, BayStep (s.bay b) v[b]) → P s → P { s with bays := v }
  fire : ∀ {s : State} (c : Cause), P s → P (s.fire c)
  watched : ∀ {s : State} (addr : Nat) (words : List WriteWord), P s → P (s.takeWatched addr words)
  windows : ∀ {s : State}, P s → P s.windowsChanged
  maps : ∀ {s : State} (m : Vector (Fin 8) 8), P s → P { s with nu := { s.nu with causeMap := m } }
  snapshot : ∀ {s : State} {base : Nat} (i : Fin 13) (bytes : List Byte), s.sw.base = some base → P s →
    P (s.queueRecord i (base + i.val * s.sw.stride) bytes)
  newWindow : ∀ {s : State} {w : SnapshotWriter}, s.busy → windowsMeet s.rw.geometry w = false → P s →
    P { s.removeEntries EntryKind.isSnapshot with sw := w }
  image : ∀ {s : State}, s.pu.link = .starting → P s → P (s.takeImage s.sp.found)
  clears : ∀ {s : State}, P s → P s.clearedByCrst
  steps : ∀ {s : State} {step : CuStep}, (s.pu.link = .starting → s.busy) → (∀ position, s.cu.step ≠ .replying position) →
    (∀ position, step ≠ .replying position) → P s → P { s with cu := { s.cu with step := step } }
  replies : ∀ {s : State} (position : BitVec 4) (tag : BitVec 16) (r : Reply), s.busy →
    (∀ position, s.cu.step ≠ .replying position) → P s → P (s.queueReply position tag r)
  begins : ∀ {s : State} {e : Entry} {rest : List Entry}, s.pu.queue = e :: rest → P s →
    P ({ s with pu := { s.pu with queue := { e with begun := true } :: rest } }.beginEntry e)
  done : ∀ {s : State} {e : Entry} {rest : List Entry} (ok : Bool), s.pu.queue = e :: rest → P s → P (s.attemptDone e rest ok)

/-- The elementary changes for a predicate that reads neither the queue nor the shadows. -/
structure Unqueued (P : State → Prop) : Prop extends KeptApart P where
  same : ∀ {s t : State}, P s → t.vitals = s.vitals → P t
  turns : ∀ {s : State} {v : Vector Bay 12}, (∀ b : Fin 12, BayTurn (s.bay b) v[b]) → P s → P { s with bays := v }
  window : ∀ {s : State} {w : SnapshotWriter}, s.busy → windowsMeet s.rw.geometry w = false → P s → P { s with sw := w }
  images : ∀ {s : State}, s.pu.link = .starting → P s → P { s with
    bays := Vector.ofFn fun b : Fin 12 => (s.bay b).start s.sp.found.image.bays[b]
    pairs := s.sp.found.image.pairs
    al := { s.al with limit := s.sp.found.image.limit, period := s.sp.found.image.period }
    sw := s.sp.found.image.snapshot
    rw := { s.rw with geometry := s.sp.found.image.receipt }
    el := s.el.start s.sp.found.image.masked s.sp.found.image.holds
    pu := { s.pu with link := .detached } }
  resets : ∀ {s : State}, P s → P { s with pu := { s.pu with link := s.pu.link.afterCrst }, cu := {} }
  moves : ∀ {s : State} {step : CuStep}, (s.pu.link = .starting → s.busy ∨ step = .idle) → P s →
    P { s with cu := { s.cu with step := step } }

/-- A predicate that each step of a fold keeps is kept by the fold. -/
theorem keeps_foldl {α : Type} {P : State → Prop} {f : State → α → State} (h : ∀ s a, P s → P (f s a)) (xs : List α) {s : State}
    (hs : P s) : P (xs.foldl f s) :=
  List.foldlRecOn (motive := P) _ _ hs fun t ht a _ => h t a ht

/-! ## What leaves the vitals alone -/

theorem vitals_of_frame {s t : State}
    (frame : State.changesOnly [.pending, .clock, .channels, .meterConfig, .pu, .nu, .free] s t)
    (link : t.pu.link = s.pu.link) : t.vitals = s.vitals := by
  have bays : s.bays = t.bays := frame.same .bays (by decide)
  have pairs : s.pairs = t.pairs := frame.same .pairs (by decide)
  have nextSession : s.nextSession = t.nextSession := frame.same .nextSession (by decide)
  have al : s.al = t.al := frame.same .al (by decide)
  have ba : s.ba = t.ba := frame.same .ba (by decide)
  have sw : s.sw = t.sw := frame.same .sw (by decide)
  have rw' : s.rw = t.rw := frame.same .rw (by decide)
  have cu : s.cu = t.cu := frame.same .cu (by decide)
  have el : s.el = t.el := frame.same .el (by decide)
  have sp : s.sp = t.sp := frame.same .sp (by decide)
  simp only [State.vitals, ← bays, ← pairs, ← nextSession, ← al, ← ba, ← sw, ← rw', ← cu, ← el, ← sp, link]

@[simp] theorem link_proceed (s : State) (a : Access) : (s.proceed a).pu.link = s.pu.link := by
  unfold State.proceed
  repeat' split
  all_goals rfl

@[simp] theorem link_judgeHit (s : State) (a : Access) : (s.judgeHit a).pu.link = s.pu.link := by
  unfold State.judgeHit
  split
  · exact link_proceed ..
  · rfl

@[simp] theorem link_holdUpTo (s : State) (a : Access) (n : Nat) : (s.holdUpTo a n).pu.link = s.pu.link := by
  unfold State.holdUpTo
  split
  · exact link_judgeHit ..
  · rfl

@[simp] theorem link_popHead (s : State) : s.popHead.pu.link = s.pu.link := by
  unfold State.popHead
  dsimp only
  split
  · exact link_holdUpTo ..
  all_goals rfl

@[simp] theorem link_removeEntries (s : State) (d : EntryKind → Bool) : (s.removeEntries d).pu.link = s.pu.link := by
  unfold State.removeEntries
  dsimp only
  split
  · exact link_holdUpTo ..
  all_goals rfl

@[simp] theorem queue_proceed (s : State) (a : Access) : (s.proceed a).pu.queue = s.pu.queue := by
  unfold State.proceed
  repeat' split
  all_goals rfl

@[simp] theorem queue_judgeHit (s : State) (a : Access) : (s.judgeHit a).pu.queue = s.pu.queue := by
  unfold State.judgeHit
  split
  · exact queue_proceed ..
  · rfl

@[simp] theorem queue_holdUpTo (s : State) (a : Access) (n : Nat) : (s.holdUpTo a n).pu.queue = s.pu.queue := by
  unfold State.holdUpTo
  split
  · exact queue_judgeHit ..
  · rfl

@[simp] theorem queue_popHead (s : State) : s.popHead.pu.queue = s.pu.queue.tail := by
  unfold State.popHead
  dsimp only
  split
  · exact queue_holdUpTo ..
  all_goals rfl

@[simp] theorem queue_removeEntries (s : State) (d : EntryKind → Bool) :
    (s.removeEntries d).pu.queue = s.pu.queue.filter fun e => e.begun || !d e.kind := by
  unfold State.removeEntries
  dsimp only
  split
  · exact queue_holdUpTo ..
  all_goals rfl

@[simp] theorem link_releaseVector (s : State) (v : Fin 8) : (s.releaseVector v).pu.link = s.pu.link := by
  unfold State.releaseVector
  dsimp only
  repeat' split
  all_goals rfl

@[simp] theorem link_releaseVectors (s : State) : s.releaseVectors.pu.link = s.pu.link := by
  unfold State.releaseVectors
  exact keeps_foldl (P := fun t : State => t.pu.link = s.pu.link) (f := State.releaseVector) (s := s)
    (fun t v h => (link_releaseVector t v).trans h) (List.finRange 8) rfl

@[simp] theorem vitals_fire (s : State) (c : Cause) : (s.fire c).vitals = s.vitals :=
  vitals_of_frame (changesOnly_mono (fire_frame s c) rfl) (link_fire s c)

@[simp] theorem vitals_judgeHit (s : State) (a : Access) : (s.judgeHit a).vitals = s.vitals :=
  vitals_of_frame (changesOnly_mono (judgeHit_frame s a) rfl) (link_judgeHit s a)

@[simp] theorem vitals_popHead (s : State) : s.popHead.vitals = s.vitals :=
  vitals_of_frame (changesOnly_mono (popHead_frame s) rfl) (link_popHead s)

@[simp] theorem vitals_removeEntries (s : State) (d : EntryKind → Bool) : (s.removeEntries d).vitals = s.vitals :=
  vitals_of_frame (changesOnly_mono (removeEntries_frame s d) rfl) (link_removeEntries s d)

@[simp] theorem vitals_releaseVectors (s : State) : s.releaseVectors.vitals = s.vitals :=
  vitals_of_frame (changesOnly_mono (releaseVectors_frame s) rfl) (link_releaseVectors s)

/-- A change of the Notice Unit alone. -/
theorem vitals_of_nu_frame {s t : State} (frame : State.changesOnly [.nu] s t) : t.vitals = s.vitals :=
  vitals_of_frame (changesOnly_mono frame rfl)
    (congrArg PathUnit.link (frame.same .pu (by decide) : s.pu = t.pu).symm)

/-! ## A recording -/

theorem mustHold_false_iff (el : ErrorLog) : el.mustHold = false ↔ ∀ k, ¬ el.holdReason k := by
  rw [← Bool.not_eq_true, ErrorLog.mustHold_iff, not_exists]

/-- Of two kinds, the bit of one holds the other only when they are the same. -/
theorem inKindSet_bit_eq (k j : ErrorKind) : inKindSet k.bit j = true ↔ j = k := by
  cases k <;> cases j <;> decide

theorem records_append (el : ErrorLog) (r : ErrorRecord) (h : el.records.length ≤ 4) : (el.append r).records.length ≤ 4 := by
  unfold ErrorLog.append
  split
  · simp; omega
  · exact h

/-- The Error Log stays sound when it takes a recording (R171). -/
theorem ErrorLog.sound.take {el : ErrorLog} (h : el.sound) (r : ErrorRecord) : (el.take r).sound := by
  obtain ⟨room, pointer, holds, unmasked, severe⟩ := h
  refine ⟨?_, ?_, fun must => ?_, by rw [masked_take]; exact unmasked, by rw [holds_take]; exact severe⟩
  · unfold ErrorLog.take
    dsimp only
    split
    · exact room
    · exact records_append _ r room
  · intro k hk
    rw [status_take, inKindSet_or]
    unfold ErrorLog.take at hk
    dsimp only at hk
    split at hk
    · rw [pointer k hk, Bool.true_or]
    · obtain ⟨_, _, listed⟩ := append_eq { el with status := el.status ||| r.recording.kind.bit } r
      rw [listed] at hk
      dsimp only at hk
      rcases Option.or_eq_some_iff.mp hk with before | ⟨-, now⟩
      · rw [pointer k before, Bool.true_or]
      · cases now
        simp
  · obtain ⟨k, status, notMasked, hold⟩ := (ErrorLog.mustHold_iff _).mp must
    rw [status_take, inKindSet_or, Bool.or_eq_true] at status
    rw [masked_take] at notMasked
    rw [holds_take] at hold
    rcases status with before | now
    · have held : el.hold = true := holds ((ErrorLog.mustHold_iff _).mpr ⟨k, before, notMasked, hold⟩)
      unfold ErrorLog.take
      dsimp only
      split
      · exact held
      · obtain ⟨_, _, listed⟩ := append_eq { el with status := el.status ||| r.recording.kind.bit } r
        rw [listed]
        dsimp only
        rw [held, Bool.true_or]
    · obtain rfl := (inKindSet_bit_eq _ _).mp now
      exact hold_take notMasked hold

/-- A recording is a change of the log and then causes. -/
theorem record_cases (s : State) (r : Recording) :
    let t := { s with el := s.el.take { recording := r, time := s.clock.siteTime, round := s.al.round } }
    s.record r = t ∨ s.record r = t.fire .errorRecorded ∨ s.record r = (t.fire .errorRecorded).fire .holdChanged := by
  unfold State.record
  dsimp only
  split
  · exact .inl rfl
  · split
    · exact .inr (.inr rfl)
    · exact .inr (.inl rfl)

/-- A predicate kept by changes of the log and by causes is kept by a recording. -/
theorem keeps_record {P : State → Prop}
    (log : ∀ {s : State} {el : ErrorLog}, (s.el.sound → el.sound) → P s → P { s with el := el })
    (fire : ∀ {s : State} (c : Cause), P s → P (s.fire c)) {s : State} (r : Recording) (h : P s) : P (s.record r) := by
  have taken := log (s := s) (el := s.el.take ⟨r, s.clock.siteTime, s.al.round⟩) (fun g => g.take _) h
  rcases record_cases s r with e | e | e
  · rw [e]; exact taken
  · rw [e]; exact fire _ taken
  · rw [e]; exact fire _ (fire _ taken)

/-- A predicate that recordings keep, and changes of the Notice Unit and what these queue, is kept where the windows change. -/
theorem keeps_windowsChanged {P : State → Prop} (judge : ∀ s : State, P s → P s.judgeUsable)
    (record : ∀ (s : State) (r : Recording), P s → P (s.record r)) (release : ∀ s : State, P s → P s.releaseVectors)
    {s : State} (h : P s) : P s.windowsChanged := by
  unfold State.windowsChanged
  refine release _ (keeps_foldl (fun t v ht => ?_) _ (judge s h))
  split
  · exact record _ _ ht
  · exact ht

/-- The same for WATCHED words. -/
theorem keeps_takeWatched {P : State → Prop} (words : ∀ (s : State) (a : Nat) (w : List WriteWord), P s → P (s.takeWords a w))
    (record : ∀ (s : State) (r : Recording), P s → P (s.record r)) (drop : ∀ s : State, P s → P s.dropPending)
    (release : ∀ s : State, P s → P s.releaseVectors) {s : State} (a : Nat) (w : List WriteWord) (h : P s) :
    P (s.takeWatched a w) := by
  unfold State.takeWatched
  refine release _ (drop _ (keeps_foldl (fun t v ht => ?_) _ (words s a w h)))
  unfold State.reportVector
  split
  · exact ht
  · exact record _ _ ht

/-! ## From the fewer changes to all -/

namespace Unqueued

variable {P : State → Prop} (U : Unqueued P)
include U

theorem fire {s : State} (c : Cause) (h : P s) : P (s.fire c) := U.same h (vitals_fire s c)

theorem record {s : State} (r : Recording) (h : P s) : P (s.record r) := keeps_record (P := P) U.log U.fire r h

theorem releaseVectors {s : State} (h : P s) : P s.releaseVectors := U.same h (vitals_releaseVectors s)

theorem windowsChanged {s : State} (h : P s) : P s.windowsChanged :=
  keeps_windowsChanged (P := P) (fun s hs => U.same hs (vitals_of_nu_frame (judgeUsable_frame s)))
    (fun _ r => U.record r) (fun _ => U.releaseVectors) h

theorem takeWatched {s : State} (a : Nat) (w : List WriteWord) (h : P s) : P (s.takeWatched a w) :=
  keeps_takeWatched (P := P) (fun s a w hs => U.same hs (vitals_of_nu_frame (takeWords_frame s a w))) (fun _ r => U.record r)
    (fun s hs => U.same hs (vitals_of_nu_frame (dropPending_frame s))) (fun _ => U.releaseVectors) a w h

/-- A bay takes a turn. -/
theorem turn {s : State} {b : Fin 12} {y : Bay} (step : BayTurn (s.bay b) y) (h : P s) : P (s.setBay b y) := by
  refine U.turns (v := s.bays.set b y) (fun c => ?_) h
  by_cases e : c = b
  · subst e
    simpa using step
  · have other : b.val ≠ c.val := fun e' => e (Fin.ext e'.symm)
    rw [Fin.getElem_fin, Vector.getElem_set_ne _ _ other]
    exact (BayStep.refl _).toBayTurn

theorem tryFetch {s : State} (h : P s) : P s.tryFetch := by
  unfold State.tryFetch
  split
  case isTrue attached =>
    obtain ⟨link, -, -⟩ := attached
    have stepped := U.moves (step := .fetching s.cu.taken []) (fun starting => by rw [link] at starting; cases starting) h
    exact U.same stepped rfl
  case isFalse => exact h

theorem receiptComplete {s : State} (b : Fin 12) (n : Nat) (check : Word) (abandoned : Bool) (h : P s) :
    P (s.receiptComplete b n check abandoned) := by
  have finished (t : State) (ht : P t) : P ((t.onBay b fun x => { x with receiptFinished := true }).fire .receiptIssued) :=
    U.fire _ (U.turn ⟨id, id, rfl, rfl, Iff.rfl, fun _ => ⟨rfl, rfl⟩, fun h => ⟨h, rfl⟩⟩ ht)
  unfold State.receiptComplete
  dsimp only
  split
  · exact finished _ (U.same h rfl)
  · exact finished _ h

theorem replyComplete {s : State} (orphan : Bool) (h : P s) : P (s.replyComplete orphan) := by
  have advanced (t : State) (ht : P t) : P { t with cu := { t.cu with step := .idle } }.tryFetch :=
    U.tryFetch (U.moves (fun _ => .inr rfl) ht)
  unfold State.replyComplete
  dsimp only
  split
  · exact h
  · exact advanced _ (U.fire .replyReady (U.same h rfl))

theorem reportEntry {s : State} (k : EntryKind) (abandoned : Bool) (h : P s) : P (s.reportEntry k abandoned) := by
  unfold State.reportEntry
  split
  · exact U.receiptComplete _ _ _ _ h
  · exact U.replyComplete _ h
  all_goals exact h

theorem attemptDone {s : State} (e : Entry) (rest : List Entry) (ok : Bool) (h : P s) : P (s.attemptDone e rest ok) := by
  have popped : P s.popHead := U.same h (vitals_popHead s)
  unfold State.attemptDone
  repeat' split
  · exact U.reportEntry _ _ popped
  · exact U.same h rfl
  · exact U.reportEntry _ _ (U.record _ popped)

theorem queueRecord {s : State} (i : Fin 13) (target : Nat) (bytes : List Byte) (h : P s) : P (s.queueRecord i target bytes) := by
  unfold State.queueRecord
  split
  · exact U.same h rfl
  · exact U.same h rfl

theorem newWindow {s : State} {w : SnapshotWriter} (busy : s.busy) (apart : windowsMeet s.rw.geometry w = false) (h : P s) :
    P { s.removeEntries EntryKind.isSnapshot with sw := w } :=
  U.same (U.window busy apart h) (congrArg (fun v : Vitals => { v with sw := w }) (vitals_removeEntries s EntryKind.isSnapshot))

theorem takeImage {s : State} (starting : s.pu.link = .starting) (h : P s) : P (s.takeImage s.sp.found) := by
  unfold State.takeImage
  exact U.releaseVectors (U.same (U.images starting h) rfl)

theorem clearedByCrst {s : State} (h : P s) : P s.clearedByCrst := by
  have removed := vitals_removeEntries { s with pu := s.pu.afterCrst, cu := {}, sp := s.sp.discard } EntryKind.isMessage
  have left := U.same (U.resets h) removed
  unfold State.clearedByCrst
  exact U.same left rfl

theorem beginEntry {s : State} (e : Entry) (h : P s) : P (s.beginEntry e) :=
  U.same h (vitals_of_nu_frame (beginEntry_frame s e))

theorem queueReply {s : State} (position : BitVec 4) (tag : BitVec 16) (r : Reply) (busy : s.busy) (h : P s) :
    P (s.queueReply position tag r) :=
  U.moves (s := s.enqueue { kind := .reply false, addr := slotAddr position + 48, bytes := replyBytes tag r })
    (fun _ => .inl busy) (U.same h rfl)

/-- The other elementary changes come down to these. -/
theorem kept : Kept P where
  toKeptApart := U.toKeptApart
  quiet h same _ _ := U.same h same
  bays step := U.turns fun b => (step b).toBayTurn
  fire := U.fire
  watched := U.takeWatched
  windows := U.windowsChanged
  maps _ h := U.same h rfl
  snapshot i bytes _ := U.queueRecord i _ bytes
  newWindow := U.newWindow
  image := U.takeImage
  clears := U.clearedByCrst
  steps guard _ _ := U.moves fun starting => .inl (guard starting)
  replies position tag r busy _ := U.queueReply position tag r busy
  begins _ h := U.beginEntry _ (U.same h rfl)
  done ok _ := U.attemptDone _ _ ok

end Unqueued

end Sys2Proof.Machine
end

section
/-! Invariants of every step: the operations. Each operation of the part is made of the elementary changes, so a predicate that
these keep is kept by it. -/

namespace Sys2Proof.Machine

/-! ## Turns of a bay -/

theorem setBay_setBay (s : State) (b : Fin 12) (x y : Bay) : (s.setBay b x).setBay b y = s.setBay b y := by
  simp [State.setBay]

theorem setBay_self (s : State) (b : Fin 12) : s.setBay b (s.bay b) = s := by
  have same : s.bays.set b (s.bay b) = s.bays := by
    ext i hi
    by_cases e : b.val = i
    · subst e; simp [State.bay]
    · rw [Vector.getElem_set_ne _ _ e]
  simp [State.setBay, same]

theorem watch_step (r : Bool) (x : Bay) : BayStep x (x.watch r) := by
  obtain ⟨timer, found, h⟩ := watch_eq r x
  rw [h]
  exact .of_same rfl rfl rfl rfl rfl rfl rfl rfl

/-- The tallies of a session add up (R107). -/
def Tallies.sound (t : Tallies) : Prop :=
  t.solar + t.battery + t.grid = t.total ∧ t.total ≤ wordMax ∧ t.overQuota ≤ t.total

theorem Bay.sound_iff (x : Bay) : x.sound ↔ (0 < x.allowance ↔ x.state = .charging) ∧
    (x.drive = true → x.state = .paused ∨ x.state = .charging ∨ x.state = .releasePending ∨ x.state = .stopping) ∧
    (x.state = .paused ∨ x.state = .charging → x.drive = true) ∧ x.session.tallies.sound := Iff.rfl

/-- The update by which a bay enters STOPPING (R45). -/
def Bay.stop (x : Bay) (cause : StopCause) : Bay :=
  { x with
    state := .stopping, allowance := 0, idleTimer := none, releaseTimer := none
    stopDelayTimer := if x.drive then some (1000 * x.config.stopDelay) else none
    session := { x.session with stopCause := some cause } }

/-- A bay whose session counts pulses moves among the states before ISSUING, its allowance gone. -/
theorem BayStep.of_counting {x y : Bay} (before : x.state.countsPulses = true) (after : y.state.countsPulses = true)
    (notCharging : y.state ≠ .charging) (allowance : y.allowance = 0)
    (drive : y.drive = true → y.state = .paused ∨ y.state = .releasePending ∨ y.state = .stopping)
    (paused : y.state = .paused → y.drive = true) (config : y.config = x.config)
    (number : y.session.number = x.session.number) (cls : y.session.cls = x.session.cls)
    (tallies : y.session.tallies = x.session.tallies) (finished : y.receiptFinished = x.receiptFinished) : BayStep x y where
  sound h := by
    rw [Bay.sound_iff] at h ⊢
    obtain ⟨-, -, -, h⟩ := h
    refine ⟨?_, fun d => ?_, fun p => ?_, tallies ▸ h⟩
    · simp [allowance, notCharging]
    · rcases drive d with e | e | e <;> simp [e]
    · exact paused (p.resolve_right notCharging)
  safe h := by
    have isOpen := (isOpen_iff _).mpr (.inl before)
    rw [h.1] at isOpen
    cases isOpen
  config := config
  counts := after.trans before.symm
  issuing := by
    constructor
    · intro e; rw [e] at after; cases after
    · intro e; rw [e] at before; cases before
  session _ := ⟨number, cls⟩
  charging h := absurd h notCharging
  finished := finished

/-- A bay with no session open moves to another state of that kind. -/
theorem BayStep.of_closed {x : Bay} {k : BayState} (before : x.state.isOpen = false) (after : k.isOpen = false) :
    BayStep x { x with state := k } := by
  have counts (j : BayState) (h : j.isOpen = false) : j.countsPulses = false ∧ j ≠ .issuing ∧ j ≠ .charging ∧ j ≠ .paused ∧
      j ≠ .releasePending ∧ j ≠ .stopping := by
    cases j <;> simp_all [BayState.isOpen, BayState.countsPulses]
  obtain ⟨xCounts, xIssuing, xCharging, xPaused, xReleasing, xStopping⟩ := counts _ before
  obtain ⟨kCounts, kIssuing, kCharging, kPaused, -, -⟩ := counts _ after
  refine ⟨⟨fun h => ?_, fun h => ⟨after, h.2⟩, rfl, kCounts.trans xCounts.symm, by simp [kIssuing, xIssuing], fun h => ?_,
    fun h => absurd h kCharging⟩, rfl⟩
  · rw [Bay.sound_iff] at h ⊢
    obtain ⟨allowance, drive, -, tallies⟩ := h
    refine ⟨?_, fun d => ?_, fun p => ?_, tallies⟩
    · simpa [xCharging, kCharging] using allowance
    · rcases drive d with e | e | e | e
      · exact absurd e xPaused
      · exact absurd e xCharging
      · exact absurd e xReleasing
      · exact absurd e xStopping
    · rcases p with e | e
      · exact absurd e kPaused
      · exact absurd e kCharging
  · rw [show ({ x with state := k } : Bay).state.isOpen = k.isOpen from rfl, after] at h
    cases h

/-- A bay that is active counts pulses, and is not STOPPING. -/
theorem counts_of_active {k : BayState} (h : k.isActive = true) : k.countsPulses = true := by
  cases k <;> simp_all [BayState.isActive, BayState.countsPulses]

/-- An active bay enters STOPPING, its drive as some event has left it. -/
theorem stop_step {x z : Bay} (active : x.state.isActive = true) (config : z.config = x.config)
    (number : z.session.number = x.session.number) (cls : z.session.cls = x.session.cls)
    (tallies : z.session.tallies = x.session.tallies) (finished : z.receiptFinished = x.receiptFinished) (cause : StopCause) :
    BayStep x (z.stop cause) :=
  .of_counting (counts_of_active active) rfl nofun rfl (fun _ => .inr (.inr rfl)) nofun config number cls tallies finished

theorem toPaused_step {x : Bay} (h : x.state.countsPulses = true) : BayStep x x.toPaused :=
  .of_counting h rfl nofun rfl (fun _ => .inl rfl) (fun _ => rfl) rfl rfl rfl rfl rfl

theorem toAuthorised_step {x : Bay} (h : x.state.countsPulses = true) : BayStep x x.toAuthorised :=
  .of_counting h rfl nofun rfl nofun nofun rfl rfl rfl rfl rfl

/-- The update by which a press enters RELEASE_PENDING (R38). -/
def Bay.toReleasePending (x : Bay) : Bay :=
  { x with state := .releasePending, allowance := 0, idleTimer := none, releaseTimer := some (1000 * x.config.releaseWindow) }

theorem toReleasePending_step {x : Bay} (h : x.state.countsPulses = true) : BayStep x x.toReleasePending :=
  .of_counting h rfl nofun rfl (fun _ => .inr (.inl rfl)) nofun rfl rfl rfl rfl rfl

/-- A RELEASE_PENDING or STOPPING bay opens its drive. -/
theorem openDrive_step {x y : Bay} (h : x.state = .releasePending ∨ x.state = .stopping) (drive : y.drive = false)
    (state : y.state = x.state) (allowance : y.allowance = x.allowance) (config : y.config = x.config)
    (number : y.session.number = x.session.number) (cls : y.session.cls = x.session.cls)
    (tallies : y.session.tallies = x.session.tallies) (finished : y.receiptFinished = x.receiptFinished) : BayStep x y where
  sound g := by
    rw [Bay.sound_iff] at g ⊢
    obtain ⟨charging, -, -, sums⟩ := g
    refine ⟨by rw [allowance, state]; exact charging, fun d => ?_, fun p => ?_, tallies ▸ sums⟩
    · rw [drive] at d; cases d
    · rw [state] at p
      rcases h with e | e <;> rcases p with q | q <;> rw [e] at q <;> cases q
  safe g := ⟨by rw [state]; exact g.1, drive, by rw [allowance]; exact g.2.2⟩
  config := config
  counts := by rw [state]
  issuing := by rw [state]
  session _ := ⟨number, cls⟩
  charging g := ⟨state ▸ g, allowance⟩
  finished := finished

/-! ## The Battery Account -/

/-- What stays of the account's soundness when at-reserve has not been judged yet. -/
def BatteryAccount.balanced (b : BatteryAccount) : Prop :=
  b.eb ≤ b.cap ∧ (b.state = .offline → b.setpoint = 0) ∧ (b.state ≠ .offline → b.state = batteryStateOf b.setpoint) ∧
  -(b.dmax : Int) ≤ b.setpoint ∧ b.setpoint ≤ b.cmax

theorem BatteryAccount.sound.balanced {b : BatteryAccount} (h : b.sound) : b.balanced := by
  obtain ⟨eb, -, offline, sign, low, high⟩ := h
  exact ⟨eb, offline, sign, low, high⟩

theorem BatteryAccount.balanced.judged {b : BatteryAccount} (h : b.balanced) : b.judged.sound := by
  obtain ⟨eb, offline, sign, low, high⟩ := h
  refine ⟨eb, ?_, offline, sign, low, high⟩
  simp [BatteryAccount.judged]

theorem BatteryAccount.bounded_within (b : BatteryAccount) (i : Int) :
    -(b.dmax : Int) ≤ b.bounded i ∧ b.bounded i ≤ b.cmax := by
  unfold BatteryAccount.bounded
  omega

theorem batteryStateOf_ne_offline (i : Int) : batteryStateOf i ≠ .offline := by
  unfold batteryStateOf
  split
  · nofun
  · split <;> nofun

/-- The account is balanced when it is driven, whatever the limits, unless it is OFFLINE with its setpoint left. -/
theorem BatteryAccount.balanced.drive {b : BatteryAccount} (eb : b.eb ≤ b.cap) (offline : b.state = .offline → b.setpoint = 0)
    (i : Int) : (b.drive i).balanced := by
  unfold BatteryAccount.drive
  split
  case isTrue off =>
    have zero := offline off
    refine ⟨eb, offline, fun h => absurd off h, ?_, ?_⟩ <;> omega
  case isFalse =>
    obtain ⟨low, high⟩ := b.bounded_within i
    exact ⟨eb, fun h => absurd h (batteryStateOf_ne_offline _), fun _ => rfl, low, high⟩

theorem BatteryAccount.balanced.rest {b : BatteryAccount} (eb : b.eb ≤ b.cap) : b.rest.balanced := by
  refine ⟨eb, fun _ => rfl, fun h => ?_, ?_, ?_⟩
  · unfold BatteryAccount.rest at h ⊢
    split
    case isTrue off => simp [off] at h
    case isFalse => rfl
  · simp [BatteryAccount.rest]
  · simp [BatteryAccount.rest]

theorem start_balanced (b : BatteryAccount) (i : Image) : (b.start i).balanced := by
  refine ⟨?_, fun _ => rfl, fun h => ?_, ?_, ?_⟩
  · unfold BatteryAccount.start
    dsimp only
    split
    · exact Nat.le.refl
    · split
      · exact Nat.zero_le _
      · exact Nat.min_le_left ..
  · unfold BatteryAccount.start at h ⊢
    dsimp only at h ⊢
    split
    · rfl
    case isFalse off => simp [off] at h
  · simp [BatteryAccount.start]
  · simp [BatteryAccount.start]

/-! ## AUTHORISE with its causes last -/

theorem fire_setBay (s : State) (c : Cause) (b : Fin 12) (x : Bay) : (s.fire c).setBay b x = (s.setBay b x).fire c := by
  unfold State.fire
  dsimp only
  rw [apply_ite (fun u : State => u.setBay b x), apply_ite (fun u : State => u.setBay b x),
    apply_ite (fun u : State => u.setBay b x)]
  rfl

/-- The state with another next session number. -/
def State.withNextSession (s : State) (n : Word) : State := { s with nextSession := n }

theorem fire_nextSession (s : State) (c : Cause) (n : Word) :
    (s.fire c).withNextSession n = (s.withNextSession n).fire c := by
  unfold State.fire
  dsimp only
  rw [apply_ite (State.withNextSession · n), apply_ite (State.withNextSession · n), apply_ite (State.withNextSession · n)]
  rfl

/-- A granted reservation disarms the low-water mark and fires RING_LOW, or does neither (R137). -/
theorem reserve_cases (s : State) :
    s.reserve = { s with rw := { s.rw with reserved := s.rw.reserved + 1 } } ∨
    s.reserve = { s with rw := { s.rw with reserved := s.rw.reserved + 1, armed := false } }.fire .ringLow := by
  unfold State.reserve State.judgeFall
  split
  · exact .inr rfl
  · exact .inl rfl

end Sys2Proof.Machine
end

section
/-! Invariants of every step: each operation keeps what the elementary changes keep. -/

namespace Sys2Proof.Machine

/-- The update by which a contactor fault opens the drive and marks the session (R50). -/
def Bay.withFault (x : Bay) : Bay := { x with drive := false, session := { x.session with fault := true } }

namespace Kept

variable {P : State → Prop} (K : Kept P)
include K

/-! ## Shared operations -/

theorem record {s : State} (r : Recording) (h : P s) : P (s.record r) := keeps_record (P := P) K.log K.fire r h

/-- A bay takes a step. -/
theorem setBay {s : State} {b : Fin 12} {y : Bay} (step : BayStep (s.bay b) y) (h : P s) : P (s.setBay b y) := by
  refine K.bays (v := s.bays.set b y) (fun c => ?_) h
  by_cases e : c = b
  · subst e
    simpa using step
  · have other : b.val ≠ c.val := fun e' => e (Fin.ext e'.symm)
    rw [Fin.getElem_fin, Vector.getElem_set_ne _ _ other]
    exact .refl _

theorem onChannel {s : State} (c : Fin 17) (f : Channel → Channel) (h : P s) : P (s.onChannel c f) := K.quiet h rfl rfl rfl

theorem raise {s : State} (b : Fin 12) (f : EventFlag) (h : P s) : P (s.raise b f) :=
  K.fire _ (K.setBay (.of_same rfl rfl rfl rfl rfl rfl rfl rfl) h)

theorem watchFeedback {s : State} (b : Fin 12) (h : P s) : P (s.watchFeedback b) := K.setBay (watch_step _ _) h

theorem judgeHit {s : State} (a : Access) (h : P s) : P (s.judgeHit a) :=
  K.quiet h (vitals_judgeHit s a) ((judgeHit_frame s a).same .nu (by decide)).symm (queue_judgeHit s a)

theorem memoryFault {s : State} (addr detail : Nat) (h : P s) : P (s.memoryFault addr detail) := K.record _ h

/-! ## Bays -/

theorem judgeIssuing {s : State} (b : Fin 12) (h : P s) : P (s.judgeIssuing b) := by
  unfold State.judgeIssuing
  split
  case isTrue ready => exact K.watchFeedback b (K.issuing ready h)
  case isFalse => exact K.watchFeedback b h

/-- A bay that has changed enters STOPPING. -/
theorem stops {s : State} {b : Fin 12} {z : Bay} {cause : StopCause} (step : BayStep (s.bay b) (z.stop cause)) (h : P s) :
    P ((s.setBay b z).enterStopping b cause) := by
  have entered : (s.setBay b z).enterStopping b cause = ((s.setBay b (z.stop cause)).raise b .stopped).judgeIssuing b := by
    unfold State.enterStopping
    simp only [onBay_eq, bay_setBay_self, setBay_setBay]
    rfl
  rw [entered]
  exact K.judgeIssuing b (K.raise b _ (K.setBay step h))

theorem enterStopping {s : State} {b : Fin 12} (cause : StopCause) (active : (s.bay b).state.isActive = true) (h : P s) :
    P (s.enterStopping b cause) := by
  have stopped := K.stops (stop_step (z := s.bay b) active rfl rfl rfl rfl rfl cause) h
  rwa [setBay_self] at stopped

theorem enterReleasePending {s : State} {b : Fin 12} (counts : (s.bay b).state.countsPulses = true) (h : P s) :
    P (s.enterReleasePending b) :=
  K.fire _ (K.raise b _ (K.setBay (toReleasePending_step counts) h))

theorem plugIn {s : State} (b : Fin 12) (h : P s) : P (s.plugIn b) := by
  have raised := K.raise b .plugIn h
  unfold State.plugIn
  dsimp only
  split
  case isTrue vacant => exact K.setBay (.of_closed (by simp [vacant, BayState.isOpen]) rfl) raised
  case isFalse => exact raised

theorem plugOut {s : State} (b : Fin 12) (h : P s) : P (s.plugOut b) := by
  have raised := K.raise b .plugOut h
  unfold State.plugOut
  dsimp only
  split
  case h_1 e => exact K.enterStopping _ (by simp [e, BayState.isActive]) raised
  case h_2 e => exact K.enterStopping _ (by simp [e, BayState.isActive]) raised
  case h_3 e => exact K.enterStopping _ (by simp [e, BayState.isActive]) raised
  case h_4 e => exact K.enterStopping _ (by simp [e, BayState.isActive]) raised
  case h_5 e => exact K.setBay (.of_closed (by simp [e, BayState.isOpen]) rfl) raised
  case h_6 e => exact K.setBay (.of_closed (by simp [e, BayState.isOpen]) rfl) raised
  all_goals exact raised

theorem readyHigh {s : State} (b : Fin 12) (h : P s) : P (s.readyHigh b) := by
  unfold State.readyHigh
  split
  case isTrue e => exact K.watchFeedback b (K.setBay (toPaused_step (by simp [e, BayState.countsPulses])) h)
  case isFalse => exact h

theorem readyLow {s : State} (b : Fin 12) (h : P s) : P (s.readyLow b) := by
  unfold State.readyLow
  split
  case h_1 e => exact K.watchFeedback b (K.setBay (toAuthorised_step (by simp [e, BayState.countsPulses])) h)
  case h_2 e => exact K.watchFeedback b (K.setBay (toAuthorised_step (by simp [e, BayState.countsPulses])) h)
  case h_3 e => exact K.watchFeedback b (K.setBay (openDrive_step (.inl e) rfl rfl rfl rfl rfl rfl rfl rfl) h)
  case h_4 e =>
    split
    · exact K.judgeIssuing b (K.setBay (openDrive_step (.inr e) rfl rfl rfl rfl rfl rfl rfl rfl) h)
    · exact h
  all_goals exact h

theorem press {s : State} (b : Fin 12) (h : P s) : P (s.press b) := by
  have deferred : P ((s.onBay b fun x => { x with deferredRelease := true }).raise b .releaseDeferred) :=
    K.raise b _ (K.setBay (.of_same rfl rfl rfl rfl rfl rfl rfl rfl) h)
  unfold State.press
  split
  case h_1 e =>
    split
    · exact K.enterReleasePending (by simp [e, BayState.countsPulses]) h
    · exact deferred
  case h_2 e =>
    split
    · exact K.enterReleasePending (by simp [e, BayState.countsPulses]) h
    · exact deferred
  case h_3 e =>
    split
    · exact K.enterReleasePending (by simp [e, BayState.countsPulses]) h
    · exact deferred
  case h_4 => exact h
  all_goals exact K.raise b _ h

theorem contactorFault {s : State} (b : Fin 12) (h : P s) : P (s.contactorFault b) := by
  have stopped (active : (s.bay b).state.isActive = true) : P ((s.setBay b (s.bay b).withFault).enterStopping b .contactorFault) :=
    K.stops (z := (s.bay b).withFault) (stop_step (z := (s.bay b).withFault) active rfl rfl rfl rfl rfl _) h
  unfold State.contactorFault
  dsimp only
  split
  case h_1 e => exact stopped (by simp [e, BayState.isActive])
  case h_2 e => exact stopped (by simp [e, BayState.isActive])
  case h_3 e => exact stopped (by simp [e, BayState.isActive])
  case h_4 e => exact stopped (by simp [e, BayState.isActive])
  case h_5 e => exact K.judgeIssuing b (K.setBay (openDrive_step (.inr e) rfl rfl rfl rfl rfl rfl rfl rfl) h)
  case h_6 => exact K.setBay (.of_same rfl rfl rfl rfl rfl rfl rfl rfl) h
  case h_7 e => exact K.watchFeedback b (K.setBay (.of_closed (by simp [e, BayState.isOpen]) rfl) h)
  case h_8 e => exact K.watchFeedback b (K.setBay (.of_closed (by simp [e, BayState.isOpen]) rfl) h)
  case h_9 e => exact K.watchFeedback b (K.setBay (.of_closed (by simp [e, BayState.isOpen]) rfl) h)
  case h_10 => exact h

theorem countQuota {s : State} (b : Fin 12) (h : P s) : P (s.countQuota b) := by
  unfold State.countQuota
  dsimp only
  split
  · exact h
  split
  · exact K.setBay (.of_same rfl rfl rfl rfl rfl rfl rfl rfl) h
  have counted : P (s.onBay b fun x => { x with session := { x.session with remaining := x.session.remaining - 1 } }) :=
    K.setBay (.of_same rfl rfl rfl rfl rfl rfl rfl rfl) h
  split
  · have reached := K.raise b .quotaReached counted
    split
    case isTrue active => exact K.enterStopping _ (by simpa [onBay_eq] using active) reached
    case isFalse => exact reached
  · exact counted

theorem bayPulse {s : State} (b : Fin 12) (h : P s) : P (s.bayPulse b) := by
  unfold State.bayPulse
  split
  · exact K.countQuota b (K.setBay (.of_same rfl rfl rfl rfl rfl rfl rfl rfl) h)
  · exact K.setBay (.of_same rfl rfl rfl rfl rfl rfl rfl rfl) h

theorem handMeterFault {s : State} (b : Fin 12) (h : P s) : P (s.handMeterFault b) :=
  K.setBay (.of_same rfl rfl rfl rfl rfl rfl rfl rfl) h

theorem authorised {s : State} {b : Fin 12} (c : SessionClass) (quota : Nat) (reference : BitVec 128) (busy : s.busy)
    (allowed : s.authoriseRefusal b = none) (h : P s) : P (s.authorised b c quota reference) := by
  have opened := K.opens (c := c) (quota := quota) (reference := reference) busy allowed h
  have bay : P (({ s.reserve with nextSession := sessionAfter s.nextSession }).onBay b
      fun x => x.open (s.newSession c quota reference)) := by
    rcases reserve_cases s with e | e
    · rw [e]
      exact opened
    · have moved : ({ s.reserve with nextSession := sessionAfter s.nextSession }).onBay b
          (fun x => x.open (s.newSession c quota reference)) =
          ((({ s with rw := { s.rw with reserved := s.rw.reserved + 1, armed := false } } : State).withNextSession
            (sessionAfter s.nextSession)).setBay b ((s.bay b).open (s.newSession c quota reference))).fire .ringLow := by
        rw [← fire_setBay, ← fire_nextSession, ← e]
        simp only [onBay_eq]
        congr 2
        exact bay_reserve s b
      rw [moved]
      exact K.fire _ (K.quiet opened rfl rfl rfl)
  exact K.watchFeedback b (K.raise b _ bay)

theorem cancelRelease {s : State} {b : Fin 12} (pending : (s.bay b).state = .releasePending) (h : P s) : P (s.cancelRelease b) := by
  have counts : (s.bay b).state.countsPulses = true := by simp [pending, BayState.countsPulses]
  refine K.watchFeedback b (K.setBay ?_ h)
  dsimp only
  split
  · exact toPaused_step counts
  · exact toAuthorised_step counts

theorem endMaintenance {s : State} (b : Fin 12) (h : P s) : P (s.endMaintenance b) := by
  unfold State.endMaintenance
  dsimp only
  split
  · exact h
  have ended : P (s.onBay b fun x => { x with maintenance := none, deferredRelease := false }) :=
    K.setBay (.of_same rfl rfl rfl rfl rfl rfl rfl rfl) h
  split
  case isTrue due =>
    refine K.enterReleasePending ?_ ended
    rw [onBay_eq, bay_setBay_self]
    have takes := (Bool.and_eq_true_iff.mp due).2
    generalize s.bay b = x at takes
    cases e : x.state <;> simp_all [BayState.takesPress, BayState.countsPulses]
  case isFalse => exact ended

/-! ## The Battery Account -/

theorem batteryEvent {s : State} {n : BatteryAccount} (sound : s.ba.sound → n.judged.sound) (h : P s) : P (s.batteryEvent n) := by
  unfold State.batteryEvent
  dsimp only
  split
  · exact K.fire _ (K.battery sound h)
  · exact K.battery sound h

theorem sitePulse {s : State} (ch : Fin 17) (h : P s) : P (s.sitePulse ch) := by
  have kept (e : Nat) (low : e ≤ s.ba.cap) (sound : s.ba.sound) : ({ s.ba with eb := e } : BatteryAccount).judged.sound := by
    obtain ⟨-, rest⟩ := sound.balanced
    exact BatteryAccount.balanced.judged ⟨low, rest⟩
  unfold State.sitePulse
  split
  · exact K.batteryEvent (kept _ (Nat.min_le_left ..)) h
  split
  · exact K.batteryEvent (kept _ (Nat.min_le_left ..)) h
  · exact h

theorem takeSetpoint {s : State} (setpoint : Int) (h : P s) : P (s.takeSetpoint setpoint) :=
  K.batteryEvent (fun sound => (BatteryAccount.balanced.drive sound.1 sound.2.2.1 setpoint).judged) h

theorem setLine {s : State} (l : BattLine) (x : FilteredLine) (h : P s) : P (s.setLine l x) := by
  cases l
  all_goals exact K.battery id h

theorem battEdge {s : State} (l : BattLine) (rising : Bool) (h : P s) : P (s.battEdge l rising) := by
  have idle (n : BatteryAccount) (eb : n.eb ≤ n.cap) (zero : n.setpoint = 0) (offline : n.state = .idle) : n.judged.sound :=
    BatteryAccount.balanced.judged ⟨eb, fun _ => zero, fun _ => by rw [offline, zero]; rfl, by omega, by omega⟩
  have full (n : BatteryAccount) (eb : n.eb ≤ n.cap) (same : n.setpoint = s.ba.setpoint) (state : n.state = s.ba.state)
      (dmax : n.dmax = s.ba.dmax) (cmax : n.cmax = s.ba.cmax) (sound : s.ba.sound) : n.judged.sound := by
    obtain ⟨-, rest⟩ := sound.balanced
    refine BatteryAccount.balanced.judged ⟨eb, ?_⟩
    rw [same, state, dmax, cmax]
    exact rest
  cases l <;> cases rising
  case ready.true => exact K.batteryEvent (fun sound => idle _ sound.1 rfl rfl) h
  case ready.false =>
    have lost : ∀ t : State, P t → P (t.batteryEvent { t.ba with setpoint := 0, state := .offline }) := fun t ht =>
      K.batteryEvent (fun sound => BatteryAccount.balanced.judged
        ⟨sound.1, fun _ => rfl, fun g => absurd rfl g, by simp, by simp⟩) ht
    refine lost _ ?_
    split
    · exact h
    · exact K.record _ h
  case full.true =>
    refine K.batteryEvent (fun sound => ?_) h
    split
    · exact BatteryAccount.balanced.judged (.rest Nat.le.refl)
    · exact full _ Nat.le.refl rfl rfl rfl rfl sound
  case empty.true =>
    refine K.batteryEvent (fun sound => ?_) h
    split
    · exact BatteryAccount.balanced.judged (.rest (Nat.zero_le _))
    · exact full _ (Nat.zero_le _) rfl rfl rfl rfl sound
  all_goals exact h

/-! ## The Meter Unit -/

theorem findSilence {s : State} (b : Fin 12) (h : P s) : P (s.findSilence b) :=
  K.handMeterFault b (K.record _ (K.onChannel _ _ h))

theorem judgeSilence {s : State} (ch : Fin 17) (h : P s) : P (s.judgeSilence ch) := by
  unfold State.judgeSilence
  split
  · split
    · exact K.findSilence _ h
    · exact h
  · exact h

theorem reject {s : State} (ch : Fin 17) (width : Nat) (h : P s) : P (s.reject ch width) := by
  refine K.judgeSilence ch ?_
  have counted := K.onChannel ch (fun c => { c with inProgress := none, noise := saturate 65535 (c.noise + 1) }) h
  split
  · exact K.record _ (K.onChannel ch _ counted)
  · exact counted

theorem judgeBayPulse {s : State} (b : Fin 12) (period : Option Word) (a : Word) (h : P s) : P (s.judgeBayPulse b period a) := by
  have marked := K.onChannel (bayChannel b) (fun c => { c with silent := false, silenceRef := a }) h
  unfold State.judgeBayPulse
  dsimp only
  split
  · exact marked
  · have counted (x : Channel) := K.onChannel (bayChannel b) (fun _ => x) marked
    split
    · exact K.handMeterFault b (K.record _ (counted _))
    · exact counted _

theorem acceptPulse {s : State} (ch : Fin 17) (a : Word) (h : P s) : P (s.acceptPulse ch a) := by
  have counted := K.onChannel ch (fun c => c.count s.clock.ms a) h
  unfold State.acceptPulse
  dsimp only
  split
  · exact K.bayPulse _ (K.judgeBayPulse _ _ _ counted)
  · exact K.sitePulse ch counted

/-! ## The Error Log -/

end Kept

theorem first_clear (el : ErrorLog) (kinds : BitVec 12) (k : ErrorKind) :
    (el.clear kinds).first = some k ↔ el.first = some k ∧ inKindSet kinds k = false := by
  simp [ErrorLog.clear, Option.filter_eq_some_iff]

theorem number_lt_twelve (k : ErrorKind) : k.number < 12 := by cases k <;> decide

theorem inKindSet_status_clear (el : ErrorLog) (kinds : BitVec 12) (k : ErrorKind) :
    inKindSet (el.clear kinds).status k = (inKindSet el.status k && !inKindSet kinds k) := by
  simp [ErrorLog.clear, inKindSet, number_lt_twelve]

/-- The Error Log stays sound when some kinds are cleared, whatever becomes of the overflow flag. -/
theorem ErrorLog.sound.clear {el : ErrorLog} (h : el.sound) (kinds : BitVec 12) : (el.clear kinds).sound := by
  obtain ⟨room, pointer, holds, policy⟩ := h
  refine ⟨room, fun k hk => ?_, fun must => ?_, policy⟩
  · obtain ⟨before, kept⟩ := (first_clear _ _ _).mp hk
    rw [inKindSet_status_clear, pointer k before, kept]
    rfl
  · obtain ⟨k, status, masked, hold⟩ := (ErrorLog.mustHold_iff _).mp must
    rw [inKindSet_status_clear] at status
    exact holds ((ErrorLog.mustHold_iff _).mpr ⟨k, (Bool.and_eq_true_iff.mp status).1, masked, hold⟩)

/-- A policy keeps EPOCH_UNSAVED unmasked and HOLD (R170, R175). -/
theorem takePolicy_epoch (el : ErrorLog) (m h : BitVec 12) :
    inKindSet (el.takePolicy m h).masked .epochUnsaved = false ∧ inKindSet (el.takePolicy m h).holds .epochUnsaved = true := by
  have bit : inKindSet ErrorKind.epochUnsaved.bit .epochUnsaved = true := by decide
  simp only [inKindSet] at bit ⊢
  simp only [ErrorLog.takePolicy, withoutEpoch, BitVec.getLsbD_and, BitVec.getLsbD_not, BitVec.getLsbD_or, bit]
  simp

/-- A log under a new policy that enters HOLD where it must is sound. -/
theorem ErrorLog.sound.takePolicy {el : ErrorLog} (h : el.sound) (m holds : BitVec 12) {hold : Bool}
    (enters : (el.takePolicy m holds).mustHold = true → hold = true) :
    ({ el.takePolicy m holds with hold := hold } : ErrorLog).sound := by
  obtain ⟨room, pointer, -, -⟩ := h
  obtain ⟨unmasked, severe⟩ := takePolicy_epoch el m holds
  exact ⟨room, pointer, enters, unmasked, severe⟩

end Sys2Proof.Machine
end

section
/-! Invariants of every step: ring commands, rounds, the memory path, the settings and the rows. -/

namespace Sys2Proof.Machine

namespace Kept

variable {P : State → Prop} (K : Kept P)

/-! ## The effects of the ring commands -/

theorem sessionCommand {s : State} (bay : Byte) (session : Word) {act : Fin 12 → State × Option Reply}
    (acts : ∀ b, (s.bay b).state.isActive = true → P (act b).1) (h : P s) : P (sessionCommand bay session act s).1 := by
  unfold Machine.sessionCommand
  repeat' split
  · exact h
  · exact h
  case isTrue active => exact acts _ active
  · exact h

include K

theorem authoriseEffect {s : State} (busy : s.busy) (bay : Byte) (cls quota : Word) (reference : BitVec 128) (h : P s) :
    P (authoriseEffect bay cls quota reference s).1 := by
  unfold Machine.authoriseEffect
  split
  · split
    · exact h
    · split
      · exact h
      case h_2 allowed => exact K.authorised _ _ _ busy allowed h
  all_goals exact h

theorem extendQuotaEffect {s : State} (bay : Byte) (session amount : Word) (h : P s) :
    P (extendQuotaEffect bay session amount s).1 := by
  unfold Machine.extendQuotaEffect
  split
  · exact h
  · refine sessionCommand bay session (fun b _ => ?_) h
    unfold State.extendQuota
    dsimp only
    repeat' split
    · exact h
    · exact h
    · exact K.setBay (.of_same rfl rfl rfl rfl rfl rfl rfl rfl) h

theorem releaseConfirmEffect {s : State} (bay : Byte) (session : Word) (h : P s) : P (releaseConfirmEffect bay session s).1 := by
  refine sessionCommand bay session (fun b active => ?_) h
  split
  · exact K.enterStopping _ active h
  · exact h

theorem releaseCancelEffect {s : State} (bay : Byte) (session : Word) (h : P s) : P (releaseCancelEffect bay session s).1 := by
  refine sessionCommand bay session (fun b _ => ?_) h
  split
  case isTrue pending => exact K.cancelRelease pending h
  case isFalse => exact h

theorem clearBayEffect {s : State} (bay : Byte) (h : P s) : P (clearBayEffect bay s).1 := by
  unfold Machine.clearBayEffect
  split
  · exact h
  split
  · exact h
  case isFalse b _ allowed =>
    have faulted : (s.bay b).state = .faulted := Decidable.of_not_not (not_or.mp allowed).1
    refine K.watchFeedback b (K.setBay (.of_closed (by simp [faulted, BayState.isOpen]) ?_) h)
    split <;> rfl

theorem setBayEffect {s : State} (bay : Byte) (pmin pmax stopDelay releaseWindow idleTimeout cap pairWord : Word) (h : P s) :
    P (setBayEffect bay pmin pmax stopDelay releaseWindow idleTimeout cap pairWord s).1 := by
  unfold Machine.setBayEffect
  dsimp only
  repeat' split
  · exact h
  · exact h
  · exact h
  case isFalse legal closed => exact K.bayConfig (by simpa using legal) (by simpa using closed) h

theorem setBatteryEffect {s : State} (cap reserve cmax dmax : Word) (h : P s) : P (setBatteryEffect cap reserve cmax dmax s).1 := by
  unfold Machine.setBatteryEffect
  dsimp only
  split
  · exact h
  · refine K.batteryEvent (fun sound => ?_) h
    obtain ⟨-, offline, -⟩ := sound.balanced
    exact (BatteryAccount.balanced.drive (b := { s.ba with
      cap := cap.toNat, reserve := reserve.toNat, cmax := cmax.toNat, dmax := dmax.toNat, eb := min cap.toNat s.ba.eb })
      (Nat.min_le_left ..) offline s.ba.setpoint).judged

theorem collectEffect {s : State} (sequence : Word) (h : P s) : P (collectEffect sequence s).1 := by
  unfold Machine.collectEffect
  dsimp only
  split
  · exact h
  case isFalse within =>
    obtain ⟨low, high⟩ := not_or.mp within
    split
    · exact h
    · exact K.quiet (K.collects (Nat.le_of_not_lt low) (Nat.le_of_not_lt high) h) rfl rfl rfl

theorem setReceiptWindowEffect {s : State} (base slots lowWater : Word) (h : P s) :
    P (setReceiptWindowEffect base slots lowWater s).1 := by
  unfold Machine.setReceiptWindowEffect
  dsimp only
  split
  · exact h
  split
  · exact h
  case isFalse legal unused =>
    simp only [Bool.or_eq_true, bne_iff_ne, ne_eq, not_or, Classical.not_not] at unused
    obtain ⟨⟨reserved, uncollected⟩, -⟩ := unused
    dsimp only
    refine K.windows (K.receipts reserved uncollected ?_ h)
    unfold receiptWindowBad at legal
    split at legal
    case isTrue none => simp [receiptGeometryOf, none, windowsMeet]
    case isFalse => simp_all

theorem setSnapshotWindowEffect {s : State} (busy : s.busy) (base stride decimation : Word) (h : P s) :
    P (setSnapshotWindowEffect base stride decimation s).1 := by
  unfold Machine.setSnapshotWindowEffect
  dsimp only
  split
  · exact h
  case isFalse legal =>
    have apart : windowsMeet s.rw.geometry (snapshotGeometryOf base stride decimation) = false := by
      rw [Bool.or_eq_true, not_or] at legal
      simpa using legal.2
    dsimp only [finish]
    exact K.windows (K.newWindow busy apart h)

theorem clearErrorsEffect {s : State} (kinds overflow : Word) (h : P s) : P (clearErrorsEffect kinds overflow s).1 := by
  unfold Machine.clearErrorsEffect
  dsimp only
  split
  · exact h
  · exact K.log (fun sound => sound.clear _) h

theorem ackErrorEffect {s : State} (h : P s) : P (ackErrorEffect s).1 := by
  unfold Machine.ackErrorEffect
  split
  · exact h
  case h_2 r rest records =>
    refine K.log (fun sound => ?_) h
    obtain ⟨room, others⟩ := sound
    rw [records, List.length_cons] at room
    exact ⟨by dsimp only; omega, others⟩

theorem setErrorPolicyEffect {s : State} (masks holds : Word) (h : P s) : P (setErrorPolicyEffect masks holds s).1 := by
  unfold Machine.setErrorPolicyEffect
  dsimp only
  split
  · split
    · exact K.fire _ (K.log (fun sound => sound.takePolicy _ _ fun _ => rfl) h)
    case isFalse stays =>
      exact K.log (fun sound => sound.takePolicy _ _ (hold := s.el.hold) fun must => by simp_all [ErrorLog.takePolicy]) h
  all_goals exact h

theorem clearHoldEffect {s : State} (h : P s) : P (clearHoldEffect s).1 := by
  unfold Machine.clearHoldEffect
  split
  · exact h
  case isFalse free =>
    split
    · refine K.fire _ (K.log (fun sound => ?_) h)
      obtain ⟨room, pointer, -, policy⟩ := sound
      exact ⟨room, pointer, fun must => absurd must free, policy⟩
    · exact h

theorem maintenanceOnEffect {s : State} (bay : Byte) (pattern : Word) (h : P s) : P (maintenanceOnEffect bay pattern s).1 := by
  unfold Machine.maintenanceOnEffect
  split
  · exact K.setBay (.of_same rfl rfl rfl rfl rfl rfl rfl rfl) h
  all_goals exact h

theorem maintenanceOffEffect {s : State} (bay : Byte) (pattern : Word) (h : P s) : P (maintenanceOffEffect bay pattern s).1 := by
  unfold Machine.maintenanceOffEffect
  split
  · exact K.endMaintenance _ h
  all_goals exact h

theorem setSiteEffect {s : State} (limit period : Word) (h : P s) : P (setSiteEffect limit period s).1 := by
  unfold Machine.setSiteEffect
  split
  case isTrue legal => exact K.site legal h
  case isFalse => exact h

theorem setSupplyMapEffect {s : State} (priority standard economy : Word) (h : P s) :
    P (setSupplyMapEffect priority standard economy s).1 := by
  unfold Machine.setSupplyMapEffect
  split
  · exact K.quiet h rfl rfl rfl
  · exact h

theorem causeMapEffect {s : State} (map : Word) (h : P s) : P (causeMapEffect map s).1 := by
  unfold Machine.causeMapEffect
  split
  · exact K.maps _ h
  · exact h

theorem settingsReadEffect {s : State} (offset : Word) (h : P s) : P (settingsReadEffect offset s).1 := by
  unfold Machine.settingsReadEffect
  split
  · exact h
  · exact K.quiet h rfl rfl rfl

theorem settingsWriteEffect {s : State} (offset data : Word) (h : P s) : P (settingsWriteEffect offset data s).1 := by
  unfold Machine.settingsWriteEffect
  repeat' split
  · exact h
  · exact h
  · exact K.quiet h rfl rfl rfl

/-- The effect of a ring command in execution. -/
theorem commandEffect {s : State} (busy : s.busy) (c : Instr) (h : P s) : P (commandEffect c s).1 := by
  cases c
  case authorise => exact K.authoriseEffect busy _ _ _ _ h
  case stop => exact sessionCommand _ _ (fun b active => K.enterStopping _ active h) h
  case extendQuota => exact K.extendQuotaEffect _ _ _ h
  case releaseConfirm => exact K.releaseConfirmEffect _ _ h
  case releaseCancel => exact K.releaseCancelEffect _ _ h
  case maintenanceOn => exact K.maintenanceOnEffect _ _ h
  case maintenanceOff => exact K.maintenanceOffEffect _ _ h
  case clearBay => exact K.clearBayEffect _ h
  case setBay => exact K.setBayEffect _ _ _ _ _ _ _ _ h
  case setSite => exact K.setSiteEffect _ _ h
  case setSupplyMap => exact K.setSupplyMapEffect _ _ _ h
  case setBattery => exact K.setBatteryEffect _ _ _ _ h
  case setTime => exact K.quiet h rfl rfl rfl
  case collect => exact K.collectEffect _ h
  case setReceiptWindow => exact K.setReceiptWindowEffect _ _ _ h
  case setSnapshotWindow => exact K.setSnapshotWindowEffect busy _ _ _ h
  case causeMap => exact K.causeMapEffect _ h
  case clearErrors => exact K.clearErrorsEffect _ _ h
  case ackError => exact K.ackErrorEffect h
  case setErrorPolicy => exact K.setErrorPolicyEffect _ _ h
  case clearHold => exact K.clearHoldEffect h
  case settingsRead => exact K.settingsReadEffect _ h
  case settingsWrite => exact K.settingsWriteEffect _ _ h
  all_goals exact h

/-! ## The Command Unit -/

theorem tryFetch {s : State} (h : P s) : P s.tryFetch := by
  unfold State.tryFetch
  split
  case isTrue can =>
    obtain ⟨link, idle, -⟩ := can
    refine K.quiet (K.steps (step := .fetching s.cu.taken []) (fun starting => ?_) (fun p e => ?_) nofun h) rfl rfl rfl
    · rw [link] at starting; cases starting
    · rw [idle] at e; cases e
  case isFalse => exact h

theorem postRequest {s : State} (v : Word) (h : P s) : P (s.postRequest v) := by
  unfold State.postRequest
  dsimp only
  split
  · exact K.tryFetch (K.quiet h rfl rfl rfl)
  · exact K.record _ h

theorem endExecution {s : State} {p : BitVec 4} {w : List Word} {a : Bool} (executing : s.cu.step = .executing p w a)
    (position : BitVec 4) (words : List Word) (reply : Option Reply) (h : P s) : P (s.endExecution position words reply) := by
  have busy : s.busy := fun e => by rw [executing] at e; cases e
  have notReplying (q : BitVec 4) : s.cu.step ≠ .replying q := fun e => by rw [executing] at e; cases e
  unfold State.endExecution
  split
  · exact K.replies _ _ _ busy notReplying h
  · exact K.steps (fun _ => busy) notReplying nofun h

/-- A ring command of the model executes, or is no occasion for it. -/
theorem ringCommand {s : State} (c : Instr) {effect : State → State × Option Reply} (cu : (effect s).1.cu = s.cu)
    (keeps : s.busy → P (effect s).1) (h : P s) : P (s.ringCommand c effect) := by
  unfold State.ringCommand
  split
  case h_1 position words executing =>
    have busy : s.busy := fun e => by rw [executing] at e; cases e
    split
    · exact K.endExecution (by rw [cu, executing]) _ _ _ (keeps busy)
    · exact h
  all_goals exact h

theorem takeHeldWindow {s : State} (h : P s) : P s.takeHeldWindow := by
  unfold State.takeHeldWindow
  split
  case h_1 position words executing =>
    exact K.ringCommand _ (cu_commandEffect (.setSnapshotWindow _ _ _) s)
      (fun busy => K.commandEffect busy (.setSnapshotWindow _ _ _) h) h
  all_goals exact h

theorem completeExecution {s : State} (h : P s) : P s.completeExecution := by
  unfold State.completeExecution
  split
  case h_1 executing => exact K.commandEffect (fun e => by rw [executing] at e; cases e) _ h
  all_goals exact h

theorem replySettings {s : State} (r : Reply) (h : P s) : P (s.replySettings r) := by
  unfold State.replySettings
  split
  case h_1 executing =>
    exact K.replies _ _ _ (fun e => by rw [executing] at e; cases e) (fun _ e => by rw [executing] at e; cases e) h
  all_goals exact h

theorem takeFetched {s : State} (k : Nat) (data : List Word) (h : P s) : P (s.takeFetched k data) := by
  unfold State.takeFetched
  split
  case h_1 fetching =>
    have busy : s.busy := fun e => by rw [fetching] at e; cases e
    have notReplying (q : BitVec 4) : s.cu.step ≠ .replying q := fun e => by rw [fetching] at e; cases e
    split
    · exact K.quiet (K.steps (step := .fetching _ (readWords 8 data)) (fun _ => busy) notReplying nofun h) rfl rfl rfl
    · exact K.steps (fun _ => busy) notReplying nofun h
  all_goals exact h

theorem skipFetch {s : State} (h : P s) : P s.skipFetch := by
  unfold State.skipFetch
  split
  case h_1 fetching =>
    exact K.replies _ _ _ (fun e => by rw [fetching] at e; cases e) (fun _ e => by rw [fetching] at e; cases e) h
  all_goals exact h

/-! ## The Path Unit -/

theorem guardWrite {s : State} (attached : Bool) (addr detail : Nat) (w : WriteWord) (h : P s) :
    P (s.guardWrite attached addr detail w) := by
  unfold State.guardWrite
  split
  · exact K.record _ h
  · exact K.quiet h rfl rfl rfl

theorem writeWord {s : State} (attached : Bool) (cls : WordClass) (addr : Nat) (w : WriteWord) (h : P s) :
    P (s.writeWord attached cls addr w) := by
  unfold State.writeWord State.writeOwned
  dsimp only
  repeat' split
  · exact h
  · exact K.quiet (K.links (l := .attaching) nofun h) rfl rfl rfl
  · exact K.postRequest _ h
  · exact K.quiet h rfl rfl rfl
  · exact K.guardWrite _ _ _ _ h
  · exact K.guardWrite _ _ _ _ h
  · exact K.guardWrite _ _ _ _ h
  all_goals exact h

theorem accept {s : State} (r : Request) (h : P s) : P (s.accept r) := by
  cases r
  case read addr count =>
    refine K.judgeHit _ ?_
    split
    · exact K.setBay (.of_same rfl rfl rfl rfl rfl rfl rfl rfl) h
    · exact h
  case write addr words =>
    exact K.judgeHit _ (keeps_foldl (P := P) (fun t w ht => K.writeWord _ _ _ _ ht) (placed addr words) h)

theorem acceptHeld {s : State} (h : P s) : P s.acceptHeld := by
  unfold State.acceptHeld
  split
  · exact K.accept _ (K.quiet h rfl rfl rfl)
  all_goals exact h

theorem present {s : State} (r : Request) (h : P s) : P (s.present r) := by
  unfold State.present
  split
  · exact h
  split
  · exact K.quiet h rfl rfl rfl
  · exact K.accept r h

theorem completeForwarded {s : State} (a : Access) (ok : Bool) (data : List Word) (h : P s) : P (s.completeForwarded a ok data) := by
  unfold State.completeForwarded
  split
  · exact K.quiet h rfl rfl rfl
  · dsimp only
    split
    · exact K.watched _ _ (K.quiet h rfl rfl rfl)
    · exact K.quiet h rfl rfl rfl

theorem grantPart {s : State} (h : P s) : P s.grantPart := by
  unfold State.grantPart
  split
  case h_1 e rest _ queued =>
    exact K.begins (s := { s with pu := { s.pu with mport := .entry, waitCount := 0 } }) queued (K.quiet h rfl rfl rfl)
  · exact K.quiet h rfl rfl rfl
  · exact h

theorem nextSweep {s : State} (k : Nat) (h : P s) : P (s.nextSweep k) := by
  unfold State.nextSweep
  split
  · exact K.quiet h rfl rfl rfl
  · exact K.acceptHeld (K.tryFetch (K.links (l := .attached) nofun h))

/-! ## Resets -/

theorem afterCrst {s : State} (h : P s) : P s.afterCrst := by
  have cleared := K.clears (K.completeExecution h)
  rw [afterCrst_eq]
  unfold State.acceptAfterCrst
  split
  · exact cleared
  · exact K.acceptHeld cleared

/-! ## Time -/

theorem tick {s : State} (h : P s) : P s.tick := by
  have bays := K.bays (v := s.bays.map Bay.tick) (fun b => by
    rw [Fin.getElem_fin, Vector.getElem_map]
    exact .of_same rfl rfl rfl rfl rfl rfl rfl rfl) h
  have lines := K.battery (s := { s with bays := s.bays.map Bay.tick }) (n := s.ba.tick) id bays
  refine K.quiet lines ?_ rfl rfl
  have timed : (countDown s.al.boundaryTimer).isSome = s.al.boundaryTimer.isSome := by
    cases s.al.boundaryTimer with
    | none => rfl
    | some n => cases n <;> rfl
  simp only [State.vitals, State.tick, timed]

end Kept

end Sys2Proof.Machine
end

section
/-! Invariants of every step: rounds and the rows, and with them every step. -/

namespace Sys2Proof.Machine

/-- A bay after its part of a plan, the event flag apart (R61). -/
def Bay.withPlan (x : Bay) (p : PlanBay) : Bay := (x.keepPortions p).takeGrant ((x.keepPortions p).usedGrant p)

/-- Predicates, one for each plan that may be under application, that every elementary change keeps, and that let each bay take its
part of the plan. A plan that names no session asks for no more than any other. -/
structure KeptByPlans (P : Plan → State → Prop) : Prop where
  kept : ∀ p, Kept (P p)
  grants : ∀ {p : Plan} {s : State} (b : Fin 12), P p s → P p (s.setBay b ((s.bay b).withPlan p.bays[b]))
  staged : ∀ {p q : Plan} {s : State}, s.al.staged = some p → P q s → P p s
  forgets : ∀ {p : Plan} {s : State} (n : Nat), P p s → P (emptyPlan n) s
  restarts : ∀ {s : State}, P (emptyPlan 0) s → P (emptyPlan 0) s.afterPor

namespace Kept

variable {P : State → Prop} (K : Kept P)
include K

theorem queueSnapshot {s : State} (i : Fin 13) (bytes : List Byte) (h : P s) : P (s.queueSnapshot i bytes) := by
  unfold State.queueSnapshot
  split
  · exact h
  case h_2 base window => exact K.snapshot i bytes window h

theorem latch {s : State} (running : s.running) (h : P s) : P s.latch := by
  have read := K.latches running h
  unfold State.latch Allocator.judgeOverlimit
  dsimp only
  repeat' split
  · exact K.record _ (K.quiet read rfl rfl rfl)
  · exact K.quiet read rfl rfl rfl
  · exact K.record _ (K.quiet read rfl rfl rfl)
  · exact K.quiet read rfl rfl rfl

end Kept

/-- A latch leaves the boundary's timer. -/
theorem boundaryTimer_latch (s : State) : s.latch.al.boundaryTimer = s.al.boundaryTimer := by
  unfold State.latch Allocator.judgeOverlimit
  dsimp only
  repeat' split
  all_goals simp

theorem link_latch (s : State) : s.latch.pu.link = s.pu.link := by
  unfold State.latch
  dsimp only
  split <;> simp

theorem State.running.latch {s : State} (h : s.running) : s.latch.running := by
  unfold State.running
  rw [link_latch, boundaryTimer_latch]
  exact h

namespace KeptByPlans

variable {P : Plan → State → Prop} (K : KeptByPlans P)
include K

theorem takePlan {p : Plan} {s : State} (b : Fin 12) (h : P p s) : P p (s.takePlan b p.bays[b]) := by
  have granted := K.grants b h
  unfold State.takePlan
  dsimp only
  repeat' split
  · exact (K.kept p).raise b _ ((K.kept p).onChannel _ _ granted)
  · exact (K.kept p).raise b _ granted
  · exact (K.kept p).onChannel _ _ granted
  · exact granted

theorem takePart {p : Plan} {s : State} (snapshot : Bool) (part : BoundaryPart) (h : P p s) : P p (s.takePart p snapshot part) := by
  cases part
  case bay b =>
    have taken := K.takePlan b h
    unfold State.takePart
    dsimp only
    split
    · exact (K.kept p).queueSnapshot _ _ taken
    · exact taken
  case setpoint => exact (K.kept p).takeSetpoint _ h
  case trigger =>
    unfold State.takePart
    dsimp only
    split
    · exact (K.kept p).queueSnapshot _ _ h
    · exact h

theorem takeParts {p : Plan} {s : State} (snapshot : Bool) (parts : List BoundaryPart) (h : P p s) :
    P p (s.takeParts p snapshot parts) :=
  keeps_foldl (P := P p) (fun _ part ht => K.takePart snapshot part ht) parts h

theorem boundary {p : Plan} {s : State} (running : s.running) (order : BoundaryOrder) (h : P p s) : P p (s.boundary p order) := by
  have handed : P p s.meterBoundary := (K.kept p).quiet h rfl rfl rfl
  have begun : s.meterBoundary.running := running
  have applied := (K.kept p).applies p begun.latch ((K.kept p).latch begun handed)
  unfold State.boundary
  dsimp only
  split
  · exact K.takeParts _ _ applied
  · exact K.takeParts _ _ ((K.kept p).takeHeldWindow (K.takeParts _ _ applied))

/-! ## The end of STARTING -/

theorem recordStart {p : Plan} {s : State} (ok : Bool) (f : Preloaded) (h : P p s) : P p (s.recordStart ok f) := by
  have recorded := keeps_foldl (P := P p) (f := fun u d => u.record { kind := .settingsBad, detail := field d })
    (fun _ _ ht => (K.kept p).record _ ht) f.bad h
  unfold State.recordStart
  dsimp only
  split
  · exact recorded
  · exact (K.kept p).record _ ((K.kept p).quiet recorded rfl rfl rfl)

end KeptByPlans

@[simp] theorem link_recordStart (s : State) (ok : Bool) (f : Preloaded) : (s.recordStart ok f).pu.link = s.pu.link := by
  have recorded := keeps_foldl (P := fun t : State => t.pu.link = s.pu.link)
    (f := fun u d => u.record { kind := .settingsBad, detail := field d })
    (fun t _ h => (link_record t _).trans h) f.bad rfl
  unfold State.recordStart
  dsimp only
  split
  · exact recorded
  · rw [link_record]; exact recorded

@[simp] theorem link_takeImage (s : State) (f : Preloaded) : (s.takeImage f).pu.link = .detached := by
  unfold State.takeImage
  rw [link_releaseVectors]
  rfl

@[simp] theorem link_batteryEvent (s : State) (b : BatteryAccount) : (s.batteryEvent b).pu.link = s.pu.link := by
  unfold State.batteryEvent
  dsimp only
  split
  · rw [link_fire]
  · rfl

@[simp] theorem link_watchAll (s : State) : s.watchAll.pu.link = s.pu.link :=
  keeps_foldl (P := fun t : State => t.pu.link = s.pu.link) (f := State.watchFeedback) (s := s)
    (fun t b h => (link_watchFeedback t b).trans h) (List.finRange 12) rfl

namespace KeptByPlans

variable {P : Plan → State → Prop} (K : KeptByPlans P)
include K

theorem watchAll {p : Plan} {s : State} (h : P p s) : P p s.watchAll :=
  keeps_foldl (P := P p) (fun _ b ht => (K.kept p).watchFeedback b ht) (List.finRange 12) h

theorem endStarting {p : Plan} {s : State} (ok : Bool) (order : List Nat) (starting : s.pu.link = .starting) (h : P p s) :
    ∃ n, P (emptyPlan n) (s.endStarting ok order) := by
  have imaged := (K.kept p).image (s := s.endSettings) starting ((K.kept p).quiet h rfl rfl rfl)
  have recorded := K.recordStart ok s.sp.found imaged
  have event (t : State) (ht : P p t) : P p (t.batteryEvent (t.ba.start s.sp.found.image)) :=
    (K.kept p).batteryEvent (fun _ => (start_balanced _ _).judged) ht
  refine ⟨_, (K.kept _).acceptHeld (K.boundary (fun starting => ?_) _ (K.forgets _ (K.watchAll (event _ recorded))))⟩
  simp at starting

/-! ## Rows -/

theorem roundBoundary {p : Plan} {s t : State} (order : BoundaryOrder) (h : P p s) (row : execRoundBoundary order s = .next t) :
    ∃ q, P q t := by
  unfold execRoundBoundary at row
  split at row <;> cases row
  case h_1 q due =>
    unfold State.boundaryDue at due
    split at due
    case isTrue timer =>
      have staged := K.staged due h
      exact ⟨q, K.boundary (fun _ => by simp [timer]) order ((K.kept q).quiet staged rfl rfl rfl)⟩
    case isFalse => cases due
  case h_2 => exact ⟨p, h⟩

end KeptByPlans

namespace Kept

variable {P : State → Prop} (K : Kept P)
include K

theorem planComputationEnd {s t : State} (h : P s) (row : execPlanComputationEnd s = .next t) : P t := by
  unfold execPlanComputationEnd at row
  dsimp only at row
  split at row <;> cases row
  case h_1 l computing =>
    have latched : s.al.latched = some l := by
      unfold State.computing at computing
      split at computing
      · exact computing
      · cases computing
    refine K.bays (s := { s with al := { s.al with staged := _ } }) (fun b => ?_) (K.stages s.al.correction (s.al.round + 1) latched h)
    simp only [Fin.getElem_fin, Vector.getElem_ofFn]
    exact .of_same rfl rfl rfl rfl rfl rfl rfl rfl
  case h_2 => exact h

theorem meterTrailingEdge {s t : State} (ch : Fin 17) (h : P s) (row : execMeterTrailingEdge ch s = .next t) : P t := by
  have fallen := K.onChannel ch (fun c => { c with lineActive := false }) h
  simp only [execMeterTrailingEdge] at row
  repeat' split at row
  all_goals cases row
  · exact fallen
  · exact K.reject _ _ fallen
  · exact K.acceptPulse _ _ fallen
  · exact K.reject _ _ fallen
  · exact h

theorem filterExpiry {s t : State} (c : Instr) (h : P s) (row : exec c s = .next t)
    (filter : ∃ b, c = .plugFilterExpiry b ∨ c = .readyFilterExpiry b ∨ c = .releaseFilterExpiry b) : P t := by
  obtain ⟨b, rfl | rfl | rfl⟩ := filter
  · simp only [exec, execPlugFilterExpiry] at row
    have taken : P (s.onBay b fun x => { x with plugTimer := none, plug := some x.plugLine }) :=
      K.setBay (.of_same rfl rfl rfl rfl rfl rfl rfl rfl) h
    repeat' split at row
    all_goals cases row
    · exact taken
    · exact K.plugIn b taken
    · exact K.plugOut b taken
    · exact h
  · simp only [exec, execReadyFilterExpiry] at row
    have taken : P (s.onBay b fun x => { x with readyTimer := none, ready := x.readyLine }) :=
      K.setBay (.of_same rfl rfl rfl rfl rfl rfl rfl rfl) h
    repeat' split at row
    all_goals cases row
    · exact taken
    · exact K.readyHigh b taken
    · exact K.readyLow b taken
    · exact h
  · simp only [exec, execReleaseFilterExpiry] at row
    have taken : P (s.onBay b fun x => { x with releaseLineTimer := none, release := x.releaseLine }) :=
      K.setBay (.of_same rfl rfl rfl rfl rfl rfl rfl rfl) h
    repeat' split at row
    all_goals cases row
    · exact K.press b taken
    · exact taken
    · exact h

theorem bayTimerExpiry {s t : State} (c : Instr) (h : P s) (row : exec c s = .next t)
    (timer : ∃ b, c = .feedbackTimerExpiry b ∨ c = .idleTimerExpiry b ∨ c = .releaseTimerExpiry b ∨ c = .stopDelayExpiry b) :
    P t := by
  obtain ⟨b, rfl | rfl | rfl | rfl⟩ := timer
  · simp only [exec, execFeedbackTimerExpiry] at row
    split at row <;> cases row
    · exact K.contactorFault b (K.raise b _ (K.record _ (K.setBay (.of_same rfl rfl rfl rfl rfl rfl rfl rfl) h)))
    · exact h
  · simp only [exec, execIdleTimerExpiry] at row
    split at row <;> cases row
    next due => exact K.enterStopping _ (by simp [due.2, BayState.isActive]) h
    next => exact h
  · simp only [exec, execReleaseTimerExpiry] at row
    split at row <;> cases row
    next due => exact K.enterStopping _ (by simp [due.2, BayState.isActive]) h
    next => exact h
  · simp only [exec, execStopDelayExpiry] at row
    split at row <;> cases row
    next due => exact K.judgeIssuing b (K.setBay (openDrive_step (.inr due.2) rfl rfl rfl rfl rfl rfl rfl rfl) h)
    next => exact h

theorem issuingExit {s t : State} (b : Fin 12) (h : P s) (row : execIssuingExit b s = .next t) : P t := by
  unfold execIssuingExit at row
  split at row <;> cases row
  case isTrue due => exact K.watchFeedback b (K.exits (by simpa [Bay.exitDue] using due) (K.raise b _ h))
  case isFalse => exact h

theorem meterFaultEvent {s t : State} (b : Fin 12) (h : P s) (row : execMeterFaultEvent b s = .next t) : P t := by
  have taken : P (s.onBay b fun x => { x with meterFaults := x.meterFaults - 1 }) :=
    K.setBay (.of_same rfl rfl rfl rfl rfl rfl rfl rfl) h
  simp only [execMeterFaultEvent] at row
  repeat' split at row
  all_goals cases row
  · exact h
  next active =>
    refine K.enterStopping _ ?_ taken
    rw [onBay_eq, bay_setBay_self]
    exact (Bool.and_eq_true_iff.mp active).2
  · exact taken

theorem ownWriteAttemptComplete {s t : State} (bursts : List Bool) (h : P s)
    (row : execOwnWriteAttemptComplete bursts s = .next t) : P t := by
  unfold execOwnWriteAttemptComplete at row
  repeat' split at row
  all_goals cases row
  case h_1.isTrue queued _ => exact K.done (s := s.freePort) _ queued (K.quiet h rfl rfl rfl)
  all_goals exact h

theorem sweepReadComplete {s t : State} (ok : Bool) (data : List Word) (h : P s)
    (row : execSweepReadComplete ok data s = .next t) : P t := by
  have freed : P s.freePort := K.quiet h rfl rfl rfl
  simp only [execSweepReadComplete] at row
  repeat' split at row
  all_goals cases row
  · exact freed
  · exact K.nextSweep _ (K.watched _ _ freed)
  · exact K.quiet freed rfl rfl rfl
  · exact K.nextSweep _ (K.memoryFault _ _ freed)
  all_goals exact h

theorem fetchReadComplete {s t : State} (ok : Bool) (data : List Word) (h : P s)
    (row : execFetchReadComplete ok data s = .next t) : P t := by
  have freed : P s.freePort := K.quiet h rfl rfl rfl
  simp only [execFetchReadComplete] at row
  repeat' split at row
  all_goals cases row
  · exact freed
  · exact K.takeFetched _ _ freed
  · exact K.quiet freed rfl rfl rfl
  · exact K.skipFetch (K.memoryFault _ _ freed)
  all_goals exact h

theorem mPortGrant {s t : State} (h : P s) (row : execMPortGrant s = .next t) : P t := by
  unfold execMPortGrant at row
  repeat' split at row
  all_goals cases row
  · exact K.quiet h rfl rfl rfl
  · exact K.grantPart h
  · exact K.grantPart h
  · exact h

theorem epochRetryEnd {s t : State} (ok : Bool) (h : P s) (row : execEpochRetryEnd ok s = .next t) : P t := by
  unfold execEpochRetryEnd at row
  repeat' split at row
  all_goals cases row
  · exact K.log (s := s.endSettings) (fun sound => sound.clear _) (K.quiet h rfl rfl rfl)
  · exact K.quiet h rfl rfl rfl
  all_goals exact h

theorem settingsCommandEnd {s t : State} (ok : Bool) (bytes : List Byte) (h : P s)
    (row : execSettingsCommandEnd ok bytes s = .next t) : P t := by
  have ended : P s.endSettings := K.quiet h rfl rfl rfl
  unfold execSettingsCommandEnd at row
  split at row
  all_goals cases row
  · split
    · exact ended
    · exact K.replySettings _ ended
  · split
    · exact ended
    · exact K.replySettings _ ended
  all_goals exact h

theorem forwardedTransactionComplete {s t : State} (ok : Bool) (data : List Word) (h : P s)
    (row : execForwardedTransactionComplete ok data s = .next t) : P t := by
  unfold execForwardedTransactionComplete at row
  split at row
  all_goals cases row
  · exact K.completeForwarded _ _ _ (K.quiet h rfl rfl rfl)
  all_goals exact h

/-- A row that, where it has its occasion, changes one bay, one channel, one line or nothing that the invariants read. -/
theorem plainRow {s t : State} {c : Instr} (h : P s) (row : exec c s = .next t)
    (plain : c = .settingsOperationStart ∨ (∃ ok bytes, c = .preloadReadEnd ok bytes) ∨ c = .epochRetryTimerExpiry ∨
      c = .siteTimeTick ∨ (∃ ch, c = .meterLeadingEdge ch ∨ c = .channelStale ch) ∨
      (∃ b, c = .sessionClosedReport b) ∨
      (∃ b high, c = .plugLineChange b high ∨ c = .readyLineChange b high ∨ c = .releaseLineChange b high)) : P t := by
  rcases plain with rfl | ⟨_, _, rfl⟩ | rfl | rfl | ⟨_, rfl | rfl⟩ | ⟨b, rfl⟩ | ⟨b, _, rfl | rfl | rfl⟩
  · simp only [exec, execSettingsOperationStart] at row
    split at row <;> cases row
    · exact K.quiet h rfl rfl rfl
    · exact h
  · simp only [exec, execPreloadReadEnd] at row
    split at row <;> cases row
    · exact K.quiet (K.finds _ _ h) rfl rfl rfl
    · exact h
  · simp only [exec, execEpochRetryTimerExpiry] at row
    split at row <;> cases row
    · exact K.quiet h rfl rfl rfl
    · exact h
  · simp only [exec, execSiteTimeTick] at row
    split at row <;> cases row
    · exact K.quiet h rfl rfl rfl
    · exact h
  · simp only [exec, execMeterLeadingEdge] at row
    split at row <;> cases row
    · exact h
    · exact K.onChannel _ _ h
  · simp only [exec, execChannelStale] at row
    split at row <;> cases row
    · exact K.onChannel _ _ h
    · exact h
  · simp only [exec, execSessionClosedReport] at row
    split at row <;> cases row
    · have reported : P (s.onBay b fun x => { x with closedReports := x.closedReports - 1 }) :=
        K.setBay (.of_same rfl rfl rfl rfl rfl rfl rfl rfl) h
      exact K.quiet reported rfl rfl rfl
    · exact h
  all_goals
    simp only [exec, execPlugLineChange, execReadyLineChange, execReleaseLineChange] at row
    split at row <;> cases row
    · exact h
    · exact K.setBay (.of_same rfl rfl rfl rfl rfl rfl rfl rfl) h

end Kept

namespace KeptByPlans

variable {P : Plan → State → Prop} (K : KeptByPlans P)
include K

/-- Every row keeps such predicates, under some plan. -/
theorem exec {p : Plan} {c : Instr} {s t : State} (h : P p s) (row : exec c s = .next t) : ∃ q, P q t := by
  have same (k : P p t) : ∃ q, P q t := ⟨p, k⟩
  have kept := K.kept p
  by_cases ring : (encodeSlot c 0).isSome = true
  · rw [exec_ringCommand ring] at row
    cases row
    exact same (kept.ringCommand c (cu_commandEffect c s) (fun busy => kept.commandEffect busy c h) h)
  cases c
  case por => cases row; exact ⟨_, K.restarts (K.forgets 0 h)⟩
  case crst => cases row; exact same (kept.afterCrst h)
  case settingsOperationStart => exact same (kept.plainRow h row (by simp))
  case preloadReadEnd => exact same (kept.plainRow h row (by simp))
  case startingEnd ok order =>
    simp only [Machine.exec, execStartingEnd] at row
    split at row <;> cases row
    case isTrue writing =>
      obtain ⟨n, ended⟩ := K.endStarting ok order (by simpa using (Bool.and_eq_true_iff.mp writing).1) h
      exact ⟨_, ended⟩
    case isFalse => exact same h
  case epochRetryTimerExpiry => exact same (kept.plainRow h row (by simp))
  case epochRetryEnd => exact same (kept.epochRetryEnd _ h row)
  case siteTimeTick => exact same (kept.plainRow h row (by simp))
  case meterLeadingEdge => exact same (kept.plainRow h row (by simp))
  case meterTrailingEdge => exact same (kept.meterTrailingEdge _ h row)
  case pulseWidthExceeded =>
    simp only [Machine.exec, execPulseWidthExceeded] at row
    split at row <;> cases row
    · exact same (kept.reject _ _ h)
    · exact same h
  case channelStale => exact same (kept.plainRow h row (by simp))
  case silenceFound =>
    simp only [Machine.exec, execSilenceFound] at row
    split at row <;> cases row
    · exact same (kept.findSilence _ h)
    · exact same h
  case meterFaultEvent => exact same (kept.meterFaultEvent _ h row)
  case plugFilterExpiry => exact same (kept.filterExpiry _ h row (by simp))
  case readyFilterExpiry => exact same (kept.filterExpiry _ h row (by simp))
  case releaseFilterExpiry => exact same (kept.filterExpiry _ h row (by simp))
  case feedbackChange =>
    simp only [Machine.exec, execFeedbackChange] at row
    split at row <;> cases row
    · exact same h
    · exact same (kept.judgeIssuing _ (kept.setBay (.of_same rfl rfl rfl rfl rfl rfl rfl rfl) h))
  case feedbackTimerExpiry => exact same (kept.bayTimerExpiry _ h row (by simp))
  case idleTimerExpiry => exact same (kept.bayTimerExpiry _ h row (by simp))
  case releaseTimerExpiry => exact same (kept.bayTimerExpiry _ h row (by simp))
  case stopDelayExpiry => exact same (kept.bayTimerExpiry _ h row (by simp))
  case issuingExit => exact same (kept.issuingExit _ h row)
  case sessionClosedReport => exact same (kept.plainRow h row (by simp))
  case roundBoundary order => exact K.roundBoundary order h row
  case planComputationEnd => exact same (kept.planComputationEnd h row)
  case battLineChange =>
    simp only [Machine.exec, execBattLineChange] at row
    split at row <;> cases row
    · exact same h
    · exact same (kept.setLine _ _ h)
  case battLineFilterExpiry =>
    simp only [Machine.exec, execBattLineFilterExpiry] at row
    repeat' split at row
    all_goals cases row
    · exact same (kept.setLine _ _ h)
    · exact same (kept.battEdge _ _ (kept.setLine _ _ h))
    · exact same h
  case plugLineChange => exact same (kept.plainRow h row (by simp))
  case readyLineChange => exact same (kept.plainRow h row (by simp))
  case releaseLineChange => exact same (kept.plainRow h row (by simp))
  case controllerWriteAccept => cases row; exact same (kept.present _ h)
  case releaseWrite => cases row; exact same (kept.present _ h)
  case postIndexWrite => cases row; exact same (kept.present _ h)
  case viewSelectorWrite => cases row; exact same (kept.present _ h)
  case controllerReadAccept => cases row; exact same (kept.present _ h)
  case eventWordRead => cases row; exact same (kept.present _ h)
  case forwardedTransactionComplete => exact same (kept.forwardedTransactionComplete _ _ h row)
  case mPortGrant => exact same (kept.mPortGrant h row)
  case ownWriteAttemptComplete => exact same (kept.ownWriteAttemptComplete _ h row)
  case sweepReadComplete => exact same (kept.sweepReadComplete _ _ h row)
  case fetchReadComplete => exact same (kept.fetchReadComplete _ _ h row)
  case settingsCommandEnd => exact same (kept.settingsCommandEnd _ _ h row)
  case unknownCommand => cases row; exact same (kept.ringCommand _ rfl (fun _ => h) h)
  all_goals exact absurd rfl ring

/-- Every step keeps such predicates, under some plan. -/
theorem step {p : Plan} {s t : State} (h : P p s) (steps : step s = .next t) : ∃ q, P q t := by
  unfold Machine.step at steps
  split at steps
  case h_1 rest _ => exact K.exec (s := { s with pending := rest }) ((K.kept p).quiet h rfl rfl rfl) steps
  split at steps
  case h_1 c u own =>
    refine K.exec (s := u) ((K.kept p).quiet h ?_ ?_ ?_) steps
    all_goals
      unfold State.nextOwn at own
      split at own <;> cases own <;> rfl
  case h_2 => cases steps; exact ⟨p, (K.kept p).tick h⟩

end KeptByPlans

/-- A predicate that the elementary changes, POR and the taking of a plan's part keep is kept by every step. -/
theorem Kept.step {P : State → Prop} (K : Kept P) (restarts : ∀ {s : State}, P s → P s.afterPor)
    (grants : ∀ {s : State} (b : Fin 12) (p : PlanBay), P s → P (s.setBay b ((s.bay b).withPlan p))) {s t : State} (h : P s)
    (steps : step s = .next t) : P t := by
  have plans : KeptByPlans fun _ => P := ⟨fun _ => K, fun b => grants b _, fun _ => id, fun _ => id, restarts⟩
  obtain ⟨-, kept⟩ := plans.step (p := emptyPlan 0) h steps
  exact kept

end Sys2Proof.Machine
end

section
/-! Invariants of every step: the Error Log, the Battery Account, the bays. -/

namespace Sys2Proof.Machine

/-! ## The Error Log and the Battery Account -/

theorem ErrorLog.sound_reset : ({} : ErrorLog).sound := ⟨by simp, nofun, by decide, by decide, by decide⟩

/-- At the end of STARTING the log is sound under the preloaded policy (R173, R178). -/
theorem ErrorLog.sound.start {el : ErrorLog} (h : el.sound) (masks holds : BitVec 12) : (el.start masks holds).sound :=
  h.takePolicy masks holds fun must => by rw [must, Bool.or_true]

theorem errorLog_unqueued : Unqueued fun s => s.el.sound where
  battery _ h := h
  log sound h := sound h
  issuing _ h := h
  opens _ _ h := h
  exits _ h := h
  latches _ h := h
  stages _ _ _ h := h
  applies _ _ h := h
  receipts _ _ _ h := h
  collects _ _ h := h
  site _ h := h
  bayConfig _ _ h := h
  finds _ _ h := h
  links _ h := h
  same {s t} h vitals := by
    have same : t.el = s.el := congrArg Vitals.el vitals
    rw [same]
    exact h
  turns _ h := h
  window _ _ h := h
  images _ h := h.start _ _
  resets h := h
  moves _ h := h

theorem battery_unqueued : Unqueued fun s => s.ba.sound where
  battery sound h := sound h
  log _ h := h
  issuing _ h := h
  opens _ _ h := h
  exits _ h := h
  latches _ h := h
  stages _ _ _ h := h
  applies _ _ h := h
  receipts _ _ _ h := h
  collects _ _ h := h
  site _ h := h
  bayConfig _ _ h := h
  finds _ _ h := h
  links _ h := h
  same {s t} h vitals := by
    have same : t.ba = s.ba := congrArg Vitals.ba vitals
    rw [same]
    exact h
  turns _ h := h
  window _ _ h := h
  images _ h := h
  resets h := h
  moves _ h := h

/-! ## Bays under the vitals -/

theorem vitals_bay {s t : State} (vitals : t.vitals = s.vitals) (b : Fin 12) : t.bay b = s.bay b := by
  have same : t.bays = s.bays := congrArg Vitals.bays vitals
  simp [State.bay, same]

theorem vitals_step {s t : State} (vitals : t.vitals = s.vitals) : t.cu.step = s.cu.step := congrArg Vitals.step vitals

theorem vitals_link {s t : State} (vitals : t.vitals = s.vitals) : t.pu.link = s.pu.link := congrArg Vitals.link vitals

theorem vitals_latched {s t : State} (vitals : t.vitals = s.vitals) : t.al.latched = s.al.latched := congrArg Vitals.latched vitals

theorem vitals_staged {s t : State} (vitals : t.vitals = s.vitals) : t.al.staged = s.al.staged := congrArg Vitals.staged vitals

theorem vitals_sw {s t : State} (vitals : t.vitals = s.vitals) : t.sw = s.sw := congrArg Vitals.sw vitals

/-! ## Held safe -/

/-- The bays when a bay is replaced: the new bay at its place, every other one as it was. -/
theorem forall_bay_setBay {s : State} {Q : Fin 12 → Bay → Prop} {b : Fin 12} {y : Bay} (here : Q b y)
    (others : ∀ c, c ≠ b → Q c (s.bay c)) (c : Fin 12) : Q c ((s.setBay b y).bay c) := by
  by_cases e : c = b
  · subst e; rw [bay_setBay_self]; exact here
  · rw [bay_setBay_of_ne _ e]; exact others c e

theorem heldSafe_iff (s : State) : s.heldSafe ↔ (s.pu.link = .starting → s.cu.step = .idle ∧ s.al.boundaryTimer = none ∧
    s.al.latched = none ∧ s.al.staged = none ∧ s.sw.base = none ∧ ∀ b, (s.bay b).heldSafe) := Iff.rfl

/-- What holds the part safe reads the vitals alone, and of the bays only that each is held safe. -/
theorem State.heldSafe.of_vitals {s t : State} (h : s.heldSafe) (link : t.pu.link = .starting → s.pu.link = .starting)
    (step : t.cu.step = s.cu.step) (timer : t.al.boundaryTimer.isSome = s.al.boundaryTimer.isSome)
    (latched : t.al.latched = s.al.latched) (staged : t.al.staged = s.al.staged) (base : t.sw.base = s.sw.base)
    (bays : ∀ b, (s.bay b).heldSafe → (t.bay b).heldSafe) : t.heldSafe := by
  intro starting
  obtain ⟨idle, timed, noneLatched, noneStaged, noWindow, safe⟩ := h (link starting)
  refine ⟨step.trans idle, ?_, latched.trans noneLatched, staged.trans noneStaged, base.trans noWindow, fun b => bays b (safe b)⟩
  rw [timed] at timer
  simpa using timer

/-- Nothing is open while the part is held safe. -/
theorem State.heldSafe.notStarting {s : State} (h : s.heldSafe) {b : Fin 12} (isOpen : (s.bay b).state.isOpen = true) :
    s.pu.link ≠ .starting := by
  intro starting
  obtain ⟨-, -, -, -, -, safe⟩ := h starting
  rw [(safe b).1] at isOpen
  cases isOpen

theorem isOpen_of_readyToIssue {x : Bay} (h : x.readyToIssue = true) : x.state = .stopping ∧ x.drive = false := by
  simp only [Bay.readyToIssue, Bool.and_eq_true, beq_iff_eq, Bool.not_eq_true'] at h
  exact h.1

theorem issuing_of_exitDue {x : Bay} (h : x.exitDue = true) : x.state = .issuing ∧ x.receiptFinished = true := by
  simpa [Bay.exitDue] using h

theorem heldSafe_unqueued : Unqueued State.heldSafe where
  battery _ h := h.of_vitals id rfl rfl rfl rfl rfl fun _ => id
  log _ h := h.of_vitals id rfl rfl rfl rfl rfl fun _ => id
  issuing {s b} ready h starting := by
    have stopping := (isOpen_of_readyToIssue ready).1
    exact absurd starting (h.notStarting (b := b) (by simp [stopping, BayState.isOpen]))
  opens busy _ h starting := absurd (h starting).1 busy
  exits {s b} due h starting := by
    have issuing := (issuing_of_exitDue due).1
    exact absurd starting (h.notStarting (b := b) (by simp [issuing, BayState.isOpen]))
  latches running h starting := by
    have timed := running starting
    rw [(h starting).2.1] at timed
    cases timed
  stages _ _ latched h starting := by
    obtain ⟨-, -, none, -⟩ := h starting
    rw [latched] at none
    cases none
  applies _ running h starting := by
    have timed := running starting
    rw [(h starting).2.1] at timed
    cases timed
  receipts _ _ _ h := h.of_vitals id rfl rfl rfl rfl rfl fun _ => id
  collects _ _ h := h.of_vitals id rfl rfl rfl rfl rfl fun _ => id
  site _ h := h.of_vitals id rfl rfl rfl rfl rfl fun _ => id
  bayConfig {s b c cap pairWord} _ _ h := h.of_vitals id rfl rfl rfl rfl rfl fun d safe =>
    forall_bay_setBay (Q := fun d x => (s.bay d).heldSafe → x.heldSafe) (y := { s.bay b with config := c }) id (fun _ _ => id) d safe
  finds _ _ h := h.of_vitals id rfl rfl rfl rfl rfl fun _ => id
  links notStarting _ starting := absurd starting notStarting
  same {s t} h vitals := h.of_vitals (fun starting => (vitals_link vitals).symm.trans starting) (vitals_step vitals)
    (congrArg Vitals.timed vitals) (vitals_latched vitals) (vitals_staged vitals) (congrArg SnapshotWriter.base (vitals_sw vitals))
    fun b safe => by rw [vitals_bay vitals]; exact safe
  turns turn h := h.of_vitals id rfl rfl rfl rfl rfl fun b => (turn b).safe
  window busy _ h starting := absurd (h starting).1 busy
  images _ _ starting := nomatch starting
  resets {s} h starting := by
    have before : s.pu.link = .starting := by
      cases link : s.pu.link <;> simp [link, LinkState.afterCrst] at starting ⊢
    obtain ⟨-, rest⟩ := h before
    exact ⟨rfl, rest⟩
  moves guard h starting := by
    obtain ⟨idle, rest⟩ := h starting
    rcases guard starting with busy | stays
    · exact absurd idle busy
    · exact ⟨stays, rest⟩

/-- A bay held safe takes no grant. -/
theorem heldSafe_withPlan {x : Bay} (h : x.heldSafe) (p : PlanBay) : (x.withPlan p).heldSafe := by
  obtain ⟨closed, drive, allowance⟩ := h
  have kept : (x.keepPortions p).heldSafe :=
    ⟨(congrArg _ (state_attribute x)).trans closed, (drive_attribute x).trans drive, (allowance_attribute x).trans allowance⟩
  have state : (x.keepPortions p).state = x.state := state_attribute x
  have same : x.withPlan p = x.keepPortions p := by
    unfold Bay.withPlan Bay.takeGrant
    rw [state]
    cases e : x.state <;> simp_all [BayState.isOpen]
  rw [same]
  exact kept

theorem heldSafe_grants {s : State} (b : Fin 12) (p : PlanBay) (h : s.heldSafe) : (s.setBay b ((s.bay b).withPlan p)).heldSafe :=
  h.of_vitals id rfl rfl rfl rfl rfl fun c =>
    forall_bay_setBay (Q := fun d x => (s.bay d).heldSafe → x.heldSafe) (fun safe => heldSafe_withPlan safe p) (fun _ _ => id) c

/-! ## Attribution (R105 to R108) -/

/-- The two floors of a split take no more than there is. -/
theorem floors_le (e a b c : Nat) (h : 0 < a + b + c) : e * a / (a + b + c) + e * b / (a + b + c) ≤ e := by
  have two : e * a / (a + b + c) + e * b / (a + b + c) ≤ (e * a + e * b) / (a + b + c) := Nat.div_add_div_le_add_div ..
  have all : (e * a + e * b) / (a + b + c) ≤ e * (a + b + c) / (a + b + c) :=
    Nat.div_le_div_right (by rw [← Nat.mul_add]; exact Nat.mul_le_mul_left _ (by omega))
  rw [Nat.mul_div_cancel _ h] at all
  exact Nat.le_trans two all

/-- Attribution keeps the sums of the tallies (R107). -/
theorem splitTallies_sound {x : Bay} (h : x.session.tallies.sound) : x.splitTallies.sound := by
  obtain ⟨sum, total, extra⟩ := h
  have entered : x.attributed ≤ wordMax - x.session.tallies.total := Nat.min_le_right ..
  have added : x.overQuotaAdded ≤ x.attributed := Nat.min_le_right ..
  refine ⟨?_, ?_, ?_⟩
  · unfold Bay.splitTallies
    dsimp only
    split
    case isTrue split =>
      have positive : 0 < x.keptPortions.solar + x.keptPortions.battery + x.keptPortions.grid := by
        simpa using (Bool.and_eq_true_iff.mp split).2
      have floors := floors_le x.attributed _ _ _ positive
      omega
    case isFalse => omega
  · unfold Bay.splitTallies
    dsimp only
    omega
  · unfold Bay.splitTallies
    dsimp only
    omega

/-- A bay stays sound when it attributes its round and keeps the portions of a plan. -/
theorem Bay.sound.attributed {x : Bay} (h : x.sound) : x.attribute.sound := by
  rw [Bay.sound_iff] at h ⊢
  obtain ⟨charging, drive, closed, sums⟩ := h
  rw [state_attribute, allowance_attribute, drive_attribute]
  refine ⟨charging, drive, closed, ?_⟩
  unfold Bay.attribute
  dsimp only
  split
  · exact splitTallies_sound sums
  · exact sums

/-- A bay stays sound when it takes a grant (R32). -/
theorem Bay.sound.takeGrant {x : Bay} (h : x.sound) (grant : Nat) : (x.takeGrant grant).sound := by
  rw [Bay.sound_iff] at h
  obtain ⟨charging, drive, closed, sums⟩ := h
  unfold Bay.takeGrant
  split
  case h_1 paused =>
    split
    case isTrue positive => exact ⟨by simpa using positive, fun _ => by simp, fun _ => closed (.inl paused), sums⟩
    case isFalse => exact ⟨charging, drive, closed, sums⟩
  case h_2 was =>
    split
    case isTrue positive => exact ⟨by simpa [was] using positive, fun _ => by simp [was], fun _ => closed (.inr was), sums⟩
    case isFalse => exact ⟨by simp, fun _ => by simp, fun _ => closed (.inr was), sums⟩
  all_goals exact ⟨charging, drive, closed, sums⟩

theorem Bay.sound.withPlan {x : Bay} (h : x.sound) (p : PlanBay) : (x.withPlan p).sound := by
  have kept : (x.keepPortions p).sound := h.attributed
  exact kept.takeGrant _

/-! ## The bays -/

/-- A new session opens at a bay with its outputs as its state says (R30). -/
theorem open_sound (x : Bay) {n : Session} (tallies : n.tallies = {}) : (x.open n).sound := by
  rw [Bay.sound_iff]
  unfold Bay.open
  dsimp only
  split
  · exact ⟨by simp [Bay.toPaused], fun _ => .inl rfl, fun _ => rfl, by simp [Bay.toPaused, tallies, Tallies.sound]⟩
  · exact ⟨by simp [Bay.toAuthorised], nofun, by simp [Bay.toAuthorised], by simp [Bay.toAuthorised, tallies, Tallies.sound]⟩

/-- With no session counting and its drive open, a bay with no allowance is sound in a state that neither charges nor pauses. -/
theorem sound_of_idle {x : Bay} (allowance : x.allowance = 0) (drive : x.drive = false) (charging : x.state ≠ .charging)
    (paused : x.state ≠ .paused) (tallies : x.session.tallies.sound) : x.sound := by
  rw [Bay.sound_iff]
  exact ⟨by simp [allowance, charging], by simp [drive], by simp [charging, paused], tallies⟩

/-- A sound bay that does not charge has no allowance. -/
theorem Bay.sound.allowance {x : Bay} (h : x.sound) (charging : x.state ≠ .charging) : x.allowance = 0 := by
  obtain ⟨positive, -⟩ := h
  refine Classical.byContradiction fun nonzero => ?_
  exact charging (positive.mp (Nat.pos_of_ne_zero nonzero))

/-- A bay as it enters ISSUING (R47). -/
def Bay.issue (x : Bay) (now : Word) : Bay :=
  { x.attribute with
    state := .issuing, stopDelayTimer := none, session := { x.attribute.session with stopTime := some now } }

theorem bays_enterIssuing (s : State) (b : Fin 12) : (s.enterIssuing b).bays = s.bays.set b ((s.bay b).issue s.clock.siteTime) := rfl

theorem bay_enterIssuing (s : State) (b c : Fin 12) :
    (s.enterIssuing b).bay c = (s.setBay b ((s.bay b).issue s.clock.siteTime)).bay c := rfl

theorem Bay.sound.issue {x : Bay} (h : x.sound) (ready : x.readyToIssue = true) (now : Word) : (x.issue now).sound := by
  obtain ⟨stopping, drive⟩ := isOpen_of_readyToIssue ready
  have allowance := h.allowance (by rw [stopping]; nofun)
  obtain ⟨-, -, -, tallies⟩ := h.attributed
  exact sound_of_idle ((allowance_attribute x).trans allowance) ((drive_attribute x).trans drive) nofun nofun tallies

theorem afterIssuing_cases (x : Bay) : x.afterIssuing = .faulted ∨ x.afterIssuing = .ended ∨ x.afterIssuing = .vacant := by
  unfold Bay.afterIssuing
  split
  · exact .inl rfl
  · split
    · exact .inr (.inl rfl)
    · exact .inr (.inr rfl)

theorem Bay.sound.exit {x : Bay} (h : x.sound) (issuing : x.state = .issuing) : x.exit.sound := by
  have allowance := h.allowance (by rw [issuing]; nofun)
  obtain ⟨-, drives, -, tallies⟩ := h
  have drive : x.drive = false := by
    refine Classical.byContradiction fun closed => ?_
    rw [issuing] at drives
    simpa using drives (by simpa using closed)
  have state : x.exit.state = x.afterIssuing := rfl
  refine sound_of_idle allowance drive ?_ ?_ tallies
  all_goals
    rw [state]
    rcases afterIssuing_cases x with e | e | e <;> rw [e] <;> nofun

theorem Bay.sound.start {x : Bay} (h : x.sound) (safe : x.heldSafe) (c : BayConfig) : (x.start c).sound := by
  obtain ⟨-, drive, allowance⟩ := safe
  obtain ⟨-, -, -, tallies⟩ := h
  refine sound_of_idle allowance drive ?_ ?_ tallies
  all_goals
    unfold Bay.start
    dsimp only
    split <;> nofun

theorem baysSound_unqueued : Unqueued State.baysSound where
  battery f h := ⟨heldSafe_unqueued.battery f h.1, h.2⟩
  log f h := ⟨heldSafe_unqueued.log f h.1, h.2⟩
  issuing {s b} ready h := by
    refine ⟨heldSafe_unqueued.issuing ready h.1, fun c => ?_⟩
    rw [bay_enterIssuing]
    exact forall_bay_setBay (Q := fun _ x => x.sound) ((h.2 b).issue ready _) (fun c _ => h.2 c) c
  opens {s b c quota reference} busy allowed h :=
    ⟨heldSafe_unqueued.opens busy allowed h.1,
      forall_bay_setBay (Q := fun _ x => x.sound) (open_sound _ rfl) (fun c _ => h.2 c)⟩
  exits {s b} due h :=
    ⟨heldSafe_unqueued.exits due h.1,
      forall_bay_setBay (Q := fun _ x => x.sound) ((h.2 b).exit (issuing_of_exitDue due).1) (fun c _ => h.2 c)⟩
  latches running h := ⟨heldSafe_unqueued.latches running h.1, h.2⟩
  stages x round latched h := ⟨heldSafe_unqueued.stages x round latched h.1, h.2⟩
  applies p running h := ⟨heldSafe_unqueued.applies p running h.1, h.2⟩
  receipts reserved uncollected apart h := ⟨heldSafe_unqueued.receipts reserved uncollected apart h.1, h.2⟩
  collects low high h := ⟨heldSafe_unqueued.collects low high h.1, h.2⟩
  site legal h := ⟨heldSafe_unqueued.site legal h.1, h.2⟩
  bayConfig {s b c cap pairWord} legal closed h :=
    ⟨heldSafe_unqueued.bayConfig legal closed h.1,
      forall_bay_setBay (Q := fun _ x => x.sound) (y := { s.bay b with config := c }) (h.2 b) (fun c _ => h.2 c)⟩
  finds ok bytes h := ⟨heldSafe_unqueued.finds ok bytes h.1, h.2⟩
  links notStarting h := ⟨heldSafe_unqueued.links notStarting h.1, h.2⟩
  same h vitals := ⟨heldSafe_unqueued.same h.1 vitals, fun b => by rw [vitals_bay vitals]; exact h.2 b⟩
  turns turn h := ⟨heldSafe_unqueued.turns turn h.1, fun b => (turn b).sound (h.2 b)⟩
  window busy apart h := ⟨heldSafe_unqueued.window busy apart h.1, h.2⟩
  images {s} starting h := by
    refine ⟨heldSafe_unqueued.images starting h.1, fun b => ?_⟩
    obtain ⟨-, -, -, -, -, safe⟩ := h.1 starting
    simp only [State.bay, Fin.getElem_fin, Vector.getElem_ofFn]
    exact (h.2 b).start (safe b) _
  resets h := ⟨heldSafe_unqueued.resets h.1, h.2⟩
  moves guard h := ⟨heldSafe_unqueued.moves guard h.1, h.2⟩

/-! ## After POR -/

theorem bay_afterPor (s : State) (b : Fin 12) : s.afterPor.bay b = (s.bay b).afterPor := by simp [State.afterPor, State.bay]

theorem battery_afterPor (s : State) : s.afterPor.ba.sound :=
  ⟨Nat.zero_le _, by simp [State.afterPor], fun _ => rfl, fun h => absurd rfl h, by simp [State.afterPor], by simp [State.afterPor]⟩

theorem heldSafe_afterPor (s : State) : s.afterPor.heldSafe := by
  refine fun _ => ⟨rfl, rfl, rfl, rfl, rfl, fun b => ?_⟩
  rw [bay_afterPor]
  exact ⟨rfl, rfl, rfl⟩

theorem baysSound_afterPor (s : State) : s.afterPor.baysSound := by
  refine ⟨heldSafe_afterPor s, fun b => ?_⟩
  rw [bay_afterPor]
  exact sound_of_idle rfl rfl nofun nofun ⟨rfl, Nat.zero_le _, Nat.le.refl⟩

theorem baysSound_grants {s : State} (b : Fin 12) (p : PlanBay) (h : s.baysSound) : (s.setBay b ((s.bay b).withPlan p)).baysSound :=
  ⟨heldSafe_grants b p h.1, forall_bay_setBay (Q := fun _ x => x.sound) ((h.2 b).withPlan p) (fun c _ => h.2 c)⟩

end Sys2Proof.Machine
end

section
/-! Invariants of every step: the receipt ring, the two windows, and the configuration with what the preload finds. -/

namespace Sys2Proof.Machine

/-! ## Counting the sessions that hold a reservation (R119) -/

theorem holders_eq (s : State) : s.holders = (s.bays.map fun x => x.state.countsPulses).toList.countP id := by
  unfold State.holders
  rw [← List.countP_eq_length_filter, Vector.toList_map, List.countP_map]
  rfl

theorem holders_of_counts {s t : State} (h : ∀ b, (t.bay b).state.countsPulses = (s.bay b).state.countsPulses) :
    t.holders = s.holders := by
  have same : t.bays.map (fun x => x.state.countsPulses) = s.bays.map fun x => x.state.countsPulses := by
    ext i hi
    simpa [State.bay] using congrArg (· = true) (h ⟨i, hi⟩)
  rw [holders_eq, holders_eq, same]

/-- One bay replaced: the count without the old bay and with the new one. -/
theorem holders_setBay (s : State) (b : Fin 12) (y : Bay) :
    (s.setBay b y).holders + (s.bay b).state.countsPulses.toNat = s.holders + y.state.countsPulses.toNat := by
  have place : b.val < (s.bays.map fun x => x.state.countsPulses).toList.length := by simp
  have count := List.countP_set (p := id) (l := (s.bays.map fun x => x.state.countsPulses).toList) (a := y.state.countsPulses) place
  have here : (s.bays.map fun x => x.state.countsPulses).toList[b.val] = (s.bay b).state.countsPulses := by simp [State.bay]
  have set : ((s.setBay b y).bays.map fun x => x.state.countsPulses).toList =
      (s.bays.map fun x => x.state.countsPulses).toList.set b.val y.state.countsPulses := by
    simp [State.setBay, Vector.toList_set]
  have counted : (s.bay b).state.countsPulses.toNat ≤ (s.bays.map fun x => x.state.countsPulses).toList.countP id := by
    cases holds : (s.bay b).state.countsPulses
    · exact Nat.zero_le _
    · exact List.countP_pos_iff.mpr ⟨_, List.getElem_mem place, by rw [here]; exact holds⟩
  have asNat (k : Bool) : (if id k = true then 1 else 0) = k.toNat := by cases k <;> rfl
  rw [here, asNat, asNat] at count
  rw [holders_eq, holders_eq, set, count]
  omega

theorem holders_pos {s : State} {b : Fin 12} (h : (s.bay b).state.countsPulses = true) : 0 < s.holders := by
  have counted := holders_setBay s b { s.bay b with state := .vacant }
  rw [h] at counted
  simp [BayState.countsPulses] at counted
  omega

theorem holders_zero {s : State} (h : ∀ b, (s.bay b).state.countsPulses = false) : s.holders = 0 := by
  rw [holders_eq, List.countP_eq_zero]
  intro k mem
  obtain ⟨i, hi, rfl⟩ := List.getElem_of_mem mem
  have place : i < 12 := by simpa using hi
  simpa [State.bay] using h ⟨i, place⟩

/-! ## The receipt ring -/

/-- What the ring's invariant reads beside the count of holders. -/
theorem State.ringSound.of_same {s t : State} (h : s.ringSound) (holders : t.holders = s.holders)
    (reserved : t.rw.reserved = s.rw.reserved) (uncollected : t.rw.uncollected = s.rw.uncollected)
    (slots : t.rw.geometry.slots = s.rw.geometry.slots) (issued : t.rw.lastIssued = s.rw.lastIssued)
    (collected : t.rw.lastCollected = s.rw.lastCollected)
    (starting : t.pu.link = .starting → s.pu.link = .starting) (step : s.cu.step = .idle → t.cu.step = .idle) : t.ringSound := by
  unfold State.ringSound at h ⊢
  rw [holders, reserved, uncollected, slots, issued, collected]
  obtain ⟨count, room, sum, top, start⟩ := h
  refine ⟨count, room, sum, top, fun link => ?_⟩
  obtain ⟨idle, rest⟩ := start (starting link)
  exact ⟨step idle, rest⟩

theorem vitals_holders {s t : State} (vitals : t.vitals = s.vitals) : t.holders = s.holders := by
  have same : t.bays = s.bays := congrArg Vitals.bays vitals
  unfold State.holders
  rw [same]

theorem canReserve_of_allowed {s : State} {b : Fin 12} (h : s.authoriseRefusal b = none) :
    s.rw.freeCount ≠ 0 ∧ s.rw.lastIssued + s.rw.reserved ≠ wordMax ∧ ((s.bay b).state = .plugged ∨ (s.bay b).state = .ended) := by
  unfold State.authoriseRefusal at h
  repeat' split at h
  all_goals cases h
  next state can =>
    simp only [Bool.not_eq_true', ReceiptWriter.canReserve, Bool.and_eq_false_iff, bne_eq_false_iff_eq, not_or] at can
    refine ⟨can.1, can.2, ?_⟩
    refine Classical.byContradiction fun neither => ?_
    exact state (not_or.mp neither)

theorem countsPulses_open (x : Bay) (n : Session) : (x.open n).state.countsPulses = true := by
  unfold Bay.open
  dsimp only
  split <;> rfl

theorem state_start (x : Bay) (c : BayConfig) : (x.start c).state = .plugged ∨ (x.start c).state = .vacant := by
  unfold Bay.start
  dsimp only
  split
  · exact .inl rfl
  · exact .inr rfl

theorem ringSound_unqueued : Unqueued State.ringSound where
  battery _ h := h
  log _ h := h
  issuing {s b} ready h := by
    have stopping := (isOpen_of_readyToIssue ready).1
    have counts : (s.bay b).state.countsPulses = true := by simp [stopping, BayState.countsPulses]
    have less := holders_setBay s b ((s.bay b).issue s.clock.siteTime)
    have some := holders_pos counts
    rw [counts, show ((s.bay b).issue s.clock.siteTime).state.countsPulses = false from rfl] at less
    simp only [Bool.toNat_true, Bool.toNat_false] at less
    obtain ⟨count, room, sum, top, start⟩ := h
    have holders : (s.enterIssuing b).holders = (s.setBay b ((s.bay b).issue s.clock.siteTime)).holders := rfl
    refine ⟨?_, ?_, ?_, ?_, fun starting => ?_⟩
    · rw [holders]
      change s.rw.reserved - 1 = _
      omega
    · change s.rw.reserved - 1 + (s.rw.uncollected + 1) ≤ s.rw.geometry.slots
      omega
    · change s.rw.uncollected + 1 + s.rw.lastCollected = s.rw.lastIssued + 1
      omega
    · change s.rw.lastIssued + 1 + (s.rw.reserved - 1) ≤ wordMax
      omega
    · obtain ⟨-, none, -⟩ := start starting
      omega
  opens {s b c quota reference} busy allowed h := by
    obtain ⟨free, last, closed⟩ := canReserve_of_allowed allowed
    have more := holders_setBay s b ((s.bay b).open (s.newSession c quota reference))
    have before : (s.bay b).state.countsPulses = false := by rcases closed with e | e <;> rw [e] <;> rfl
    rw [before, countsPulses_open] at more
    simp only [Bool.toNat_true, Bool.toNat_false] at more
    obtain ⟨count, room, sum, top, start⟩ := h
    unfold ReceiptWriter.freeCount at free
    refine ⟨?_, ?_, sum, ?_, fun starting => absurd (start starting).1 busy⟩
    · change s.rw.reserved + 1 = _
      have holders : (s.openSession b (s.newSession c quota reference)).holders =
        (s.setBay b ((s.bay b).open (s.newSession c quota reference))).holders := rfl
      omega
    · change s.rw.reserved + 1 + s.rw.uncollected ≤ s.rw.geometry.slots
      omega
    · change s.rw.lastIssued + (s.rw.reserved + 1) ≤ wordMax
      omega
  exits {s b} due h := by
    have issuing := (issuing_of_exitDue due).1
    refine h.of_same (holders_of_counts fun c => ?_) rfl rfl rfl rfl rfl id id
    refine forall_bay_setBay (Q := fun d x => x.state.countsPulses = (s.bay d).state.countsPulses) ?_ (fun _ _ => rfl) c
    have state : (s.bay b).exit.state = (s.bay b).afterIssuing := rfl
    rw [state, issuing]
    rcases afterIssuing_cases (s.bay b) with e | e | e <;> rw [e] <;> rfl
  latches _ h := h
  stages _ _ _ h := h
  applies _ _ h := h
  receipts {s g} reserved uncollected _ h := by
    obtain ⟨count, -, sum, top, start⟩ := h
    refine ⟨count, ?_, sum, top, start⟩
    change s.rw.reserved + s.rw.uncollected ≤ g.slots
    omega
  collects {s q} low high h := by
    obtain ⟨count, room, sum, top, start⟩ := h
    refine ⟨count, ?_, Nat.sub_add_cancel high, top, fun starting => ?_⟩
    · change s.rw.reserved + (s.rw.lastIssued - q) ≤ s.rw.geometry.slots
      omega
    · obtain ⟨idle, none, nothing⟩ := start starting
      refine ⟨idle, none, ?_⟩
      change s.rw.lastIssued - q = 0
      omega
  site _ h := h
  bayConfig {s b c cap pairWord} _ _ h := h.of_same (holders_of_counts fun d =>
    forall_bay_setBay (Q := fun d x => x.state.countsPulses = (s.bay d).state.countsPulses) (y := { s.bay b with config := c })
      rfl (fun _ _ => rfl) d) rfl rfl rfl rfl rfl id id
  finds _ _ h := h
  links notStarting h := by
    obtain ⟨count, room, sum, top, -⟩ := h
    exact ⟨count, room, sum, top, fun starting => absurd starting notStarting⟩
  same {s t} h vitals := h.of_same (vitals_holders vitals) (congrArg Vitals.reserved vitals) (congrArg Vitals.uncollected vitals)
    (congrArg (fun v => v.geometry.slots) vitals) (congrArg Vitals.lastIssued vitals) (congrArg Vitals.lastCollected vitals)
    (fun starting => (vitals_link vitals).symm.trans starting) (fun idle => (vitals_step vitals).trans idle)
  turns turn h := h.of_same (holders_of_counts fun b => (turn b).counts) rfl rfl rfl rfl rfl id id
  window _ _ h := h
  images {s} starting h := by
    obtain ⟨-, -, sum, top, start⟩ := h
    obtain ⟨-, reserved, uncollected⟩ := start starting
    refine ⟨?_, ?_, sum, top, nofun⟩
    · refine reserved.trans (holders_zero fun b => ?_).symm
      simp only [State.bay, Fin.getElem_fin, Vector.getElem_ofFn]
      rcases state_start s.bays[b.val] s.sp.found.image.bays[b.val] with e | e <;> rw [e] <;> rfl
    · change s.rw.reserved + s.rw.uncollected ≤ _
      omega
  resets {s} h := by
    refine h.of_same rfl rfl rfl rfl rfl rfl (fun starting => ?_) fun _ => rfl
    cases link : s.pu.link <;> simp [link, LinkState.afterCrst] at starting ⊢
  moves {s step} guard h := by
    obtain ⟨count, room, sum, top, start⟩ := h
    refine ⟨count, room, sum, top, fun starting => ?_⟩
    obtain ⟨idle, rest⟩ := start starting
    rcases guard starting with busy | stays
    · exact absurd idle busy
    · exact ⟨stays, rest⟩

theorem ringSound_afterPor (s : State) : s.afterPor.ringSound := by
  have none : s.afterPor.holders = 0 := holders_zero fun b => by rw [bay_afterPor]; rfl
  exact ⟨none.symm, Nat.le.refl, rfl, Nat.zero_le _, fun _ => ⟨rfl, rfl, rfl⟩⟩

/-- Taking a grant leaves the session as it is open or closed, and counting or not. -/
theorem counts_takeGrant (x : Bay) (grant : Nat) : (x.takeGrant grant).state.countsPulses = x.state.countsPulses := by
  unfold Bay.takeGrant
  split
  case h_1 e => split <;> simp [e, BayState.countsPulses]
  case h_2 e => split <;> simp [e, BayState.countsPulses]
  all_goals rfl

theorem counts_withPlan (x : Bay) (p : PlanBay) : (x.withPlan p).state.countsPulses = x.state.countsPulses :=
  (counts_takeGrant _ _).trans (congrArg _ (state_attribute x))

theorem ringSound_grants {s : State} (b : Fin 12) (p : PlanBay) (h : s.ringSound) :
    (s.setBay b ((s.bay b).withPlan p)).ringSound :=
  h.of_same (holders_of_counts fun c =>
    forall_bay_setBay (Q := fun d x => x.state.countsPulses = (s.bay d).state.countsPulses) (counts_withPlan _ p)
      (fun _ _ => rfl) c) rfl rfl rfl rfl rfl id id

/-! ## What the preload finds (R181) -/

/-- An image of legal configuration, the cross-record check of the pairs apart: what each record carries is in its range. -/
structure Image.inRanges (i : Image) : Prop where
  bays : ∀ b : Fin 12, (i.bays[b]).inRanges = true
  pairs : ∀ p : Fin 6, (i.pairs[p]).cap % 100 = 0 ∧ (i.pairs[p]).cap ≤ 44000
  limit : i.limit ≤ 1000000
  period : 1 ≤ i.period ∧ i.period ≤ 10

theorem Image.inRanges_reset : ({} : Image).inRanges :=
  ⟨fun b => by simp only [Fin.getElem_fin, Vector.getElem_replicate]; decide,
   fun p => by simp, by decide, by decide⟩

theorem siteInRanges_iff (limit period : Nat) :
    siteInRanges limit period = true ↔ limit ≤ 1000000 ∧ 1 ≤ period ∧ period ≤ 10 := by
  simp [siteInRanges, inRange]

theorem inRange100_iff (lo hi n : Nat) : inRange100 lo hi n = true ↔ (lo ≤ n ∧ n ≤ hi) ∧ n % 100 = 0 := by
  simp [inRange100, inRange]

theorem capInRange_legal {cap : Nat} (h : capInRange cap = true) : cap % 100 = 0 ∧ cap ≤ 44000 := by
  unfold capInRange at h
  rcases Bool.or_eq_true_iff.mp h with none | within
  · simp at none; simp [none]
  · obtain ⟨⟨-, high⟩, hundreds⟩ := (inRange100_iff ..).mp within
    exact ⟨hundreds, high⟩

namespace Image.inRanges

variable {i : Image} (h : i.inRanges)
include h

theorem withSite {limit period : Nat} (legal : siteInRanges limit period = true) :
    ({ i with limit := limit, period := period } : Image).inRanges := by
  obtain ⟨low, within⟩ := (siteInRanges_iff ..).mp legal
  exact ⟨h.bays, h.pairs, low, within⟩

theorem withBay (b : Fin 12) {c : BayConfig} (legal : c.inRanges = true) : ({ i with bays := i.bays.set b c } : Image).inRanges := by
  refine ⟨fun d => ?_, h.pairs, h.limit, h.period⟩
  simp only [Fin.getElem_fin, Vector.getElem_set]
  split
  · exact legal
  · exact h.bays d

theorem withPair (p : Fin 6) {c : PairConfig} (legal : c.cap % 100 = 0 ∧ c.cap ≤ 44000) :
    ({ i with pairs := i.pairs.set p c } : Image).inRanges := by
  refine ⟨h.bays, fun q => ?_, h.limit, h.period⟩
  simp only [Fin.getElem_fin, Vector.getElem_set]
  split
  · exact legal
  · exact h.pairs q

end Image.inRanges

/-- Two images that agree in bays, pairs, G and T. -/
theorem Image.inRanges.of_same {i j : Image} (h : i.inRanges) (bays : j.bays = i.bays) (pairs : j.pairs = i.pairs)
    (limit : j.limit = i.limit) (period : j.period = i.period) : j.inRanges :=
  ⟨by rw [bays]; exact h.bays, by rw [pairs]; exact h.pairs, by rw [limit]; exact h.limit, by rw [period]; exact h.period⟩

/-- The images that a judged record gives: accepted, or with the defaults put back. -/
theorem judgeRecord_inRanges {i : Image} (h : i.inRanges) {r : Record} {accepted : Option Image} {rejected : Image}
    (judged : judgeRecord i r = some (accepted, rejected)) : (∀ j, accepted = some j → j.inRanges) ∧ rejected.inRanges := by
  unfold judgeRecord at judged
  dsimp only at judged
  split at judged <;> cases judged
  case h_1.refl =>
    refine ⟨fun j taken => ?_, h.withSite (by decide)⟩
    unfold takeSite at taken
    split at taken <;> cases taken
    next legal => exact h.withSite legal.2
  case h_2.refl =>
    refine ⟨fun j taken => ?_, ?_⟩
    · unfold takeBay at taken
      repeat' split at taken
      all_goals cases taken
      next legal => exact h.withBay _ legal.2
    · unfold dropBay
      repeat' split
      · exact h
      · exact h.withBay _ (by decide)
      · exact h
  case h_3.refl =>
    refine ⟨fun j taken => ?_, ?_⟩
    · unfold takePair at taken
      repeat' split at taken
      all_goals cases taken
      next legal => exact h.withPair _ (capInRange_legal legal.2.1)
    · unfold dropPair
      repeat' split
      · exact h
      · exact h.withPair _ ⟨rfl, Nat.zero_le _⟩
      · exact h
  case h_4.refl =>
    refine ⟨fun j taken => ?_, h.of_same rfl rfl rfl rfl⟩
    unfold takeChannels at taken
    split at taken <;> cases taken
    exact h.of_same rfl rfl rfl rfl
  case h_5.refl =>
    refine ⟨fun j taken => ?_, h.of_same rfl rfl rfl rfl⟩
    unfold takeBattery at taken
    split at taken <;> cases taken
    exact h.of_same rfl rfl rfl rfl
  case h_6.refl =>
    refine ⟨fun j taken => ?_, h.of_same rfl rfl rfl rfl⟩
    unfold takeReceiptWindow at taken
    split at taken <;> cases taken
    exact h.of_same rfl rfl rfl rfl
  case h_7.refl =>
    refine ⟨fun j taken => ?_, h.of_same rfl rfl rfl rfl⟩
    unfold takeSnapshotWindow at taken
    split at taken <;> cases taken
    exact h.of_same rfl rfl rfl rfl
  case h_8.refl =>
    refine ⟨fun j taken => ?_, h.of_same rfl rfl rfl rfl⟩
    unfold takeErrorPolicy at taken
    repeat' split at taken
    all_goals cases taken
    exact h.of_same rfl rfl rfl rfl
  case h_9.refl =>
    refine ⟨fun j taken => ?_, h.of_same rfl rfl rfl rfl⟩
    unfold takeCauseMap at taken
    repeat' split at taken
    all_goals cases taken
    exact h.of_same rfl rfl rfl rfl
  case h_10.refl =>
    refine ⟨fun j taken => ?_, h.of_same rfl rfl rfl rfl⟩
    unfold takeSupplyMap at taken
    repeat' split at taken
    all_goals cases taken
    exact h.of_same rfl rfl rfl rfl

theorem judgedTake_inRanges {j : Judged} (h : j.image.inRanges) (r : Record) : (j.take r).image.inRanges := by
  unfold Judged.take
  split
  · exact h
  case h_2 judged => exact (judgeRecord_inRanges h judged).1 _ rfl
  case h_3 judged => exact (judgeRecord_inRanges h judged).2

/-- The cross-record check of a pair has been passed (R24). -/
def Image.pairFits (i : Image) (p : Fin 6) : Prop :=
  (i.pairs[p]).cap = 0 ∨ max (i.bays[lowerBay p]).pmin (i.bays[higherBay p]).pmin ≤ (i.pairs[p]).cap

theorem checkPair_inRanges {j : Judged} (h : j.image.inRanges) (p : Fin 6) : (j.checkPair p).image.inRanges := by
  unfold Judged.checkPair
  dsimp only
  split
  · exact h
  · exact h.withPair p ⟨rfl, Nat.zero_le _⟩

theorem checkPair_fits (j : Judged) (p : Fin 6) : (j.checkPair p).image.pairFits p := by
  unfold Judged.checkPair
  dsimp only
  split
  case isTrue fits => exact fits
  case isFalse => left; simp

theorem checkPair_keeps {j : Judged} {q : Fin 6} (h : j.image.pairFits q) (p : Fin 6) : (j.checkPair p).image.pairFits q := by
  unfold Judged.checkPair
  dsimp only
  split
  · exact h
  · by_cases e : p = q
    · subst e; left; simp
    · have other : p.val ≠ q.val := fun e' => e (Fin.ext e')
      unfold Image.pairFits at h ⊢
      simpa [Vector.getElem_set_ne _ _ other] using h

/-- After the checks of some pairs, each of them fits. -/
theorem checkPairs_fit (ps : List (Fin 6)) (j : Judged) (q : Fin 6) (h : q ∈ ps ∨ j.image.pairFits q) :
    (ps.foldl Judged.checkPair j).image.pairFits q := by
  induction ps generalizing j with
  | nil => simpa using h
  | cons p ps ih =>
    rw [List.foldl_cons]
    refine ih _ ?_
    rcases h with mem | fits
    · rcases List.mem_cons.mp mem with rfl | later
      · exact .inr (checkPair_fits j _)
      · exact .inl later
    · exact .inr (checkPair_keeps fits p)

theorem checkPairs_inRanges (ps : List (Fin 6)) {j : Judged} (h : j.image.inRanges) :
    (ps.foldl Judged.checkPair j).image.inRanges := by
  induction ps generalizing j with
  | nil => exact h
  | cons p ps ih => exact ih (checkPair_inRanges h p)

theorem judgedTakes_inRanges (rs : List Record) {j : Judged} (h : j.image.inRanges) : (rs.foldl Judged.take j).image.inRanges := by
  induction rs generalizing j with
  | nil => exact h
  | cons r rs ih => exact ih (judgedTake_inRanges h r)

/-- The image that the preload judges has legal configuration, and its windows apart (R24, R57, R110). -/
structure Image.legal (i : Image) : Prop extends i.inRanges where
  fits : ∀ p : Fin 6, i.pairFits p
  apart : windowsMeet i.receipt i.snapshot = false

theorem Image.legal_reset : ({} : Image).legal where
  toinRanges := Image.inRanges_reset
  fits _ := by left; simp
  apart := rfl

theorem checkSnapshot_legal {j : Judged} (ranges : j.image.inRanges) (fits : ∀ p, j.image.pairFits p) :
    j.checkSnapshot.image.legal := by
  unfold Judged.checkSnapshot
  split
  · refine ⟨ranges.of_same rfl rfl rfl rfl, fits, ?_⟩
    unfold windowsMeet
    split
    case h_1 none => cases none
    case h_2 => rfl
  case isFalse apart => exact ⟨ranges, fits, by simpa using apart⟩

/-- The checks across the records leave a legal image. -/
theorem checked_legal {j : Judged} (h : j.image.inRanges) :
    (((List.finRange 6).foldl Judged.checkPair j).checkSnapshot).image.legal :=
  checkSnapshot_legal (checkPairs_inRanges _ h) fun p => checkPairs_fit _ j p (.inl (List.mem_finRange p))

theorem judgeImage_legal (bytes : List Byte) : (judgeImage bytes).image.legal := by
  have taken := judgedTakes_inRanges (walkRecords (imageLength bytes) (bytesAt bytes 6 (imageLength bytes))).1
    (j := {}) Image.inRanges_reset
  unfold judgeImage
  split
  case isFalse => exact Image.legal_reset
  dsimp only
  split
  · exact checked_legal (j := { image := _, bad := _ }) taken
  · exact checked_legal taken

theorem preloaded_legal (ok : Bool) (bytes : List Byte) : (preloaded ok bytes).image.legal := by
  have judged : (if ok then judgeImage bytes else { bad := [0] }).image.legal := by
    split
    · exact judgeImage_legal bytes
    · exact Image.legal_reset
  unfold preloaded
  dsimp only
  split
  · exact judged
  · exact judged

/-! ## The two windows -/

theorem windowsApart_unqueued : Unqueued State.windowsApart where
  battery _ h := h
  log _ h := h
  issuing _ h := h
  opens _ _ h := h
  exits _ h := h
  latches _ h := h
  stages _ _ _ h := h
  applies _ _ h := h
  receipts _ _ apart h := ⟨apart, h.2⟩
  collects _ _ h := h
  site _ h := h
  bayConfig _ _ h := h
  finds ok bytes h := ⟨h.1, (preloaded_legal ok bytes).apart⟩
  links _ h := h
  same {s t} h vitals := by
    have geometry : t.rw.geometry = s.rw.geometry := congrArg Vitals.geometry vitals
    have found : t.sp.found = s.sp.found := congrArg Vitals.found vitals
    unfold State.windowsApart
    rw [geometry, found, vitals_sw vitals]
    exact h
  turns _ h := h
  window _ apart h := ⟨apart, h.2⟩
  images _ h := ⟨h.2, h.2⟩
  resets h := h
  moves _ h := h

/-! ## The configuration -/

theorem configLegal_of_image {i : Image} (h : i.legal) : configLegal i.bays i.pairs i.limit i.period :=
  ⟨h.bays, fun p => ⟨(h.pairs p).1, (h.pairs p).2, h.fits p⟩, h.limit, h.period.1, h.period.2⟩

theorem config_legal {s : State} (h : s.configSound) (b : Fin 12) : (s.bay b).config.inRanges = true := by
  have legal := h.1.1 b
  simpa [State.bay] using legal

/-- The ranges of a bay's own values (R24). -/
theorem BayConfig.pmin_legal {c : BayConfig} (h : c.inRanges = true) :
    c.pmin % 100 = 0 ∧ c.pmin ≤ c.pmax ∧ c.pmax % 100 = 0 ∧ 1400 ≤ c.pmin := by
  unfold BayConfig.inRanges at h
  simp only [Bool.and_eq_true, inRange100_iff] at h
  obtain ⟨⟨⟨⟨⟨⟨low, -⟩, pmin⟩, ⟨le, -⟩, pmax⟩, -⟩, -⟩, -⟩ := h
  exact ⟨pmin, le, pmax, low⟩

theorem isOpen_of_eligible {x : Bay} (h : x.eligible = true) : x.state.isOpen = true := by
  simp only [Bay.eligible, Bool.and_eq_true, Bool.or_eq_true, beq_iff_eq] at h
  obtain ⟨⟨paused | charging, -⟩, -⟩ := h
  · simp [paused, BayState.isOpen]
  · simp [charging, BayState.isOpen]

theorem bay_readInputs (s : State) (b : Fin 12) : s.readInputs.bay b = (s.bay b).latched := by
  simp [State.readInputs, Latched.bay, State.bay]

/-- What is latched under a legal configuration is legal (R59). -/
theorem readInputs_legal {s : State} (h : s.configSound) : s.readInputs.legal := by
  obtain ⟨⟨bays, pairs, -, period, -⟩, -, cls, -⟩ := h
  have own (b : Fin 12) : (s.bay b).config.inRanges = true := by
    have legal := bays b
    simpa [State.bay] using legal
  refine ⟨fun b => ?_, fun b => ?_, fun p => ?_, period⟩
  · rw [bay_readInputs]
    obtain ⟨pmin, le, pmax, low⟩ := BayConfig.pmin_legal (own b)
    exact ⟨pmin, le, pmax, by change 0 < (s.bay b).config.pmin; omega⟩
  · rw [bay_readInputs]
    unfold Bay.latched
    dsimp only
    constructor
    · intro named
      refine Classical.byContradiction fun not => ?_
      simp [not] at named
    · intro eligible
      rw [if_pos eligible]
      exact cls b (isOpen_of_eligible eligible)
  · rw [bay_readInputs, bay_readInputs]
    obtain ⟨hundreds, -, fits⟩ := pairs p
    refine ⟨hundreds, ?_⟩
    simpa [State.bay, Bay.latched, State.readInputs] using fits

theorem configSound_setBay {s : State} (h : s.configSound) {b : Fin 12} {y : Bay} (config : y.config = (s.bay b).config)
    (cls : y.state.isOpen = true → y.session.cls.isSome = true) : (s.setBay b y).configSound := by
  obtain ⟨legal, found, classes, latched⟩ := h
  have same : (s.setBay b y).bays.map Bay.config = s.bays.map Bay.config := by
    ext i hi : 1
    simp only [State.setBay, Vector.getElem_map, Vector.getElem_set]
    split
    case isTrue e => subst e; exact config
    case isFalse => rfl
  refine ⟨?_, found, ?_, latched⟩
  · rw [same]; exact legal
  · exact forall_bay_setBay (Q := fun _ x => x.state.isOpen = true → x.session.cls.isSome = true) cls fun c _ => classes c

theorem lowerBay_of (p : Fin 6) (b : Fin 12) (h : pairOf b = p) :
    (lowerBay p = b ∧ higherBay p = partnerOf b) ∨ (higherBay p = b ∧ lowerBay p = partnerOf b) := by
  subst h
  revert b
  decide

theorem partnerOf_ne (b : Fin 12) : partnerOf b ≠ b := by revert b; decide

theorem pairOf_lowerBay (p : Fin 6) : pairOf (lowerBay p) = p := by revert p; decide

theorem pairOf_higherBay (p : Fin 6) : pairOf (higherBay p) = p := by revert p; decide

/-- SET_BAY past its checks leaves a legal configuration (R24, R25). -/
theorem configLegal_setBay {s : State} {b : Fin 12} {c : BayConfig} {cap pairWord : Word}
    (h : configLegal (s.bays.map Bay.config) s.pairs s.al.limit s.al.period) (legal : s.setBayBad b c cap pairWord = false) :
    configLegal ((s.bays.set b { s.bay b with config := c }).map Bay.config) (s.pairs.set (pairOf b) (s.pairAfter b cap pairWord))
      s.al.limit s.al.period := by
  obtain ⟨bays, pairs, site⟩ := h
  unfold State.setBayBad at legal
  simp only [Bool.or_eq_false_iff, Bool.not_eq_false'] at legal
  obtain ⟨⟨own, part⟩, fits⟩ := legal
  have after (d : Fin 12) : ((s.bays.set b { s.bay b with config := c }).map Bay.config)[d] =
      if d = b then c else (s.bay d).config := by
    simp only [Fin.getElem_fin, Vector.getElem_map, Vector.getElem_set, State.bay]
    by_cases e : d = b
    · subst e; simp
    · have other : b.val ≠ d.val := fun e' => e (Fin.ext e'.symm)
      simp [e, other]
  refine ⟨fun d => ?_, fun p => ?_, site⟩
  · rw [after]
    split
    · exact own
    · have before := bays d
      simpa [State.bay] using before
  · rw [after, after]
    by_cases e : pairOf b = p
    · have mine : (s.pairs.set (pairOf b) (s.pairAfter b cap pairWord))[p] = s.pairAfter b cap pairWord := by
        subst e; simp
      rw [mine]
      have cap_legal : (s.pairAfter b cap pairWord).cap % 100 = 0 ∧ (s.pairAfter b cap pairWord).cap ≤ 44000 := by
        unfold State.pairAfter at fits ⊢
        split
        case isTrue present =>
          simp only [present, Bool.true_and, Bool.or_eq_false_iff, Bool.not_eq_false'] at part
          exact capInRange_legal part.1
        case isFalse => exact ⟨(pairs (pairOf b)).1, (pairs (pairOf b)).2.1⟩
      refine ⟨cap_legal.1, cap_legal.2, ?_⟩
      have partner := partnerOf_ne b
      simp only [Bool.or_eq_true, beq_iff_eq, decide_eq_true_eq] at fits
      rcases lowerBay_of p b e with ⟨lower, higher⟩ | ⟨higher, lower⟩
      · rw [lower, higher, if_pos rfl, if_neg partner]
        exact fits
      · rw [lower, higher, if_pos rfl, if_neg partner, Nat.max_comm]
        exact fits
    · have others : (pairOf b).val ≠ p.val := fun e' => e (Fin.ext e')
      have kept : (s.pairs.set (pairOf b) (s.pairAfter b cap pairWord))[p] = s.pairs[p] := by
        simp [Vector.getElem_set_ne _ _ others]
      have lower : lowerBay p ≠ b := fun e' => e (e' ▸ pairOf_lowerBay p)
      have higher : higherBay p ≠ b := fun e' => e (e' ▸ pairOf_higherBay p)
      rw [kept, if_neg lower, if_neg higher]
      simpa [State.bay] using pairs p

theorem config_attribute (x : Bay) : x.attribute.config = x.config := by
  unfold Bay.attribute
  dsimp only
  split <;> rfl

theorem configSound_unqueued : Unqueued State.configSound where
  battery _ h := h
  log _ h := h
  issuing {s b} ready h := by
    have stopping := (isOpen_of_readyToIssue ready).1
    refine configSound_setBay (y := (s.bay b).issue s.clock.siteTime) h (config_attribute _) fun _ => ?_
    have cls : ((s.bay b).issue s.clock.siteTime).session.cls = (s.bay b).session.cls := by
      simp only [Bay.issue, Bay.attribute]
      split <;> rfl
    rw [cls]
    exact h.2.2.1 b (by simp [stopping, BayState.isOpen])
  opens {s b c quota reference} _ _ h := by
    refine configSound_setBay (y := (s.bay b).open (s.newSession c quota reference)) h ?_ fun _ => ?_
    all_goals
      unfold Bay.open
      dsimp only
      split <;> rfl
  exits {s b} due h := by
    refine configSound_setBay (y := (s.bay b).exit) h rfl fun isOpen => ?_
    exact h.2.2.1 b (by simp [(issuing_of_exitDue due).1, BayState.isOpen])
  latches {s} _ h := ⟨h.1, h.2.1, h.2.2.1, fun l latched => by cases latched; exact readInputs_legal h⟩
  stages _ _ _ h := h
  applies _ _ h := h
  receipts _ _ _ h := h
  collects _ _ h := h
  site {s limit period} legal h := by
    obtain ⟨⟨bays, pairs, -⟩, rest⟩ := h
    exact ⟨⟨bays, pairs, (siteInRanges_iff ..).mp legal⟩, rest⟩
  bayConfig {s b c cap pairWord} legal _ h := by
    obtain ⟨own, found, classes, latched⟩ := h
    exact ⟨configLegal_setBay own legal, found,
      forall_bay_setBay (Q := fun _ x => x.state.isOpen = true → x.session.cls.isSome = true)
        (y := { s.bay b with config := c }) (classes b) (fun c _ => classes c), latched⟩
  finds ok bytes h := ⟨h.1, configLegal_of_image (preloaded_legal ok bytes), h.2.2⟩
  links _ h := h
  same {s t} h vitals := by
    have bays : t.bays = s.bays := congrArg Vitals.bays vitals
    have pairs : t.pairs = s.pairs := congrArg Vitals.pairs vitals
    have limit : t.al.limit = s.al.limit := congrArg Vitals.limit vitals
    have period : t.al.period = s.al.period := congrArg Vitals.period vitals
    have found : t.sp.found = s.sp.found := congrArg Vitals.found vitals
    obtain ⟨own, foundLegal, classes, latched⟩ := h
    refine ⟨?_, ?_, fun b => by rw [vitals_bay vitals]; exact classes b, fun l => by rw [vitals_latched vitals]; exact latched l⟩
    · rw [bays, pairs, limit, period]; exact own
    · rw [found]; exact foundLegal
  turns {s v} turn h := by
    obtain ⟨own, found, classes, latched⟩ := h
    have same : v.map Bay.config = s.bays.map Bay.config := by
      ext i hi : 1
      simpa [State.bay] using (turn ⟨i, hi⟩).config
    refine ⟨?_, found, fun b isOpen => ?_, latched⟩
    · dsimp only; rw [same]; exact own
    · have session := (turn b).session isOpen
      change (v[b]).session.cls.isSome = true
      rw [session.2]
      exact classes b ((turn b).isOpen.mp isOpen)
  window _ _ h := h
  images {s} _ h := by
    obtain ⟨-, found, -, latched⟩ := h
    refine ⟨?_, found, fun b isOpen => ?_, latched⟩
    · have same : (Vector.ofFn fun b : Fin 12 => (s.bay b).start s.sp.found.image.bays[b]).map Bay.config = s.sp.found.image.bays := by
        ext i hi : 1
        simp [Bay.start]
      dsimp only
      rw [same]
      exact found
    · simp only [State.bay, Fin.getElem_fin, Vector.getElem_ofFn] at isOpen
      rcases state_start s.bays[b.val] s.sp.found.image.bays[b.val] with e | e
      all_goals
        rw [e] at isOpen
        cases isOpen
  resets h := h
  moves _ h := h

theorem configSound_afterPor (s : State) : s.afterPor.configSound := by
  refine ⟨⟨fun b => ?_, fun p => ?_, Nat.zero_le _, Nat.le_succ 1, (by decide : (2 : Nat) ≤ 10)⟩,
    configLegal_of_image Image.legal_reset, fun b isOpen => ?_, nofun⟩
  · simp only [State.afterPor, Fin.getElem_fin, Vector.getElem_map, Bay.afterPor]
    decide
  · simp [State.afterPor, State.reset]
  · rw [bay_afterPor] at isOpen
    cases isOpen

theorem config_withPlan (x : Bay) (p : PlanBay) : (x.withPlan p).config = x.config := by
  have kept : (x.keepPortions p).config = x.config := config_attribute x
  unfold Bay.withPlan Bay.takeGrant
  repeat' split
  all_goals exact kept

theorem session_keepPortions (x : Bay) (p : PlanBay) :
    (x.keepPortions p).session.number = x.session.number ∧ (x.keepPortions p).session.cls = x.session.cls := by
  simp only [Bay.keepPortions, Bay.attribute]
  split <;> exact ⟨rfl, rfl⟩

theorem session_withPlan (x : Bay) (p : PlanBay) :
    (x.withPlan p).session.number = x.session.number ∧ (x.withPlan p).session.cls = x.session.cls := by
  unfold Bay.withPlan Bay.takeGrant
  repeat' split
  all_goals exact session_keepPortions x p

theorem issuing_takeGrant (x : Bay) (grant : Nat) : (x.takeGrant grant).state = .issuing ↔ x.state = .issuing := by
  unfold Bay.takeGrant
  split
  case h_1 e => split <;> simp [e]
  case h_2 e => split <;> simp [e]
  all_goals rfl

theorem isOpen_withPlan (x : Bay) (p : PlanBay) : (x.withPlan p).state.isOpen = true ↔ x.state.isOpen = true := by
  have state : (x.keepPortions p).state = x.state := state_attribute x
  rw [isOpen_iff, isOpen_iff, counts_withPlan, Bay.withPlan, issuing_takeGrant, state]

theorem configSound_grants {s : State} (b : Fin 12) (p : PlanBay) (h : s.configSound) :
    (s.setBay b ((s.bay b).withPlan p)).configSound :=
  configSound_setBay h (config_withPlan _ _) fun isOpen => by
    rw [(session_withPlan _ _).2]
    exact h.2.2.1 b ((isOpen_withPlan _ _).mp isOpen)

/-- Settles O59: the elementary changes keep a legal configuration and the windows apart, and so every step does. -/
theorem configurationStaysLegal : Obligations.ConfigurationStaysLegal := fun _ _ steps =>
  ⟨fun h => configSound_unqueued.kept.step (fun _ => configSound_afterPor _) configSound_grants h steps,
   fun h => windowsApart_unqueued.kept.step (fun _ => ⟨rfl, rfl⟩) (fun _ _ h => h) h steps⟩

end Sys2Proof.Machine
end

section
/-! Grants (spec/03 3.6 to 3.8): the order of a list, water-filling (R73), admission (R74), what serving a class gives (R71 to
R76), the caps (R77 to R80), and what a grant of a plan is (R84). -/

namespace Sys2Proof.Machine

/-! ## Putting in order -/

theorem insertBy_perm {α : Type} (before : α → α → Bool) (x : α) (l : List α) : (insertBy before x l).Perm (x :: l) := by
  induction l with
  | nil => exact .refl _
  | cons y ys ih =>
    unfold insertBy
    split
    · exact (ih.cons y).trans (.swap ..)
    · exact .refl _

theorem foldl_insertBy_perm {α : Type} (before : α → α → Bool) (xs acc : List α) :
    (xs.foldl (fun acc x => insertBy before x acc) acc).Perm (acc ++ xs) := by
  induction xs generalizing acc with
  | nil => simp
  | cons x xs ih =>
    rw [List.foldl_cons]
    exact (ih _).trans (((insertBy_perm before x acc).append_right xs).trans List.perm_middle.symm)

theorem sortBy_perm {α : Type} (before : α → α → Bool) (xs : List α) : (sortBy before xs).Perm xs := foldl_insertBy_perm _ xs []

/-- Where a thing goes against those in order: after the ones that stay before it, ahead of the others. -/
theorem insertBy_pairwise {α : Type} {R : α → α → Prop} (trans : ∀ a b c, R a b → R b c → R a c) {before : α → α → Bool} {x : α}
    {l : List α} (sorted : l.Pairwise R) (place : ∀ y ∈ l, if before y x then R y x else R x y) :
    (insertBy before x l).Pairwise R := by
  induction l with
  | nil => simp [insertBy]
  | cons y ys ih =>
    obtain ⟨first, rest⟩ := List.pairwise_cons.mp sorted
    have here := place y (by simp)
    unfold insertBy
    split
    case isTrue ahead =>
      rw [if_pos ahead] at here
      refine List.pairwise_cons.mpr ⟨fun z mem => ?_, ih rest fun z mem => place z (by simp [mem])⟩
      rcases List.mem_cons.mp ((insertBy_perm before x ys).mem_iff.mp mem) with rfl | later
      · exact here
      · exact first z later
    case isFalse behind =>
      rw [if_neg behind] at here
      refine List.pairwise_cons.mpr ⟨fun z mem => ?_, sorted⟩
      rcases List.mem_cons.mp mem with rfl | later
      · exact here
      · exact trans _ _ _ here (first z later)

theorem foldl_insertBy_pairwise {α : Type} {R : α → α → Prop} (trans : ∀ a b c, R a b → R b c → R a c) {before : α → α → Bool}
    (xs acc : List α) (sorted : acc.Pairwise R) (place : ∀ x ∈ xs, ∀ y ∈ acc, if before y x then R y x else R x y)
    (later : xs.Pairwise fun y x => if before y x then R y x else R x y) :
    (xs.foldl (fun acc x => insertBy before x acc) acc).Pairwise R := by
  induction xs generalizing acc with
  | nil => exact sorted
  | cons x xs ih =>
    obtain ⟨first, rest⟩ := List.pairwise_cons.mp later
    refine ih _ (insertBy_pairwise trans sorted (place x (by simp))) (fun z mz y my => ?_) rest
    rcases List.mem_cons.mp ((insertBy_perm before x acc).mem_iff.mp my) with rfl | old
    · exact first z mz
    · exact place z (by simp [mz]) y old

/-- A list is in order once each thing is related to every later one, in the direction its place says. -/
theorem sortBy_pairwise {α : Type} {R : α → α → Prop} (trans : ∀ a b c, R a b → R b c → R a c) {before : α → α → Bool}
    {xs : List α} (later : xs.Pairwise fun y x => if !before x y then R y x else R x y) : (sortBy before xs).Pairwise R :=
  foldl_insertBy_pairwise trans xs [] .nil (by simp) later

theorem sortBy_lt_sorted (xs : List Nat) : (sortBy (fun a b => decide (a < b)) xs).Pairwise (· ≤ ·) := by
  refine sortBy_pairwise (R := fun a b : Nat => a ≤ b) (fun _ _ _ => Nat.le_trans) (List.pairwise_of_forall fun y x => ?_)
  by_cases h : x < y
  · simp [h, Nat.le_of_lt h]
  · simp [h, Nat.le_of_not_lt h]

/-! ## The level of water-filling (R73) -/

theorem waterLevel_pos (q : Nat) (hs : List Nat) : 0 < (waterLevel q hs).2 := by
  induction hs generalizing q with
  | nil => simp [waterLevel]
  | cons h tail ih =>
    cases tail with
    | nil => unfold waterLevel; split <;> simp
    | cons k rest =>
      unfold waterLevel
      split
      · simp
      · exact ih _

/-- A height that the amount covers for every bay is no higher than the level. -/
theorem le_waterLevel {h q : Nat} {hs : List Nat} (nonempty : hs ≠ []) (all : ∀ k ∈ hs, h ≤ k) (covered : h * hs.length ≤ q) :
    h * (waterLevel q hs).2 ≤ (waterLevel q hs).1 := by
  induction hs generalizing q with
  | nil => exact absurd rfl nonempty
  | cons k tail ih =>
    have low : h ≤ k := all k (by simp)
    cases tail with
    | nil =>
      unfold waterLevel
      split
      · simpa using covered
      · simpa using low
    | cons k' rest =>
      unfold waterLevel
      simp only [List.length_cons] at covered
      split
      · exact covered
      case isFalse enough =>
        refine ih (by simp) (fun z mz => all z (by simp [mz])) ?_
        simp only [List.length_cons]
        have split : k * (rest.length + 2) = k * (rest.length + 1) + k := Nat.mul_succ ..
        have grow : h * (rest.length + 1) ≤ k * (rest.length + 1) := Nat.mul_le_mul_right _ low
        omega

theorem sum_min_of_le {d n : Nat} {hs : List Nat} (all : ∀ k ∈ hs, n ≤ k * d) :
    (hs.map fun k => min (k * d) n).sum = hs.length * n := by
  induction hs with
  | nil => simp
  | cons k ks ih =>
    rw [List.map_cons, List.sum_cons, ih fun z mz => all z (by simp [mz]), Nat.min_eq_right (all k (by simp)), List.length_cons,
      Nat.succ_mul, Nat.add_comm]

theorem length_mul_le_sum {n : Nat} {hs : List Nat} (all : ∀ k ∈ hs, n ≤ k) : hs.length * n ≤ hs.sum := by
  induction hs with
  | nil => simp
  | cons k ks ih =>
    have tail := ih fun z mz => all z (List.mem_cons_of_mem _ mz)
    have head := all k List.mem_cons_self
    rw [List.length_cons, List.sum_cons, Nat.succ_mul]
    omega

theorem sum_map_mul (hs : List Nat) (d : Nat) : (hs.map (· * d)).sum = hs.sum * d := by
  induction hs with
  | nil => simp
  | cons k ks ih => rw [List.map_cons, List.sum_cons, List.sum_cons, ih, Nat.add_mul]

/-- The additions at the level make the amount, or all headrooms when it covers them. -/
theorem waterLevel_fills (q : Nat) {hs : List Nat} (sorted : hs.Pairwise (· ≤ ·)) :
    (hs.map fun h => min (h * (waterLevel q hs).2) (waterLevel q hs).1).sum =
      min (q * (waterLevel q hs).2) (hs.sum * (waterLevel q hs).2) := by
  induction hs generalizing q with
  | nil => simp [waterLevel]
  | cons h tail ih =>
    obtain ⟨first, rest⟩ := List.pairwise_cons.mp sorted
    cases tail with
    | nil =>
      unfold waterLevel
      split
      · simp; omega
      · simp; omega
    | cons k rest' =>
      unfold waterLevel
      split
      case isTrue short =>
        have all : ∀ z ∈ h :: k :: rest', q ≤ z * (rest'.length + 2) := fun z mz => by
          have low : h ≤ z := by
            rcases List.mem_cons.mp mz with rfl | later
            · exact Nat.le.refl
            · exact first z later
          exact Nat.le_trans (Nat.le_of_lt short) (Nat.mul_le_mul_right _ low)
        have total : q ≤ (h :: k :: rest').sum := by
          have lows : ∀ z ∈ h :: k :: rest', h ≤ z := fun z mz => by
            rcases List.mem_cons.mp mz with rfl | later
            · exact Nat.le.refl
            · exact first z later
          have sum := length_mul_le_sum lows
          rw [Nat.mul_comm] at sum
          exact Nat.le_trans (Nat.le_of_lt short) sum
        rw [sum_min_of_le all, Nat.min_eq_left (Nat.mul_le_mul_right _ total), Nat.mul_comm]
        rfl
      case isFalse enough =>
        have split : h * (rest'.length + 2) = h * (rest'.length + 1) + h := Nat.mul_succ ..
        have level := le_waterLevel (h := h) (q := q - h) (hs := k :: rest') (by simp) first (by simp only [List.length_cons]; omega)
        have tail := ih (q - h) rest
        have enters : h * (waterLevel (q - h) (k :: rest')).2 ≤ q * (waterLevel (q - h) (k :: rest')).2 :=
          Nat.mul_le_mul_right _ (by omega)
        have whole : (h :: k :: rest').sum * (waterLevel (q - h) (k :: rest')).2 =
            h * (waterLevel (q - h) (k :: rest')).2 + (k :: rest').sum * (waterLevel (q - h) (k :: rest')).2 := by
          rw [List.sum_cons, Nat.add_mul]
        rw [List.map_cons, List.sum_cons, tail, Nat.min_eq_left level, whole, Nat.sub_mul]
        omega

/-! ## Grants that fill an amount (R73) -/

/-- Some grants fill an amount over some bays: a level that makes the additions the amount, and each bay's Pmin and addition
rounded down to 100 W. -/
def Latched.fills (l : Latched) (q : Nat) (bs : List (Fin 12)) (gs : List (Fin 12 × Nat)) : Prop :=
  ∃ n d : Nat, 0 < d ∧
    (bs.map fun b => min ((l.bay b).headroom * d) n).sum = min (q * d) (bs.map fun b => (l.bay b).headroom * d).sum ∧
    gs = bs.map fun b => (b, ((l.bay b).pmin * d + min ((l.bay b).headroom * d) n) / (100 * d) * 100)

theorem waterFill_fills (l : Latched) (q : Nat) (bs : List (Fin 12)) : l.fills q bs (l.waterFill q bs) := by
  have perm := sortBy_perm (fun a b => decide (a < b)) (bs.map fun b => (l.bay b).headroom)
  have level := waterLevel_fills q (sortBy_lt_sorted (bs.map fun b => (l.bay b).headroom))
  refine ⟨_, _, waterLevel_pos q (sortBy (fun a b => decide (a < b)) (bs.map fun b => (l.bay b).headroom)), ?_, rfl⟩
  rw [(perm.map _).sum_nat, perm.sum_nat] at level
  simp only [List.map_map, Function.comp_def] at level
  rw [level, ← sum_map_mul, List.map_map]
  rfl

section Fills

variable {l : Latched} {q : Nat} {bs : List (Fin 12)} {gs : List (Fin 12 × Nat)}

theorem fills_fst (h : l.fills q bs gs) : gs.map Prod.fst = bs := by
  obtain ⟨n, d, -, -, rfl⟩ := h
  simp [Function.comp_def]

theorem mem_of_fills (h : l.fills q bs gs) {b : Fin 12} {g : Nat} (mem : (b, g) ∈ gs) : b ∈ bs := by
  rw [← fills_fst h]
  exact List.mem_map_of_mem (f := Prod.fst) mem

/-- floor100 of a Pmin and an addition within the headroom lies between Pmin and Pmax. -/
theorem floor_within {pmin pmax d a : Nat} (pos : 0 < d) (low : pmin % 100 = 0) (high : pmax % 100 = 0) (le : pmin ≤ pmax)
    (within : a ≤ (pmax - pmin) * d) :
    (pmin * d + a) / (100 * d) * 100 % 100 = 0 ∧ pmin ≤ (pmin * d + a) / (100 * d) * 100 ∧
      (pmin * d + a) / (100 * d) * 100 ≤ pmax := by
  obtain ⟨p, rfl⟩ := Nat.dvd_of_mod_eq_zero low
  obtain ⟨m, rfl⟩ := Nat.dvd_of_mod_eq_zero high
  have hundred : 0 < 100 * d := by omega
  have scaled (k : Nat) : k * (100 * d) = 100 * k * d := (Nat.mul_left_comm ..).trans (Nat.mul_assoc ..).symm
  refine ⟨Nat.mul_mod_left .., ?_, ?_⟩
  · have floor : p ≤ (100 * p * d + a) / (100 * d) :=
      (Nat.le_div_iff_mul_le hundred).mpr (by rw [scaled]; exact Nat.le_add_right ..)
    omega
  · have top : 100 * p * d + a ≤ m * (100 * d) := by
      have whole : 100 * p * d + (100 * m - 100 * p) * d = 100 * m * d := by rw [← Nat.add_mul]; congr 1; omega
      rw [scaled]
      omega
    have floor : (100 * p * d + a) / (100 * d) ≤ m := Nat.div_le_of_le_mul (Nat.le_trans top (Nat.le_of_eq (Nat.mul_comm ..)))
    omega

theorem legal_of_fills (legal : l.legal) (h : l.fills q bs gs) {b : Fin 12} {g : Nat} (mem : (b, g) ∈ gs) :
    g % 100 = 0 ∧ (l.bay b).pmin ≤ g ∧ g ≤ (l.bay b).pmax := by
  obtain ⟨low, le, high, -⟩ := legal.1 b
  obtain ⟨n, d, pos, -, rfl⟩ := h
  obtain ⟨c, -, rfl, rfl⟩ : ∃ c ∈ bs, c = b ∧ _ = g := by simpa using mem
  exact floor_within pos low high le (Nat.min_le_left ..)

/-- Grants that fill an amount take no more than the Pmins and the amount. -/
theorem sum_of_fills (h : l.fills q bs gs) : grantSum gs ≤ l.sumPmin bs + q := by
  obtain ⟨n, d, pos, level, rfl⟩ := h
  have each (cs : List (Fin 12)) :
      (cs.map fun b => ((l.bay b).pmin * d + min ((l.bay b).headroom * d) n) / (100 * d) * 100).sum * d ≤
        l.sumPmin cs * d + (cs.map fun b => min ((l.bay b).headroom * d) n).sum := by
    induction cs with
    | nil => simp
    | cons c cs ih =>
      have floor := Nat.div_mul_le_self ((l.bay c).pmin * d + min ((l.bay c).headroom * d) n) (100 * d)
      unfold Latched.sumPmin at ih ⊢
      simp only [List.map_cons, List.sum_cons, Nat.add_mul]
      rw [← Nat.mul_assoc] at floor
      omega
  have all := each bs
  rw [level] at all
  have amount := Nat.min_le_left (q * d) (bs.map fun b => (l.bay b).headroom * d).sum
  have scaled : grantSum (bs.map fun b => (b, ((l.bay b).pmin * d + min ((l.bay b).headroom * d) n) / (100 * d) * 100)) * d ≤
      (l.sumPmin bs + q) * d := by
    unfold grantSum
    rw [List.map_map, Nat.add_mul]
    exact Nat.le_trans all (Nat.add_le_add_left amount _)
  exact Nat.le_of_mul_le_mul_right scaled pos

end Fills

/-! ## Admission (R74) -/

section Admission

variable (l : Latched)

/-- One bay judged for admission against the running amount. -/
def Latched.joins (r : List (Fin 12) × Nat) (b : Fin 12) : List (Fin 12) × Nat :=
  if (l.bay b).pmin ≤ r.2 then (r.1 ++ [b], r.2 - (l.bay b).pmin) else r

theorem foldl_admit (bs done : List (Fin 12)) (running : Nat) :
    bs.foldl l.joins (done, running) = (done ++ (l.admitBays running bs).1, (l.admitBays running bs).2) := by
  induction bs generalizing done running with
  | nil => simp [Latched.admitBays]
  | cons b bs ih =>
    rw [List.foldl_cons]
    by_cases enters : (l.bay b).pmin ≤ running
    · have admitted : l.joins (done, running) b = (done ++ [b], running - (l.bay b).pmin) := if_pos enters
      rw [admitted, ih]
      simp [Latched.admitBays, enters]
    · have passed : l.joins (done, running) b = (done, running) := if_neg enters
      rw [passed, ih]
      simp [Latched.admitBays, enters]

theorem admitBays_sublist (bs : List (Fin 12)) (running : Nat) : (l.admitBays running bs).1.Sublist bs := by
  induction bs generalizing running with
  | nil => exact .refl _
  | cons b bs ih =>
    unfold Latched.admitBays
    dsimp only
    split
    · exact (ih _).cons_cons b
    · exact (ih _).cons b

theorem admitBays_sum (bs : List (Fin 12)) (running : Nat) :
    l.sumPmin (l.admitBays running bs).1 + (l.admitBays running bs).2 = running := by
  induction bs generalizing running with
  | nil => simp [Latched.admitBays, Latched.sumPmin]
  | cons b bs ih =>
    unfold Latched.admitBays
    dsimp only
    split
    case isTrue enters =>
      have rest := ih (running - (l.bay b).pmin)
      unfold Latched.sumPmin at rest ⊢
      simp only [List.map_cons, List.sum_cons]
      omega
    case isFalse => exact ih running

/-- The order of admission: the higher wait count, then the lower bay number. -/
def Latched.admitsBefore (a b : Fin 12) : Prop :=
  (l.bay b).wait < (l.bay a).wait ∨ ((l.bay a).wait = (l.bay b).wait ∧ a < b)

theorem admissionOrder_sorted {bs : List (Fin 12)} (ascending : bs.Pairwise (· < ·)) :
    (l.admissionOrder bs).Pairwise l.admitsBefore := by
  refine sortBy_pairwise (fun a b c => ?_) (ascending.imp fun {a b} lt => ?_)
  · unfold Latched.admitsBefore
    omega
  · unfold Latched.admitsBefore
    by_cases h : (l.bay a).wait < (l.bay b).wait
    · simp [h]
    · simp only [h, decide_false, Bool.not_false, if_true]
      omega

theorem admissionOrder_perm (bs : List (Fin 12)) : (l.admissionOrder bs).Perm bs := sortBy_perm _ bs

end Admission

/-! ## Serving a class (R71 to R76) -/

section Serving

variable {l : Latched}

theorem classGrants_full {pot : Nat} {bs : List (Fin 12)} (covered : l.sumPmin bs ≤ pot) :
    l.fills (pot - l.sumPmin bs) bs (l.classGrants pot bs) := by
  rw [Latched.classGrants, if_pos covered]
  exact waterFill_fills ..

theorem classGrants_admitted {pot : Nat} {bs : List (Fin 12)} (short : pot < l.sumPmin bs) :
    l.fills (l.admitBays pot (l.admissionOrder bs)).2 (l.admitBays pot (l.admissionOrder bs)).1 (l.classGrants pot bs) := by
  rw [Latched.classGrants, if_neg (Nat.not_le.mpr short)]
  exact waterFill_fills ..

/-- In full or by admission, the grants fill an amount over some of the bays, and the Pmins and the amount come out of the pot. -/
theorem classGrants_fills (l : Latched) (pot : Nat) {bs : List (Fin 12)} (nodup : bs.Nodup) : ∃ q served,
    l.fills q served (l.classGrants pot bs) ∧ served ⊆ bs ∧ served.Nodup ∧ l.sumPmin served + q = pot := by
  by_cases covered : l.sumPmin bs ≤ pot
  · exact ⟨_, bs, classGrants_full covered, List.Subset.refl _, nodup, by omega⟩
  · have perm := admissionOrder_perm l bs
    have sub := admitBays_sublist l (l.admissionOrder bs) pot
    exact ⟨_, _, classGrants_admitted (Nat.not_le.mp covered), fun b mem => perm.mem_iff.mp (sub.subset mem),
      sub.nodup (perm.nodup_iff.mpr nodup), admitBays_sum l ..⟩

theorem mem_members {c : SessionClass} {b : Fin 12} : b ∈ l.members c ↔ (l.bay b).eligible = true ∧ (l.bay b).cls = some c := by
  simp [Latched.members]

theorem members_ascending (l : Latched) (c : SessionClass) : (l.members c).Pairwise (· < ·) :=
  (List.pairwise_lt_finRange 12).filter _

theorem members_nodup (l : Latched) (c : SessionClass) : (l.members c).Nodup := (List.nodup_finRange 12).filter _

/-- The pots left for a class when its turn comes (R71). -/
def Latched.left (l : Latched) (pots : Portions) : SessionClass → Portions
  | .priority => pots
  | .standard => pots.less (l.serving pots).priority.deductions
  | .economy => (pots.less (l.serving pots).priority.deductions).less (l.serving pots).standard.deductions

theorem serving_of (l : Latched) (pots : Portions) (c : SessionClass) : (l.serving pots).of c = l.serve c (l.left pots c) := by
  cases c <;> rfl

/-- What serving gives each class: grants that fill an amount over members of the class. -/
theorem serving_fills (l : Latched) (pots : Portions) (c : SessionClass) : ∃ q served,
    l.fills q served ((l.serving pots).of c).grants ∧ served ⊆ l.members c ∧ served.Nodup ∧
      l.sumPmin served + q = ((l.left pots c).permitted (l.map.set c)).sum := by
  rw [serving_of]
  exact classGrants_fills l _ (members_nodup l c)

theorem member_of_grant {pots : Portions} {c : SessionClass} {b : Fin 12} {g : Nat}
    (mem : (b, g) ∈ ((l.serving pots).of c).grants) : b ∈ l.members c := by
  obtain ⟨q, served, fills, sub, -⟩ := serving_fills l pots c
  exact sub (mem_of_fills fills mem)

theorem mem_grants {v : Serving} {b : Fin 12} {g : Nat} : (b, g) ∈ v.grants ↔ ∃ c, (b, g) ∈ (v.of c).grants := by
  simp only [Serving.grants, List.mem_append]
  constructor
  · rintro ((h | h) | h)
    · exact ⟨.priority, h⟩
    · exact ⟨.standard, h⟩
    · exact ⟨.economy, h⟩
  · rintro ⟨c, h⟩
    cases c
    · exact .inl (.inl h)
    · exact .inl (.inr h)
    · exact .inr h

theorem class_nodup (l : Latched) (pots : Portions) (c : SessionClass) :
    (((l.serving pots).of c).grants.map Prod.fst).Nodup := by
  obtain ⟨q, served, fills, -, nodup, -⟩ := serving_fills l pots c
  rw [fills_fst fills]
  exact nodup

/-- The bays of two classes are apart. -/
theorem class_disjoint (l : Latched) (pots : Portions) {c d : SessionClass} (ne : c ≠ d) :
    ∀ a ∈ ((l.serving pots).of c).grants.map Prod.fst, ∀ b ∈ ((l.serving pots).of d).grants.map Prod.fst, a ≠ b := by
  rintro b inC _ inD rfl
  obtain ⟨⟨_, g⟩, memC, rfl⟩ := List.mem_map.mp inC
  obtain ⟨⟨_, h⟩, memD, same⟩ := List.mem_map.mp inD
  have clsC := (mem_members.mp (member_of_grant memC)).2
  have clsD := (mem_members.mp (member_of_grant memD)).2
  dsimp only at same clsC clsD
  rw [same, clsC] at clsD
  exact ne (Option.some.inj clsD)

theorem grants_nodup (l : Latched) (pots : Portions) : ((l.serving pots).grants.map Prod.fst).Nodup := by
  have apart {c d : SessionClass} (ne : c ≠ d) := class_disjoint l pots ne
  simp only [Serving.grants, List.map_append]
  have first := List.nodup_append.mpr ⟨class_nodup l pots .priority, class_nodup l pots .standard,
    apart (c := .priority) (d := .standard) nofun⟩
  refine List.nodup_append.mpr ⟨first, class_nodup l pots .economy, fun a early b late => ?_⟩
  rcases List.mem_append.mp early with inPriority | inStandard
  · exact apart (c := .priority) (d := .economy) nofun a inPriority b late
  · exact apart (c := .standard) (d := .economy) nofun a inStandard b late

end Serving

theorem grantIn_of_mem {gs : List (Fin 12 × Nat)} (nodup : (gs.map Prod.fst).Nodup) {b : Fin 12} {g : Nat} (mem : (b, g) ∈ gs) :
    grantIn gs b = g := by
  induction gs with
  | nil => cases mem
  | cons a gs ih =>
    rw [List.map_cons, List.nodup_cons] at nodup
    obtain ⟨fresh, nodup⟩ := nodup
    rcases List.mem_cons.mp mem with rfl | later
    · simp [grantIn]
    · have other : a.1 ≠ b := fun e => fresh (e ▸ List.mem_map_of_mem (f := Prod.fst) later)
      have rest := ih nodup later
      unfold grantIn at rest ⊢
      rw [List.find?_cons_of_neg (by simpa using other)]
      exact rest

theorem grantIn_of_not_mem {gs : List (Fin 12 × Nat)} {b : Fin 12} (none : ∀ g, (b, g) ∉ gs) : grantIn gs b = 0 := by
  unfold grantIn
  rw [List.find?_eq_none.mpr]
  · rfl
  · rintro ⟨c, g⟩ mem same
    obtain rfl : c = b := by simpa using same
    exact none g mem

theorem served_iff (v : Serving) (b : Fin 12) : v.served b = true ↔ ∃ c g, (b, g) ∈ (v.of c).grants := by
  unfold Serving.served
  rw [List.any_eq_true]
  constructor
  · rintro ⟨⟨a, g⟩, mem, same⟩
    obtain rfl : a = b := by simpa using same
    obtain ⟨c, inClass⟩ := mem_grants.mp mem
    exact ⟨c, g, inClass⟩
  · rintro ⟨c, g, inClass⟩
    exact ⟨(b, g), mem_grants.mpr ⟨c, inClass⟩, by simp⟩

theorem granted_of_mem {l : Latched} {pots : Portions} {b : Fin 12} {c : SessionClass} {g : Nat}
    (mem : (b, g) ∈ ((l.serving pots).of c).grants) : grantIn (l.serving pots).grants b = g :=
  grantIn_of_mem (grants_nodup l pots) (mem_grants.mpr ⟨c, mem⟩)

theorem granted_of_unserved {v : Serving} {b : Fin 12} (unserved : v.served b = false) : grantIn v.grants b = 0 := by
  refine grantIn_of_not_mem fun g mem => ?_
  obtain ⟨c, inClass⟩ := mem_grants.mp mem
  rw [(served_iff v b).mpr ⟨c, g, inClass⟩] at unserved
  cases unserved

/-- What is granted to a bay is 0, or what its configuration allows at an eligible bay. -/
theorem granted_legal {l : Latched} (legal : l.legal) (pots : Portions) (b : Fin 12) :
    grantIn (l.serving pots).grants b = 0 ∨
      (l.bay b).eligible = true ∧ grantIn (l.serving pots).grants b % 100 = 0 ∧
        (l.bay b).pmin ≤ grantIn (l.serving pots).grants b ∧ grantIn (l.serving pots).grants b ≤ (l.bay b).pmax := by
  cases served : (l.serving pots).served b
  case false => exact .inl (granted_of_unserved served)
  case true =>
    obtain ⟨c, g, mem⟩ := (served_iff _ b).mp served
    obtain ⟨q, bs, fills, -⟩ := serving_fills l pots c
    rw [granted_of_mem mem]
    exact .inr ⟨(mem_members.mp (member_of_grant mem)).1, legal_of_fills legal fills mem⟩

/-! ## Caps (R77 to R80) -/

/-- A grant is 0, or a multiple of 100 between a Pmin and a Pmax. -/
def grantWithin (pmin pmax g : Nat) : Prop := g = 0 ∨ g % 100 = 0 ∧ pmin ≤ g ∧ g ≤ pmax

theorem grantWithin.cut {pmin pmax cap g : Nat} (h : grantWithin pmin pmax g) (hundreds : cap % 100 = 0) (fits : pmin ≤ cap) :
    grantWithin pmin pmax (min g cap) := by
  rcases h with zero | ⟨whole, low, high⟩
  · exact .inl (by omega)
  · exact .inr (by omega)

/-- A grant of a sharing pair (R77). -/
theorem grantWithin.share {pmin pmax cap other g : Nat} (h : pmin % 100 = 0 ∧ g % 100 = 0 ∧ pmin ≤ g ∧ g ≤ pmax) :
    grantWithin pmin pmax (sharedGrant cap pmin other g) := by
  unfold sharedGrant floor100
  right
  omega

/-- The two grants of a capped pair add up to no more than the cap. -/
theorem capPair_within {cap pa pb ga gb : Nat} {lower : Bool} (capped : cap ≠ 0) :
    (capPair cap pa pb lower ga gb).1 + (capPair cap pa pb lower ga gb).2 ≤ cap := by
  unfold capPair
  split
  case isTrue within => dsimp only; omega
  split
  case isTrue lone => dsimp only; omega
  split
  case isTrue shares => dsimp only [sharedGrant, floor100]; omega
  split <;> dsimp only <;> omega

/-- The caps of a pair leave its two grants legal. -/
theorem capPair_legal {cap pa ma pb mb ga gb : Nat} {lower : Bool} (capLegal : cap = 0 ∨ cap % 100 = 0 ∧ pa ≤ cap ∧ pb ≤ cap)
    (pmins : pa % 100 = 0 ∧ pb % 100 = 0) (ha : grantWithin pa ma ga) (hb : grantWithin pb mb gb) :
    grantWithin pa ma (capPair cap pa pb lower ga gb).1 ∧ grantWithin pb mb (capPair cap pa pb lower ga gb).2 := by
  unfold capPair
  split
  · exact ⟨ha, hb⟩
  case isFalse beyond =>
    obtain ⟨hundreds, fa, fb⟩ := capLegal.resolve_left (not_or.mp beyond).1
    split
    · exact ⟨ha.cut hundreds fa, hb.cut hundreds fb⟩
    case isFalse both =>
      obtain ⟨someA, someB⟩ := not_or.mp both
      split
      · exact ⟨.share ⟨pmins.1, ha.resolve_left someA⟩, .share ⟨pmins.2, hb.resolve_left someB⟩⟩
      · split
        · exact ⟨ha.cut hundreds fa, .inl rfl⟩
        · exact ⟨.inl rfl, hb.cut hundreds fb⟩

/-- A bay granted nothing has nothing after the cap. -/
theorem capPair_zero {cap pa pb ga gb : Nat} {lower : Bool} :
    (ga = 0 → (capPair cap pa pb lower ga gb).1 = 0) ∧ (gb = 0 → (capPair cap pa pb lower ga gb).2 = 0) := by
  unfold capPair
  constructor
  all_goals
    intro none
    split
    · exact none
    · simp [none]

section Caps

variable {l : Latched} (legal : l.legal) (round : Word) {g : Fin 12 → Nat}

theorem bay_eq_lower_or_higher (b : Fin 12) :
    (b.val % 2 = 0 ∧ lowerBay (pairOf b) = b) ∨ (b.val % 2 ≠ 0 ∧ higherBay (pairOf b) = b) := by
  revert b
  decide

theorem feederGrant_lower (l : Latched) (round : Word) (g : Fin 12 → Nat) (p : Fin 6) :
    l.feederGrant round g (lowerBay p) = (l.pairGrants round g p).1 := by
  have pair : pairOf (lowerBay p) = p := by revert p; decide
  have even : (lowerBay p).val % 2 = 0 := Nat.mul_mod_right ..
  unfold Latched.feederGrant
  simp only [pair, if_pos even]

theorem feederGrant_higher (l : Latched) (round : Word) (g : Fin 12 → Nat) (p : Fin 6) :
    l.feederGrant round g (higherBay p) = (l.pairGrants round g p).2 := by
  have pair : pairOf (higherBay p) = p := by revert p; decide
  have odd : ¬ (higherBay p).val % 2 = 0 := by simp [higherBay]
  unfold Latched.feederGrant
  simp only [pair, if_neg odd]

include legal in
theorem pairGrants_legal (hg : ∀ b, grantWithin (l.bay b).pmin (l.bay b).pmax (g b)) (p : Fin 6) :
    grantWithin (l.bay (lowerBay p)).pmin (l.bay (lowerBay p)).pmax (l.pairGrants round g p).1 ∧
      grantWithin (l.bay (higherBay p)).pmin (l.bay (higherBay p)).pmax (l.pairGrants round g p).2 := by
  refine capPair_legal ?_ ⟨(legal.1 _).1, (legal.1 _).1⟩ (hg _) (hg _)
  by_cases uncapped : (l.pairs[p]).cap = 0
  · exact .inl uncapped
  · exact .inr (legal.cap_presentable p uncapped)

include legal in
theorem feederGrant_legal (hg : ∀ b, grantWithin (l.bay b).pmin (l.bay b).pmax (g b)) (b : Fin 12) :
    grantWithin (l.bay b).pmin (l.bay b).pmax (l.feederGrant round g b) := by
  obtain ⟨lower, higher⟩ := pairGrants_legal legal round hg (pairOf b)
  rcases bay_eq_lower_or_higher b with ⟨-, e⟩ | ⟨-, e⟩
  · rw [e] at lower
    rw [← e, feederGrant_lower, e]
    exact lower
  · rw [e] at higher
    rw [← e, feederGrant_higher, e]
    exact higher

theorem feederGrant_zero {b : Fin 12} (none : g b = 0) : l.feederGrant round g b = 0 := by
  rcases bay_eq_lower_or_higher b with ⟨-, e⟩ | ⟨-, e⟩
  · rw [← e, feederGrant_lower]
    exact capPair_zero.1 (by rw [e]; exact none)
  · rw [← e, feederGrant_higher]
    exact capPair_zero.2 (by rw [e]; exact none)

/-- HOLD, or a link that is not ATTACHED, cuts a grant to its Pmin (R80). -/
theorem finalGrant_eq (l : Latched) (round : Word) (g : Fin 12 → Nat) (b : Fin 12) : l.finalGrant round g b =
    if l.hold = true ∨ l.attached = false then min (l.feederGrant round g b) (l.bay b).pmin else l.feederGrant round g b := by
  unfold Latched.finalGrant
  simp

include legal in
theorem finalGrant_legal (hg : ∀ b, grantWithin (l.bay b).pmin (l.bay b).pmax (g b)) (b : Fin 12) :
    grantWithin (l.bay b).pmin (l.bay b).pmax (l.finalGrant round g b) ∧
      (l.hold = true ∨ l.attached = false → l.finalGrant round g b = 0 ∨ l.finalGrant round g b = (l.bay b).pmin) := by
  have feeder := feederGrant_legal legal round hg b
  rw [finalGrant_eq]
  split
  case isTrue held =>
    refine ⟨feeder.cut (legal.1 b).1 Nat.le.refl, fun _ => ?_⟩
    rcases feeder with zero | ⟨-, low, -⟩ <;> omega
  case isFalse free => exact ⟨feeder, fun held => absurd held free⟩

theorem finalGrant_zero {b : Fin 12} (none : g b = 0) : l.finalGrant round g b = 0 := by
  rw [finalGrant_eq, feederGrant_zero round none]
  simp

end Caps

/-! ## A plan's grants (R84) -/

section Plan

variable {l : Latched} (x : Nat) (round : Word)

theorem bays_plan (l : Latched) (b : Fin 12) : (l.plan x round).bays[b] =
    l.planBay (l.serving (l.pots x)) (l.finalGrant round (grantIn (l.serving (l.pots x)).grants)) b := by
  simp [Latched.plan]

theorem planBay_of_zero {v : Serving} {grant : Fin 12 → Nat} {b : Fin 12} (none : grant b = 0) : l.planBay v grant b = {} := by
  unfold Latched.planBay
  split
  · rfl
  · rw [if_pos none]

/-- A bay's part of a plan: nothing, or its final grant under the latched session. -/
theorem planBay_cases {v : Serving} {grant : Fin 12 → Nat} {b : Fin 12} {c : SessionClass} (cls : (l.bay b).cls = some c)
    (positive : grant b ≠ 0) : l.planBay v grant b =
      { grant := grant b
        portions := portionsIn (classPortions (v.of c).deductions ((l.members c).map fun b => (b, grant b))) b
        session := (l.bay b).session } := by
  unfold Latched.planBay
  rw [cls]
  dsimp only
  rw [if_neg positive]

/-- A grant above 0 is at an eligible bay, which has a class. -/
theorem class_of_finalGrant (legal : l.legal) {b : Fin 12}
    (positive : l.finalGrant round (grantIn (l.serving (l.pots x)).grants) b ≠ 0) :
    (l.bay b).eligible = true ∧ ∃ c, (l.bay b).cls = some c := by
  rcases granted_legal legal (l.pots x) b with none | ⟨eligible, -⟩
  · exact absurd (finalGrant_zero round none) positive
  · exact ⟨eligible, Option.isSome_iff_exists.mp ((legal.2.1 b).mpr eligible)⟩

theorem grant_plan (legal : l.legal) (b : Fin 12) :
    ((l.plan x round).bays[b]).grant = l.finalGrant round (grantIn (l.serving (l.pots x)).grants) b := by
  rw [bays_plan]
  by_cases none : l.finalGrant round (grantIn (l.serving (l.pots x)).grants) b = 0
  · rw [planBay_of_zero none, none]
  · obtain ⟨-, c, cls⟩ := class_of_finalGrant x round legal none
    rw [planBay_cases cls none]

theorem granted_within (legal : l.legal) (pots : Portions) (b : Fin 12) :
    grantWithin (l.bay b).pmin (l.bay b).pmax (grantIn (l.serving pots).grants b) :=
  (granted_legal legal pots b).imp_right And.right

/-- What a bay's part of a plan is. -/
theorem planGrant_legal (legal : l.legal) (b : Fin 12) :
    let g := ((l.plan x round).bays[b]).grant
    g = 0 ∧ ((l.plan x round).bays[b]).session = none ∨
    (l.bay b).eligible = true ∧ g % 100 = 0 ∧ (l.bay b).pmin ≤ g ∧ g ≤ (l.bay b).pmax ∧
      (l.hold = true ∨ l.attached = false → g = (l.bay b).pmin) ∧ ((l.plan x round).bays[b]).session = (l.bay b).session := by
  dsimp only
  obtain ⟨within, held⟩ := finalGrant_legal legal round (granted_within legal (l.pots x)) b
  by_cases none : l.finalGrant round (grantIn (l.serving (l.pots x)).grants) b = 0
  · left
    rw [bays_plan, planBay_of_zero none]
    exact ⟨rfl, rfl⟩
  · right
    obtain ⟨eligible, c, cls⟩ := class_of_finalGrant x round legal none
    obtain ⟨hundreds, low, high⟩ := within.resolve_left none
    rw [bays_plan, planBay_cases cls none]
    exact ⟨eligible, hundreds, low, high, fun h => (held h).resolve_left none, rfl⟩

theorem planPair_within (legal : l.legal) (p : Fin 6) (capped : (l.pairs[p]).cap ≠ 0) :
    ((l.plan x round).bays[lowerBay p]).grant + ((l.plan x round).bays[higherBay p]).grant ≤ (l.pairs[p]).cap := by
  have pair : (l.pairGrants round (grantIn (l.serving (l.pots x)).grants) p).1 +
      (l.pairGrants round (grantIn (l.serving (l.pots x)).grants) p).2 ≤ (l.pairs[p]).cap := capPair_within capped
  rw [grant_plan x round legal, grant_plan x round legal, finalGrant_eq, finalGrant_eq, feederGrant_lower, feederGrant_higher]
  split <;> omega

end Plan

/-- Settles O42: the grants of a plan bay by bay and pair by pair, then the serving of each class from the pots left to it, and
the caps as the plan applies them. -/
theorem grantsAreLegalAndPairsWithinCaps : Obligations.GrantsAreLegalAndPairsWithinCaps := by
  intro l x round legal p
  refine ⟨planGrant_legal x round legal, planPair_within x round legal, ?_⟩
  intro v granted pmin head fills
  refine ⟨fun c => ?_, served_iff v, fun b c g => granted_of_mem, fun b => granted_of_unserved, fun q => ?_⟩
  · intro left set solar battery grid bs need pot gs total
    have leftOf : left = l.left (l.pots x) c := by cases c <;> rfl
    have setOf : set = l.map.set c := by cases c <;> rfl
    have potOf : ((l.left (l.pots x) c).permitted (l.map.set c)) = { solar := solar, battery := battery, grid := grid } := by
      rw [← leftOf, ← setOf]
      rfl
    have served : v.of c = l.serve c (l.left (l.pots x) c) := serving_of l _ c
    have grants : gs = l.classGrants pot bs := by
      simp only [gs, served, Latched.serve, potOf]
      rfl
    refine ⟨fun covered => ?_, fun short => ?_, ?_⟩
    · rw [grants]
      exact classGrants_full covered
    · refine ⟨l.admissionOrder bs, admissionOrder_perm l bs, admissionOrder_sorted l (members_ascending l c), ?_⟩
      have run : (l.admissionOrder bs).foldl l.joins ([], pot) = l.admitBays pot (l.admissionOrder bs) := by
        rw [foldl_admit]; rfl
      rw [grants]
      have filled := classGrants_admitted (bs := bs) short
      rw [← run] at filled
      exact filled
    · simp only [total, gs, served, Latched.serve, potOf]
      rfl
  · intro r held
    rw [grant_plan x round legal, grant_plan x round legal, finalGrant_eq, finalGrant_eq, feederGrant_lower, feederGrant_higher]
    exact ⟨rfl, rfl⟩

end Sys2Proof.Machine
end

section
/-! Invariants of every step: the allowances. A plan under application knows the sessions it names, as the latched inputs and the
staged plan do. -/

namespace Sys2Proof.Machine

/-! ## What a plan knows -/

/-- A plan knows each session it names: the grant is one that the session's bay allows. -/
def State.knowsPlan (p : Plan) (s : State) : Prop :=
  ∀ (b : Fin 12) (n : Word), (p.bays[b]).session = some n → s.knows b n fun c => c.allows (p.bays[b]).grant

/-- What is known of a session stays known while no more than the sessions opened, and while an open bay under that number was one
before, its configuration the same. -/
theorem State.knows.of_same {s t : State} {b : Fin 12} {n : Word} {Q : BayConfig → Prop} (h : s.knows b n Q)
    (opened : s.opened ≤ t.opened)
    (bay : (t.bay b).state.isOpen = true → (t.bay b).session.number = n →
      (s.bay b).state.isOpen = true ∧ (s.bay b).session.number = n ∧ (t.bay b).config = (s.bay b).config) : t.knows b n Q := by
  obtain ⟨before, allows⟩ := h
  refine ⟨Nat.le_trans before opened, fun isOpen number => ?_⟩
  obtain ⟨wasOpen, same, config⟩ := bay isOpen number
  rw [config]
  exact allows wasOpen same

/-- What the allowances' invariant says beside the sequence of session numbers, a plan under application included. -/
structure State.grantsKnown (p : Plan) (s : State) : Prop where
  charging : ∀ b, (s.bay b).state = .charging → (s.bay b).config.allows (s.bay b).allowance
  numbers : ∀ b, (s.bay b).state.isOpen = true → (s.bay b).session.number.toNat ≤ s.opened
  latched : ∀ l, s.al.latched = some l → ∀ b n, (l.bay b).session = some n →
    s.knows b n fun c => c.pmin = (l.bay b).pmin ∧ c.pmax = (l.bay b).pmax
  staged : ∀ q, s.al.staged = some q → s.knowsPlan q
  applied : s.knowsPlan p

/-- The number the next session takes follows the sessions opened. -/
def State.numbered (s : State) : Prop := s.nextSession.toNat = if s.opened = wordMax then 1 else s.opened + 1

theorem allowancesSound_iff (s : State) : s.allowancesSound ↔ s.numbered ∧ s.grantsKnown (emptyPlan 0) := by
  constructor
  · rintro ⟨charging, numbered, numbers, latched, staged⟩
    exact ⟨numbered, charging, numbers, latched, staged, fun b n named => by simp [emptyPlan] at named⟩
  · rintro ⟨numbered, charging, numbers, latched, staged, -⟩
    exact ⟨charging, numbered, numbers, latched, staged⟩

/-- Grants stay known when no session opens and each bay that is open and charging was so before. -/
theorem State.grantsKnown.of_same {p : Plan} {s t : State} (h : s.grantsKnown p) (opened : t.opened = s.opened)
    (latched : t.al.latched = s.al.latched) (staged : t.al.staged = s.al.staged ∨ t.al.staged = none)
    (bays : ∀ b, (t.bay b).state.isOpen = true → (s.bay b).state.isOpen = true ∧
      (t.bay b).session.number = (s.bay b).session.number ∧ (t.bay b).config = (s.bay b).config)
    (charging : ∀ b, (t.bay b).state = .charging → (t.bay b).config.allows (t.bay b).allowance) : t.grantsKnown p := by
  have known {b : Fin 12} {n : Word} {Q : BayConfig → Prop} (k : s.knows b n Q) : t.knows b n Q :=
    k.of_same (Nat.le_of_eq opened.symm) fun isOpen number => by
      obtain ⟨was, same, config⟩ := bays b isOpen
      exact ⟨was, same.symm.trans number, config⟩
  refine ⟨charging, fun b isOpen => ?_, fun l is b n named => ?_, fun q is b n named => ?_, fun b n named => known (h.applied b n named)⟩
  · obtain ⟨was, same, -⟩ := bays b isOpen
    rw [same, opened]
    exact h.numbers b was
  · exact known (h.latched l (latched.symm.trans is) b n named)
  · rcases staged with same | gone
    · exact known (h.staged q (same.symm.trans is) b n named)
    · rw [gone] at is
      cases is

/-- The same where a bay is replaced. -/
theorem State.grantsKnown.of_setBay {p : Plan} {s t : State} {b : Fin 12} {y : Bay} (h : s.grantsKnown p)
    (bay : ∀ c, t.bay c = (s.setBay b y).bay c) (opened : t.opened = s.opened)
    (latched : t.al.latched = s.al.latched) (staged : t.al.staged = s.al.staged)
    (open' : y.state.isOpen = true → (s.bay b).state.isOpen = true ∧
      y.session.number = (s.bay b).session.number ∧ y.config = (s.bay b).config)
    (charging : y.state = .charging → y.config.allows y.allowance) : t.grantsKnown p :=
  h.of_same opened latched (.inl staged)
    (fun c => by
      rw [bay]
      exact forall_bay_setBay (Q := fun c x => x.state.isOpen = true → (s.bay c).state.isOpen = true ∧
        x.session.number = (s.bay c).session.number ∧ x.config = (s.bay c).config) open' (fun _ _ k => ⟨k, rfl, rfl⟩) c)
    (fun c => by
      rw [bay]
      exact forall_bay_setBay (Q := fun _ x => x.state = .charging → x.config.allows x.allowance) charging
        (fun c _ => h.charging c) c)

/-! ## Session numbers -/

theorem opened_of_vitals {s t : State} (vitals : t.vitals = s.vitals) : t.opened = s.opened := by
  have issued : t.rw.lastIssued = s.rw.lastIssued := congrArg Vitals.lastIssued vitals
  have reserved : t.rw.reserved = s.rw.reserved := congrArg Vitals.reserved vitals
  unfold State.opened
  rw [issued, reserved]

theorem State.numbered.of_same {s t : State} (h : s.numbered) (opened : t.opened = s.opened)
    (next : t.nextSession = s.nextSession) : t.numbered := by
  unfold State.numbered
  rw [opened, next]
  exact h

/-- An AUTHORISE takes the number after the sessions opened, and the next one follows it (R26). -/
theorem State.numbered.opens {s : State} (h : s.numbered) (ring : s.ringSound) {b : Fin 12} (allowed : s.authoriseRefusal b = none)
    (n : Session) : s.nextSession.toNat = s.opened + 1 ∧ (s.openSession b n).opened = s.opened + 1 ∧ (s.openSession b n).numbered := by
  obtain ⟨-, last, -⟩ := canReserve_of_allowed allowed
  have notLast : s.opened ≠ wordMax := last
  have top : s.opened ≤ wordMax := ring.2.2.2.1
  have next : s.nextSession.toNat = s.opened + 1 := by
    have numbered := h
    unfold State.numbered at numbered
    rwa [if_neg notLast] at numbered
  have more : (s.openSession b n).opened = s.opened + 1 := rfl
  refine ⟨next, more, ?_⟩
  change (sessionAfter s.nextSession).toNat = _
  rw [more]
  have maximum : wordMax = 4294967295 := rfl
  unfold sessionAfter
  split
  case isTrue wraps =>
    have value : s.nextSession.toNat = 4294967295 := by rw [wraps]; rfl
    rw [if_pos (by omega)]
    rfl
  case isFalse goes =>
    have below : s.nextSession.toNat ≠ 4294967295 := fun e => goes (BitVec.eq_of_toNat_eq e)
    rw [if_neg (by omega), BitVec.toNat_add]
    have one : (1 : Word).toNat = 1 := rfl
    omega

/-! ## The elementary changes -/

/-- The invariants that keep the allowances sound, a plan under application known. -/
structure State.allowed (p : Plan) (s : State) : Prop where
  ring : s.ringSound
  config : s.configSound
  bays : s.baysSound
  numbered : s.numbered
  known : s.grantsKnown p

theorem opened_enterIssuing {s : State} {b : Fin 12} (ring : s.ringSound) (ready : (s.bay b).readyToIssue = true) :
    (s.enterIssuing b).opened = s.opened := by
  have stopping := (isOpen_of_readyToIssue ready).1
  have some := holders_pos (s := s) (b := b) (by simp [stopping, BayState.countsPulses])
  have count := ring.1
  change s.rw.lastIssued + 1 + (s.rw.reserved - 1) = s.rw.lastIssued + s.rw.reserved
  omega

theorem number_issue (x : Bay) (now : Word) : (x.issue now).session.number = x.session.number := by
  simp only [Bay.issue, Bay.attribute]
  split <;> rfl

theorem known_opens {p : Plan} {s : State} {b : Fin 12} (h : s.allowed p) (allowed : s.authoriseRefusal b = none)
    (c : SessionClass) (quota : Nat) (reference : BitVec 128) :
    (s.openSession b (s.newSession c quota reference)).grantsKnown p := by
  obtain ⟨next, more, -⟩ := h.numbered.opens h.ring allowed (s.newSession c quota reference)
  have opens : ∀ d, (s.openSession b (s.newSession c quota reference)).bay d =
      (s.setBay b ((s.bay b).open (s.newSession c quota reference))).bay d := fun _ => rfl
  have number : ((s.bay b).open (s.newSession c quota reference)).session.number = s.nextSession := by
    unfold Bay.open; dsimp only; split <;> rfl
  have notCharging : ((s.bay b).open (s.newSession c quota reference)).state ≠ .charging := by
    unfold Bay.open; dsimp only; split <;> nofun
  have known {d : Fin 12} {n : Word} {Q : BayConfig → Prop} (k : s.knows d n Q) :
      (s.openSession b (s.newSession c quota reference)).knows d n Q := by
    refine k.of_same (by omega) ?_
    rw [opens]
    refine forall_bay_setBay (Q := fun d x => s.knows d n Q → x.state.isOpen = true → x.session.number = n →
      (s.bay d).state.isOpen = true ∧ (s.bay d).session.number = n ∧ x.config = (s.bay d).config) ?_
      (fun _ _ _ isOpen same => ⟨isOpen, same, rfl⟩) d k
    intro k _ same
    have old := k.1
    rw [← same, number, next] at old
    omega
  refine ⟨fun d => ?_, fun d => ?_, fun l is d n named => known (h.known.latched l is d n named),
    fun q is d n named => known (h.known.staged q is d n named), fun d n named => known (h.known.applied d n named)⟩
  · rw [opens]
    exact forall_bay_setBay (Q := fun _ x => x.state = .charging → x.config.allows x.allowance)
      (fun e => absurd e notCharging) (fun c _ => h.known.charging c) d
  · rw [opens, more]
    refine forall_bay_setBay (Q := fun _ x => x.state.isOpen = true → x.session.number.toNat ≤ s.opened + 1) (fun _ => ?_)
      (fun c _ isOpen => Nat.le_trans (h.known.numbers c isOpen) (Nat.le_succ _)) d
    exact Nat.le_of_eq (by rw [number, next])

theorem known_latches {p : Plan} {s : State} (h : s.grantsKnown p) :
    ({ s with al := { s.al with latched := some s.readInputs } } : State).grantsKnown p := by
  refine ⟨h.charging, h.numbers, fun l is b n named => ?_, h.staged, h.applied⟩
  cases is
  rw [bay_readInputs] at named ⊢
  unfold Bay.latched at named
  dsimp only at named
  split at named
  case isTrue eligible =>
    cases named
    exact ⟨h.numbers b (isOpen_of_eligible eligible), fun _ _ => ⟨rfl, rfl⟩⟩
  case isFalse => cases named

theorem known_stages {p : Plan} {s : State} (h : s.grantsKnown p) (config : s.configSound) {l : Latched}
    (latched : s.al.latched = some l) (x : Nat) (round : Word) :
    ({ s with al := { s.al with staged := some (l.plan x round) } } : State).grantsKnown p := by
  refine ⟨h.charging, h.numbers, h.latched, fun q is b n named => ?_, h.applied⟩
  cases is
  rcases planGrant_legal x round (config.2.2.2 l latched) b with ⟨-, none⟩ | ⟨-, hundreds, low, high, -, session⟩
  · rw [none] at named
    cases named
  · obtain ⟨before, same⟩ := h.latched l latched b n (session.symm.trans named)
    refine ⟨before, fun isOpen number => ?_⟩
    obtain ⟨pmin, pmax⟩ := same isOpen number
    exact ⟨hundreds, Nat.le_trans (Nat.le_of_eq pmin) low, Nat.le_trans high (Nat.le_of_eq pmax.symm)⟩

theorem allowed_unqueued (p : Plan) : Unqueued (State.allowed p) where
  battery f h := ⟨ringSound_unqueued.battery f h.ring, configSound_unqueued.battery f h.config, baysSound_unqueued.battery f h.bays,
    h.numbered, h.known.of_same rfl rfl (.inl rfl) (fun _ k => ⟨k, rfl, rfl⟩) h.known.charging⟩
  log f h := ⟨ringSound_unqueued.log f h.ring, configSound_unqueued.log f h.config, baysSound_unqueued.log f h.bays, h.numbered,
    h.known.of_same rfl rfl (.inl rfl) (fun _ k => ⟨k, rfl, rfl⟩) h.known.charging⟩
  issuing {s b} ready h := by
    have stopping := (isOpen_of_readyToIssue ready).1
    have opened := opened_enterIssuing h.ring ready
    exact ⟨ringSound_unqueued.issuing ready h.ring, configSound_unqueued.issuing ready h.config,
      baysSound_unqueued.issuing ready h.bays, h.numbered.of_same opened rfl,
      h.known.of_setBay (bay_enterIssuing s b) opened rfl rfl
        (fun _ => ⟨by simp [stopping, BayState.isOpen], number_issue .., config_attribute _⟩) nofun⟩
  opens busy allowed h := ⟨ringSound_unqueued.opens busy allowed h.ring, configSound_unqueued.opens busy allowed h.config,
    baysSound_unqueued.opens busy allowed h.bays, (h.numbered.opens h.ring allowed _).2.2, known_opens h allowed _ _ _⟩
  exits {s b} due h := by
    have closed : (s.bay b).exit.state.isOpen = false ∧ (s.bay b).exit.state ≠ .charging := by
      have state : (s.bay b).exit.state = (s.bay b).afterIssuing := rfl
      rw [state]
      rcases afterIssuing_cases (s.bay b) with e | e | e <;> rw [e] <;> exact ⟨rfl, nofun⟩
    refine ⟨ringSound_unqueued.exits due h.ring, configSound_unqueued.exits due h.config, baysSound_unqueued.exits due h.bays,
      h.numbered, h.known.of_setBay (y := (s.bay b).exit) (fun _ => rfl) rfl rfl rfl (fun isOpen => ?_) (fun e => absurd e closed.2)⟩
    rw [closed.1] at isOpen
    cases isOpen
  latches running h := ⟨ringSound_unqueued.latches running h.ring, configSound_unqueued.latches running h.config,
    baysSound_unqueued.latches running h.bays, h.numbered, known_latches h.known⟩
  stages x round latched h := ⟨ringSound_unqueued.stages x round latched h.ring, configSound_unqueued.stages x round latched h.config,
    baysSound_unqueued.stages x round latched h.bays, h.numbered, known_stages h.known h.config latched x round⟩
  applies q running h := ⟨ringSound_unqueued.applies q running h.ring, configSound_unqueued.applies q running h.config,
    baysSound_unqueued.applies q running h.bays, h.numbered,
    h.known.of_same rfl rfl (.inr rfl) (fun _ k => ⟨k, rfl, rfl⟩) h.known.charging⟩
  receipts r u a h := ⟨ringSound_unqueued.receipts r u a h.ring, configSound_unqueued.receipts r u a h.config,
    baysSound_unqueued.receipts r u a h.bays, h.numbered,
    h.known.of_same rfl rfl (.inl rfl) (fun _ k => ⟨k, rfl, rfl⟩) h.known.charging⟩
  collects low high h := ⟨ringSound_unqueued.collects low high h.ring, configSound_unqueued.collects low high h.config,
    baysSound_unqueued.collects low high h.bays, h.numbered,
    h.known.of_same rfl rfl (.inl rfl) (fun _ k => ⟨k, rfl, rfl⟩) h.known.charging⟩
  site legal h := ⟨ringSound_unqueued.site legal h.ring, configSound_unqueued.site legal h.config,
    baysSound_unqueued.site legal h.bays, h.numbered,
    h.known.of_same rfl rfl (.inl rfl) (fun _ k => ⟨k, rfl, rfl⟩) h.known.charging⟩
  bayConfig {s b c cap pairWord} legal closed h := by
    have shut : (s.bay b).state.isOpen = false := (Bool.or_eq_false_iff.mp closed).1
    refine ⟨ringSound_unqueued.bayConfig legal closed h.ring, configSound_unqueued.bayConfig legal closed h.config,
      baysSound_unqueued.bayConfig legal closed h.bays, h.numbered,
      h.known.of_setBay (y := { s.bay b with config := c }) (fun _ => rfl) rfl rfl rfl (fun isOpen => ?_) (fun charging => ?_)⟩
    · rw [shut] at isOpen; cases isOpen
    · dsimp only at charging
      rw [charging] at shut
      cases shut
  finds ok bytes h := ⟨ringSound_unqueued.finds ok bytes h.ring, configSound_unqueued.finds ok bytes h.config,
    baysSound_unqueued.finds ok bytes h.bays, h.numbered,
    h.known.of_same rfl rfl (.inl rfl) (fun _ k => ⟨k, rfl, rfl⟩) h.known.charging⟩
  links out h := ⟨ringSound_unqueued.links out h.ring, configSound_unqueued.links out h.config, baysSound_unqueued.links out h.bays,
    h.numbered, h.known.of_same rfl rfl (.inl rfl) (fun _ k => ⟨k, rfl, rfl⟩) h.known.charging⟩
  same {s t} h vitals := by
    have next : t.nextSession = s.nextSession := congrArg Vitals.nextSession vitals
    refine ⟨ringSound_unqueued.same h.ring vitals, configSound_unqueued.same h.config vitals, baysSound_unqueued.same h.bays vitals,
      h.numbered.of_same (opened_of_vitals vitals) next,
      h.known.of_same (opened_of_vitals vitals) (vitals_latched vitals) (.inl (vitals_staged vitals)) (fun b => ?_) (fun b => ?_)⟩
    · rw [vitals_bay vitals]; exact fun k => ⟨k, rfl, rfl⟩
    · rw [vitals_bay vitals]; exact h.known.charging b
  turns turn h := ⟨ringSound_unqueued.turns turn h.ring, configSound_unqueued.turns turn h.config,
    baysSound_unqueued.turns turn h.bays, h.numbered, h.known.of_same rfl rfl (.inl rfl)
      (fun b isOpen => ⟨(turn b).isOpen.mp isOpen, ((turn b).session isOpen).1, (turn b).config⟩)
      (fun b charging => by
        obtain ⟨was, allowance⟩ := (turn b).charging charging
        have allows := h.known.charging b was
        rw [← (turn b).config, ← allowance] at allows
        exact allows)⟩
  window busy apart h := ⟨ringSound_unqueued.window busy apart h.ring, configSound_unqueued.window busy apart h.config,
    baysSound_unqueued.window busy apart h.bays, h.numbered,
    h.known.of_same rfl rfl (.inl rfl) (fun _ k => ⟨k, rfl, rfl⟩) h.known.charging⟩
  images {s} starting h := by
    have closed : ∀ b, ((s.bay b).start s.sp.found.image.bays[b]).state.isOpen = false ∧
        ((s.bay b).start s.sp.found.image.bays[b]).state ≠ .charging := fun b => by
      rcases state_start (s.bay b) s.sp.found.image.bays[b] with e | e <;> rw [e] <;> exact ⟨rfl, nofun⟩
    have bay (u : State) (bays : u.bays = Vector.ofFn fun b : Fin 12 => (s.bay b).start s.sp.found.image.bays[b]) (b : Fin 12) :
        u.bay b = (s.bay b).start s.sp.found.image.bays[b] := by simp [State.bay, bays]
    refine ⟨ringSound_unqueued.images starting h.ring, configSound_unqueued.images starting h.config,
      baysSound_unqueued.images starting h.bays, h.numbered,
      h.known.of_same rfl rfl (.inl rfl) (fun b isOpen => ?_) (fun b charging => ?_)⟩
    · rw [bay _ rfl, (closed b).1] at isOpen
      cases isOpen
    · rw [bay _ rfl] at charging
      exact absurd charging (closed b).2
  resets h := ⟨ringSound_unqueued.resets h.ring, configSound_unqueued.resets h.config, baysSound_unqueued.resets h.bays, h.numbered,
    h.known.of_same rfl rfl (.inl rfl) (fun _ k => ⟨k, rfl, rfl⟩) h.known.charging⟩
  moves guard h := ⟨ringSound_unqueued.moves guard h.ring, configSound_unqueued.moves guard h.config,
    baysSound_unqueued.moves guard h.bays, h.numbered,
    h.known.of_same rfl rfl (.inl rfl) (fun _ k => ⟨k, rfl, rfl⟩) h.known.charging⟩

/-! ## Plans -/

/-- A bay that takes its grant charges only with one that its configuration allows (R32). -/
theorem charging_withPlan {x : Bay} {p : PlanBay}
    (known : x.state.isOpen = true → p.session = some x.session.number → x.config.allows p.grant)
    (charging : (x.withPlan p).state = .charging) : x.config.allows (x.withPlan p).allowance := by
  have state : (x.keepPortions p).state = x.state := state_attribute x
  have number := (session_keepPortions x p).1
  have used (positive : 0 < (x.keepPortions p).usedGrant p) : x.config.allows ((x.keepPortions p).usedGrant p) := by
    unfold Bay.usedGrant at positive ⊢
    rw [state, number] at positive ⊢
    split at positive
    case isTrue names =>
      rw [if_pos names]
      obtain ⟨isOpen, session⟩ := Bool.and_eq_true_iff.mp names
      exact known isOpen (by simpa using session)
    case isFalse => cases positive
  unfold Bay.withPlan Bay.takeGrant at charging ⊢
  rw [state] at charging ⊢
  cases e : x.state <;> simp only [e] at charging ⊢
  case paused =>
    split at charging
    case isTrue positive => rw [if_pos positive]; exact used positive
    case isFalse => rw [state, e] at charging; cases charging
  case charging =>
    split at charging
    case isTrue positive => rw [if_pos positive]; exact used positive
    case isFalse => cases charging
  all_goals
    rw [state, e] at charging
    cases charging

theorem allowed_byPlans : KeptByPlans State.allowed where
  kept p := (allowed_unqueued p).kept
  grants {p s} b h := by
    refine ⟨ringSound_grants b _ h.ring, configSound_grants b _ h.config, baysSound_grants b _ h.bays, h.numbered,
      h.known.of_setBay (y := (s.bay b).withPlan p.bays[b]) (fun _ => rfl) rfl rfl rfl
        (fun isOpen => ⟨(isOpen_withPlan _ _).mp isOpen, (session_withPlan _ _).1, config_withPlan _ _⟩) (fun charging => ?_)⟩
    rw [config_withPlan]
    exact charging_withPlan (fun isOpen named => (h.known.applied b _ named).2 isOpen rfl) charging
  staged staged h := ⟨h.ring, h.config, h.bays, h.numbered,
    { h.known with applied := h.known.staged _ staged }⟩
  forgets n h := ⟨h.ring, h.config, h.bays, h.numbered,
    { h.known with applied := fun b n named => by simp [emptyPlan] at named }⟩
  restarts {s} h := by
    have vacant : ∀ b, (s.afterPor.bay b).state = .vacant := fun b => by rw [bay_afterPor]; rfl
    refine ⟨ringSound_afterPor s, configSound_afterPor s, baysSound_afterPor s, rfl, fun b charging => ?_, fun b isOpen => ?_,
      nofun, nofun, fun b n named => by simp [emptyPlan] at named⟩
    · rw [vacant] at charging; cases charging
    · rw [vacant] at isOpen; cases isOpen

/-- Settles O57: the bays stay sound by the elementary changes; and with a ring and a configuration that stay sound, so do the
allowances, the plan under application included. -/
theorem baysStaySound : Obligations.BaysStaySound := by
  intro s t steps bays
  refine ⟨baysSound_unqueued.kept.step (fun _ => baysSound_afterPor _) baysSound_grants bays steps, fun ring config allowances => ?_⟩
  obtain ⟨numbered, known⟩ := (allowancesSound_iff s).mp allowances
  obtain ⟨p, allowed⟩ := allowed_byPlans.step (p := emptyPlan 0) ⟨ring, config, bays, numbered, known⟩ steps
  exact (allowancesSound_iff t).mpr ⟨allowed.numbered, (allowed_byPlans.forgets 0 allowed).known⟩

end Sys2Proof.Machine
end

section
/-! Invariants of every step: the Notice Unit and the outbound queue. -/

namespace Sys2Proof.Machine

/-! ## The shadows of the vectors -/

theorem vector_congr {s t : State} (h : t.nu = s.nu) (v : Fin 8) : t.vector v = s.vector v := by simp [State.vector, h]

theorem vector_setVector (s : State) (v w : Fin 8) (x : NoticeVector) :
    (s.setVector v x).vector w = if w = v then x else s.vector w := by
  by_cases e : w = v
  · subst e; simp
  · rw [if_neg e, vector_setVector_of_ne _ e]

/-- Every vector after one is replaced. -/
theorem forall_vector_setVector {s : State} {Q : Fin 8 → NoticeVector → Prop} {v : Fin 8} {x : NoticeVector} (here : Q v x)
    (others : ∀ w, w ≠ v → Q w (s.vector w)) (w : Fin 8) : Q w ((s.setVector v x).vector w) := by
  rw [vector_setVector]
  split
  case isTrue e => subst e; exact here
  case isFalse e => exact others w e

/-- The Notice Unit's invariant in terms of the state. -/
theorem noticeSound_iff (s : State) : s.nu.sound ↔ ∀ v, (s.vector v).pending = true → s.nu.enable = true ∧
    ((s.vector v).masked = true ∨ (s.vector v).usable = false ∨ s.nu.allMask = true) := Iff.rfl

/-- A vector is pending only while notices are enabled: what a change of usability leaves of the invariant. -/
def State.pendingEnabled (s : State) : Prop := ∀ v, (s.vector v).pending = true → s.nu.enable = true

theorem deliverable_false_iff (s : State) (v : Fin 8) : s.deliverable v = false ↔
    s.nu.enable = false ∨ s.nu.allMask = true ∨ (s.vector v).masked = true ∨ (s.vector v).usable = false := by
  simp only [State.deliverable, Bool.and_eq_false_iff, Bool.not_eq_false', or_assoc]

/-! ## Releases (R168) -/

/-- What a release leaves of the Notice Unit: the control word, and each vector's mask and usability; a pending flag only clears. -/
structure ReleasedFrom (s t : State) : Prop where
  enable : t.nu.enable = s.nu.enable
  allMask : t.nu.allMask = s.nu.allMask
  masked : ∀ v, (t.vector v).masked = (s.vector v).masked
  usable : ∀ v, (t.vector v).usable = (s.vector v).usable
  pending : ∀ v, (t.vector v).pending = true → (s.vector v).pending = true

theorem ReleasedFrom.refl (s : State) : ReleasedFrom s s := ⟨rfl, rfl, fun _ => rfl, fun _ => rfl, fun _ => id⟩

theorem ReleasedFrom.trans {s t u : State} (h : ReleasedFrom s t) (g : ReleasedFrom t u) : ReleasedFrom s u :=
  ⟨g.enable.trans h.enable, g.allMask.trans h.allMask, fun v => (g.masked v).trans (h.masked v),
    fun v => (g.usable v).trans (h.usable v), fun v => h.pending v ∘ g.pending v⟩

theorem ReleasedFrom.deliverable {s t : State} (h : ReleasedFrom s t) (v : Fin 8) : t.deliverable v = s.deliverable v := by
  simp only [State.deliverable, h.enable, h.allMask, h.masked, h.usable]

theorem ReleasedFrom.of_setVector (s : State) (v : Fin 8) {x : NoticeVector} (masked : x.masked = (s.vector v).masked)
    (usable : x.usable = (s.vector v).usable) (pending : x.pending = true → (s.vector v).pending = true) :
    ReleasedFrom s (s.setVector v x) where
  enable := rfl
  allMask := rfl
  masked := forall_vector_setVector (Q := fun w y => y.masked = (s.vector w).masked) masked fun _ _ => rfl
  usable := forall_vector_setVector (Q := fun w y => y.usable = (s.vector w).usable) usable fun _ _ => rfl
  pending := forall_vector_setVector (Q := fun w y => y.pending = true → (s.vector w).pending = true) pending fun _ _ => id

theorem releasedFrom_queueNotice (s : State) (v : Fin 8) : ReleasedFrom s (s.queueNotice v) := by
  have queued (e : Entry) : ReleasedFrom s (s.enqueue e) := ⟨rfl, rfl, fun _ => rfl, fun _ => rfl, fun _ => id⟩
  unfold State.queueNotice
  exact (queued _).trans (.of_setVector (s.enqueue _) v (x := { s.vector v with queued := true }) rfl rfl id)

theorem releasedFrom_releaseVector (s : State) (v : Fin 8) : ReleasedFrom s (s.releaseVector v) := by
  have cleared : ReleasedFrom s (s.setVector v { s.vector v with pending := false }) := .of_setVector s v rfl rfl nofun
  unfold State.releaseVector
  dsimp only
  repeat' split
  · exact cleared
  · exact cleared.trans (releasedFrom_queueNotice _ v)
  · exact .refl s

/-- After its release a vector is pending only where it is not deliverable. -/
theorem releaseVector_self (s : State) (v : Fin 8) (pending : ((s.releaseVector v).vector v).pending = true) :
    (s.releaseVector v).deliverable v = false := by
  rw [(releasedFrom_releaseVector s v).deliverable]
  refine Classical.byContradiction fun can => ?_
  have due : ((s.vector v).pending && s.deliverable v) = true := by
    rw [(releasedFrom_releaseVector s v).pending v pending]
    simpa using can
  unfold State.releaseVector at pending
  simp only [due, if_true] at pending
  split at pending <;> simp [State.queueNotice] at pending

theorem foldl_releaseVector (vs : List (Fin 8)) (s : State) : ReleasedFrom s (vs.foldl State.releaseVector s) ∧
    ∀ v ∈ vs, ((vs.foldl State.releaseVector s).vector v).pending = true → s.deliverable v = false := by
  induction vs generalizing s with
  | nil => exact ⟨.refl s, by simp⟩
  | cons w vs ih =>
    obtain ⟨later, rest⟩ := ih (s.releaseVector w)
    have first := releasedFrom_releaseVector s w
    refine ⟨first.trans later, fun v mem pending => ?_⟩
    rw [List.foldl_cons] at pending
    rcases List.mem_cons.mp mem with rfl | more
    · rw [← first.deliverable]
      exact releaseVector_self s v (later.pending v pending)
    · rw [← first.deliverable]
      exact rest v more pending

/-- Released, what is pending under the enable is sound (R168). -/
theorem releaseVectors_sound {s : State} (h : s.pendingEnabled) : s.releaseVectors.nu.sound := by
  obtain ⟨released, stays⟩ := foldl_releaseVector (List.finRange 8) s
  rw [State.releaseVectors, noticeSound_iff]
  intro v pending
  have enabled := h v (released.pending v pending)
  have held := (deliverable_false_iff s v).mp (stays v (List.mem_finRange v) pending)
  refine ⟨released.enable.trans enabled, ?_⟩
  rw [released.masked, released.usable, released.allMask]
  rcases held with off | all | masked | unusable
  · rw [off] at enabled; cases enabled
  · exact .inr (.inr all)
  · exact .inl masked
  · exact .inr (.inl unusable)

/-! ## Causes -/

theorem queueNotice_pending (s : State) (v w : Fin 8) : ((s.queueNotice v).vector w).pending = (s.vector w).pending := by
  unfold State.queueNotice
  exact forall_vector_setVector (s := s.enqueue _) (x := { s.vector v with queued := true }) (Q := fun w y => y.pending = (s.vector w).pending) rfl (fun _ _ => rfl) w

theorem pendingEnabled_fire {s : State} (c : Cause) (h : s.pendingEnabled) : (s.fire c).pendingEnabled := by
  unfold State.fire
  dsimp only
  repeat' split
  · exact h
  · exact h
  · exact fun v pending => h v ((queueNotice_pending ..).symm.trans pending)
  case isFalse on _ =>
    have enabled : s.nu.enable = true := by
      rw [Bool.or_eq_true, not_or] at on
      simpa using on.1
    exact fun _ _ => enabled

theorem noticeSound_fire {s : State} (c : Cause) (h : s.nu.sound) : (s.fire c).nu.sound := by
  unfold State.fire
  dsimp only
  repeat' split
  · exact h
  · exact h
  · have same := releasedFrom_queueNotice s s.nu.causeMap[c.number]
    rw [noticeSound_iff] at h ⊢
    intro v pending
    rw [same.enable, same.masked, same.usable, same.allMask]
    exact h v (same.pending v pending)
  case isFalse on off =>
    have enabled : s.nu.enable = true := by
      rw [Bool.or_eq_true, not_or] at on
      simpa using on.1
    have held := (deliverable_false_iff s s.nu.causeMap[c.number]).mp (by simpa using off)
    rw [noticeSound_iff] at h ⊢
    refine forall_vector_setVector (Q := fun _ y => y.pending = true → s.nu.enable = true ∧
      (y.masked = true ∨ y.usable = false ∨ s.nu.allMask = true)) (fun _ => ⟨enabled, ?_⟩) fun w _ => h w
    rcases held with disabled | all | masked | unusable
    · rw [disabled] at enabled; cases enabled
    · exact .inr (.inr all)
    · exact .inl masked
    · exact .inr (.inl unusable)

/-! ## The Notice Unit under the elementary changes -/

theorem dropPending_enabled (s : State) : s.dropPending.pendingEnabled := by
  unfold State.dropPending
  split
  case isTrue on => exact fun _ _ => on
  case isFalse =>
    intro v pending
    simp [State.vector] at pending

theorem pendingEnabled_judgeUsable {s : State} (h : s.pendingEnabled) : s.judgeUsable.pendingEnabled := by
  intro v pending
  refine h v ?_
  simpa [State.judgeUsable, State.vector] using pending

theorem pendingEnabled_of_sound {s : State} (h : s.nu.sound) : s.pendingEnabled := fun v pending => (h v pending).1

theorem pendingEnabled_of_nu {s t : State} (same : t.nu = s.nu) (h : s.pendingEnabled) : t.pendingEnabled := by
  intro v
  rw [vector_congr same, same]
  exact h v

/-- A predicate of the Notice Unit that causes keep is kept by a completed attempt of an entry. -/
theorem keeps_attemptDone {P : State → Prop} (nu : ∀ {s t : State}, t.nu = s.nu → P s → P t)
    (fire : ∀ {s : State} (c : Cause), P s → P (s.fire c)) {s : State} (e : Entry) (rest : List Entry) (ok : Bool) (h : P s) :
    P (s.attemptDone e rest ok) := by
  have popped : P s.popHead := nu ((popHead_frame s).same .nu (by decide)).symm h
  have report {t : State} (abandoned : Bool) (ht : P t) : P (t.reportEntry e.kind abandoned) := by
    unfold State.reportEntry
    split
    · refine fire _ (nu ?_ ht)
      split <;> rfl
    · unfold State.replyComplete
      dsimp only
      split
      · exact ht
      · refine nu (nu_tryFetch _) (nu (s := State.fire _ .replyReady) rfl (fire _ ?_))
        exact nu (s := t) rfl ht
    all_goals exact ht
  unfold State.attemptDone
  repeat' split
  · exact report _ popped
  · exact nu (s := s) rfl h
  · exact report _ (keeps_record (P := P) (fun _ => nu rfl) fire _ popped)

theorem noticeSound_of_nu {s t : State} (same : t.nu = s.nu) (h : s.nu.sound) : t.nu.sound := by rw [same]; exact h

theorem notices_kept : Kept fun s => s.nu.sound where
  battery _ h := h
  log _ h := h
  issuing _ h := h
  opens _ _ h := h
  exits _ h := h
  latches _ h := h
  stages _ _ _ h := h
  applies _ _ h := h
  receipts _ _ _ h := h
  collects _ _ h := h
  site _ h := h
  bayConfig _ _ h := h
  finds _ _ h := h
  links _ h := h
  quiet h _ nu _ := noticeSound_of_nu nu h
  bays _ h := h
  fire := noticeSound_fire
  watched addr words _ := releaseVectors_sound (dropPending_enabled _)
  windows {s} h := by
    unfold State.windowsChanged
    refine releaseVectors_sound (keeps_foldl (P := State.pendingEnabled) (fun t v ht => ?_) _
      (pendingEnabled_judgeUsable (pendingEnabled_of_sound h)))
    split
    · exact keeps_record (P := State.pendingEnabled) (fun _ => pendingEnabled_of_nu rfl) pendingEnabled_fire _ ht
    · exact ht
  maps _ h := h
  snapshot {s base} i bytes _ h :=
    noticeSound_of_nu ((queueRecord_frame s i _ bytes).same .nu (by decide)).symm h
  newWindow {s w} _ _ h := noticeSound_of_nu (s := s) ((removeEntries_frame s EntryKind.isSnapshot).same .nu (by decide)).symm h
  image {s} _ h := by
    unfold State.takeImage
    exact releaseVectors_sound (pendingEnabled_judgeUsable (fun v pending => pendingEnabled_of_sound h v pending))
  clears _ := by
    intro v pending
    simp [State.clearedByCrst, State.resetNotices] at pending
  steps _ _ _ h := h
  replies _ _ _ _ _ h := h
  begins {s e rest} _ h := by
    unfold State.beginEntry
    split
    · rw [noticeSound_iff]
      exact forall_vector_setVector (Q := fun _ y => y.pending = true → s.nu.enable = true ∧
        (y.masked = true ∨ y.usable = false ∨ s.nu.allMask = true)) (h _) fun w _ => h w
    all_goals exact h
  done ok _ h := keeps_attemptDone (P := fun s => s.nu.sound) noticeSound_of_nu noticeSound_fire _ _ ok h

/-- Settles O56: the elementary changes keep the log, the Notice Unit and the account sound, and so every step does. -/
theorem logNoticesAndBatteryStaySound : Obligations.LogNoticesAndBatteryStaySound := fun _ _ steps =>
  ⟨fun h => errorLog_unqueued.kept.step (fun _ => ErrorLog.sound_reset) (fun _ _ h => h) h steps,
   fun h => notices_kept.step (fun _ v pending => by simp [State.afterPor, State.reset] at pending) (fun _ _ h => h) h steps,
   fun h => battery_unqueued.kept.step (fun _ => battery_afterPor _) (fun _ _ h => h) h steps⟩

end Sys2Proof.Machine
end

section
/-! Invariants of every step: the outbound queue. -/

namespace Sys2Proof.Machine

/-! ## The shape of the queue (R150) -/

/-- Only the head has begun, those that wait have places of their own, and no two report to one block. -/
structure QueueShape (q : List Entry) : Prop where
  tail : ∀ e ∈ q.tail, e.begun = false
  places : ((q.filter fun e => !e.begun).map fun e => e.kind.place).Nodup
  reports : (q.filterMap fun e => e.kind.reportsTo).Nodup

theorem QueueShape.of_sublist {p q : List Entry} (h : QueueShape q) (sub : p.Sublist q) : QueueShape p where
  tail e mem := h.tail e (sub.tail.subset mem)
  places := h.places.sublist ((sub.filter _).map _)
  reports := h.reports.sublist (sub.filterMap _)

theorem filterMap_sublist_of_le {α β : Type} {g k : α → Option β} (h : ∀ a, k a = none ∨ k a = g a) (xs : List α) :
    (xs.filterMap k).Sublist (xs.filterMap g) := by
  induction xs with
  | nil => exact .slnil
  | cons a xs ih =>
    rcases h a with e | e
    · rw [List.filterMap_cons_none e]
      cases g' : g a with
      | none => rwa [List.filterMap_cons_none g']
      | some b => rw [List.filterMap_cons_some g']; exact ih.cons _
    · cases g' : g a with
      | none => rw [List.filterMap_cons_none (e.trans g'), List.filterMap_cons_none g']; exact ih
      | some b => rw [List.filterMap_cons_some (e.trans g'), List.filterMap_cons_some g']; exact ih.cons_cons _

/-- A change of every entry that keeps its place and whether it has begun, and redirects no report. -/
theorem QueueShape.map {q : List Entry} (h : QueueShape q) {f : Entry → Entry} (begun : ∀ e, (f e).begun = e.begun)
    (place : ∀ e, (f e).kind.place = e.kind.place)
    (report : ∀ e, (f e).kind.reportsTo = none ∨ (f e).kind.reportsTo = e.kind.reportsTo) : QueueShape (q.map f) where
  tail e mem := by
    rw [← List.map_tail] at mem
    obtain ⟨d, waits, rfl⟩ := List.mem_map.mp mem
    rw [begun]
    exact h.tail d waits
  places := by
    rw [List.filter_map, List.map_map]
    simpa only [Function.comp_def, begun, place] using h.places
  reports := by
    rw [List.filterMap_map]
    exact h.reports.sublist (filterMap_sublist_of_le report q)

/-- An entry added whose place and report are free. -/
theorem QueueShape.append {q : List Entry} (h : QueueShape q) {e : Entry} (waits : e.begun = false)
    (place : ∀ d ∈ q, d.begun = false → d.kind.place ≠ e.kind.place)
    (report : ∀ x, e.kind.reportsTo = some x → ∀ d ∈ q, d.kind.reportsTo ≠ some x) : QueueShape (q ++ [e]) where
  tail d mem := by
    cases q with
    | nil => simp at mem
    | cons a q =>
      rcases List.mem_append.mp mem with before | new
      · exact h.tail d before
      · rw [List.mem_singleton.mp new]; exact waits
  places := by
    have only : [e].filter (fun e => !e.begun) = [e] := by simp [waits]
    rw [List.filter_append, List.map_append, only]
    refine List.nodup_append.mpr ⟨h.places, by simp, fun k mem k' new same => ?_⟩
    rw [List.map_singleton, List.mem_singleton] at new
    rw [new] at same
    rw [same] at mem
    obtain ⟨d, kept, same⟩ := List.mem_map.mp mem
    obtain ⟨here, waiting⟩ := List.mem_filter.mp kept
    exact place d here (by simpa using waiting) same
  reports := by
    rw [List.filterMap_append]
    refine List.nodup_append.mpr ⟨h.reports, ?_, ?_⟩
    · cases target : e.kind.reportsTo <;> simp [target]
    · rintro x mem _ new rfl
      obtain ⟨d, here, target⟩ := List.mem_filterMap.mp mem
      obtain ⟨d', new', target'⟩ := List.mem_filterMap.mp new
      rw [List.mem_singleton.mp new'] at target'
      exact report x target' d here target

/-- The head begins. -/
theorem QueueShape.begin {e : Entry} {rest : List Entry} (h : QueueShape (e :: rest)) : QueueShape ({ e with begun := true } :: rest) where
  tail := h.tail
  places := (h.of_sublist (List.sublist_cons_self e rest)).places
  reports := h.reports

/-- The head is to be attempted again. -/
theorem QueueShape.again {e : Entry} {rest : List Entry} (h : QueueShape (e :: rest)) (n : Nat) :
    QueueShape ({ e with attempts := n } :: rest) where
  tail := h.tail
  places := by
    have places := h.places
    cases waits : e.begun <;> simpa [waits] using places
  reports := h.reports

/-- At most 35 entries: the head and one at each place. -/
theorem QueueShape.length_le {q : List Entry} (h : QueueShape q) : q.length ≤ 35 := by
  cases q with
  | nil => simp
  | cons e rest =>
    have waiting : rest.filter (fun d => !d.begun) = rest := List.filter_eq_self.mpr fun d mem => by simp [h.tail d mem]
    have places := (h.of_sublist (List.sublist_cons_self e rest)).places
    rw [waiting] at places
    have few := places.length_le_of_subset (l₂ := List.finRange 34) fun k _ => List.mem_finRange k
    simp only [List.length_map, List.length_finRange] at few
    simp only [List.length_cons]
    omega

/-- No two waiting entries have one place: in particular none has the place of a waiting head. -/
theorem QueueShape.place_ne_head {e : Entry} {rest : List Entry} (h : QueueShape (e :: rest)) (waits : e.begun = false) {d : Entry}
    (mem : d ∈ rest) : d.kind.place ≠ e.kind.place := by
  have places := h.places
  rw [List.filter_cons_of_pos (by simp [waits]), List.map_cons] at places
  have waiting : d ∈ rest.filter fun d => !d.begun := List.mem_filter.mpr ⟨mem, by simp [h.tail d mem]⟩
  intro same
  exact (List.nodup_cons.mp places).1 (List.mem_map.mpr ⟨d, waiting, same⟩)

/-- Nothing behind the head reports where it does. -/
theorem QueueShape.report_ne_head {e : Entry} {rest : List Entry} (h : QueueShape (e :: rest)) {x : Fin 13}
    (target : e.kind.reportsTo = some x) {d : Entry} (mem : d ∈ rest) : d.kind.reportsTo ≠ some x := by
  have reports := h.reports
  rw [List.filterMap_cons_some (f := fun e : Entry => e.kind.reportsTo) target] at reports
  exact fun same => (List.nodup_cons.mp reports).1 (List.mem_filterMap.mpr ⟨d, mem, same⟩)

/-! ## The queue with what its entries say -/

/-- The queue's invariant, taken apart. -/
structure State.QueueSound (s : State) : Prop where
  shape : QueueShape s.pu.queue
  accounts : ∀ e ∈ s.pu.queue, s.accounts e
  finished : ∀ b, (s.bay b).receiptFinished = true → (s.bay b).state = .issuing
  messages : s.pu.link = .starting → ∀ e ∈ s.pu.queue, e.kind.isMessage = true

theorem queueSound_iff (s : State) : s.queueSound ↔ s.QueueSound :=
  ⟨fun ⟨tail, places, reports, accounts, finished, messages⟩ => ⟨⟨tail, places, reports⟩, accounts, finished, messages⟩,
    fun h => ⟨h.shape.tail, h.shape.places, h.shape.reports, h.accounts, h.finished, h.messages⟩⟩

section
variable {s : State} {e : Entry}

theorem accounts_receipt {b : Fin 12} {n : Nat} {check : Word} (kind : e.kind = .receipt b n check) :
    s.accounts e ↔ (s.bay b).state = .issuing ∧ (s.bay b).receiptFinished = false := by simp [State.accounts, kind]

theorem accounts_snapshot {i : Fin 13} (kind : e.kind = .snapshot i) :
    s.accounts e ↔ e.begun = true ∨ ∃ a, s.sw.base = some a ∧ e.addr = a + i.val * s.sw.stride := by simp [State.accounts, kind]

theorem accounts_notice {v : Fin 8} (kind : e.kind = .notice v) :
    s.accounts e ↔ e.begun = true ∨ (s.vector v).queued = true := by simp [State.accounts, kind]

theorem accounts_reply (kind : e.kind = .reply false) :
    s.accounts e ↔ ∃ position, s.cu.step = .replying position := by simp [State.accounts, kind]

theorem accounts_orphan (kind : e.kind = .reply true) : s.accounts e ↔ e.begun = true := by simp [State.accounts, kind]

end

/-- What keeps an entry's account, kind by kind. -/
theorem State.accounts_of {s t : State} {e : Entry} (h : s.accounts e)
    (receipts : ∀ b, (s.bay b).state = .issuing → (s.bay b).receiptFinished = false →
      (t.bay b).state = .issuing ∧ (t.bay b).receiptFinished = false)
    (records : e.kind.isSnapshot = true → e.begun = false → t.sw = s.sw)
    (marks : ∀ v, e.kind = .notice v → e.begun = false → (s.vector v).queued = true → (t.vector v).queued = true)
    (replying : ∀ position, s.cu.step = .replying position → e.kind = .reply false → t.cu.step = .replying position) : t.accounts e := by
  cases kind : e.kind with
  | receipt b sequence check =>
    obtain ⟨state, unfinished⟩ := (accounts_receipt kind).mp h
    exact (accounts_receipt kind).mpr (receipts b state unfinished)
  | snapshot i =>
    rw [accounts_snapshot kind] at h ⊢
    cases waits : e.begun with
    | true => exact .inl rfl
    | false => rwa [records (by rw [kind]; rfl) waits, ← waits]
  | notice v =>
    rw [accounts_notice kind] at h ⊢
    cases waits : e.begun with
    | true => exact .inl rfl
    | false => exact .inr (marks v kind waits (h.resolve_left (by simp [waits])))
  | reply orphan =>
    cases orphan with
    | true => exact (accounts_orphan kind).mpr ((accounts_orphan kind).mp h)
    | false =>
      obtain ⟨position, step⟩ := (accounts_reply kind).mp h
      exact (accounts_reply kind).mpr ⟨position, replying position step kind⟩

/-- A change of the bays that keeps issuing and its report, and of the marks that only sets them. -/
theorem State.QueueSound.of_same {s t : State} (h : s.QueueSound) (queue : t.pu.queue = s.pu.queue)
    (issuing : ∀ b, (t.bay b).state = .issuing ↔ (s.bay b).state = .issuing)
    (finished : ∀ b, (t.bay b).receiptFinished = (s.bay b).receiptFinished) (window : t.sw = s.sw)
    (marks : ∀ v, (s.vector v).queued = true → (t.vector v).queued = true)
    (replying : ∀ position, s.cu.step = .replying position → t.cu.step = .replying position)
    (link : t.pu.link = .starting → s.pu.link = .starting) : t.QueueSound where
  shape := by rw [queue]; exact h.shape
  accounts e mem := by
    rw [queue] at mem
    refine State.accounts_of (h.accounts e mem) (fun b state unfinished => ?_) (fun _ _ => window) (fun v _ _ => marks v)
      fun position step _ => replying position step
    exact ⟨(issuing b).mpr state, (finished b).trans unfinished⟩
  finished b := by rw [finished, issuing]; exact h.finished b
  messages starting := by rw [queue]; exact h.messages (link starting)

theorem State.QueueSound.of_vitals {s t : State} (h : s.QueueSound) (vitals : t.vitals = s.vitals) (queue : t.pu.queue = s.pu.queue)
    (marks : ∀ v, (s.vector v).queued = true → (t.vector v).queued = true) : t.QueueSound :=
  h.of_same queue (fun b => by rw [vitals_bay vitals]) (fun b => by rw [vitals_bay vitals]) (vitals_sw vitals) marks
    (fun _ step => (vitals_step vitals).trans step) fun starting => (vitals_link vitals).symm.trans starting

/-- A shadow replaced whose mark stays. -/
theorem marks_setVector {s : State} {v : Fin 8} {x : NoticeVector} (mark : (s.vector v).queued = true → x.queued = true) (w : Fin 8)
    (h : (s.vector w).queued = true) : ((s.setVector v x).vector w).queued = true :=
  forall_vector_setVector (Q := fun w y => (s.vector w).queued = true → y.queued = true) mark (fun _ _ => id) w h

theorem vitals_setVector (s : State) (v : Fin 8) (x : NoticeVector) : (s.setVector v x).vitals = s.vitals := rfl

theorem State.QueueSound.setVector {s : State} (h : s.QueueSound) (v : Fin 8) {x : NoticeVector}
    (mark : (s.vector v).queued = true → x.queued = true) : (s.setVector v x).QueueSound :=
  h.of_vitals rfl rfl (marks_setVector mark)

/-! ## Notices -/

theorem queue_queueNotice (s : State) (v : Fin 8) : (s.queueNotice v).pu.queue =
    s.pu.queue ++ [{ kind := .notice v, addr := noticeAddr (s.vector v).addr, bytes := wordBytes (s.vector v).data }] := rfl

theorem place_notice {k : EntryKind} {v : Fin 8} (h : k.place = EntryKind.place (.notice v)) : k = .notice v := by
  cases k <;> simp only [EntryKind.place, Fin.ext_iff] at h
  case receipt b _ _ => omega
  case snapshot i => omega
  case notice w => rw [Fin.ext (show w.val = v.val by omega)]
  case reply => exact absurd h (by have := v.isLt; simp; omega)

/-- A notice queued for a vector that has none waiting (R167). -/
theorem State.QueueSound.queueNotice {s : State} (h : s.QueueSound) {v : Fin 8} (unmarked : (s.vector v).queued = false) :
    (s.queueNotice v).QueueSound where
  shape := by
    rw [queue_queueNotice]
    refine h.shape.append rfl (fun d mem waits same => ?_) nofun
    rcases (accounts_notice (place_notice same)).mp (h.accounts d mem) with begun | marked
    · rw [waits] at begun; cases begun
    · rw [unmarked] at marked; cases marked
  accounts e mem := by
    rw [queue_queueNotice] at mem
    rcases List.mem_append.mp mem with before | new
    · exact State.accounts_of (h.accounts e before) (fun _ state unfinished => ⟨state, unfinished⟩) (fun _ _ => rfl)
        (fun w _ _ => marks_setVector (s := s) (v := v) (x := { s.vector v with queued := true }) (fun _ => rfl) w)
        fun _ step _ => step
    · rw [List.mem_singleton.mp new]
      exact .inr (by simp [State.queueNotice])
  finished := h.finished
  messages starting e mem := by
    rw [queue_queueNotice] at mem
    rcases List.mem_append.mp mem with before | new
    · exact h.messages starting e before
    · rw [List.mem_singleton.mp new]; rfl

/-- A cause does nothing, queues a notice for a vector that has none, or marks the vector pending (R167). -/
theorem fire_cases (s : State) (c : Cause) : s.fire c = s ∨
    ((s.vector s.nu.causeMap[c.number]).queued = false ∧ s.fire c = s.queueNotice s.nu.causeMap[c.number]) ∨
    s.fire c = s.setVector s.nu.causeMap[c.number] { s.vector s.nu.causeMap[c.number] with pending := true } := by
  unfold State.fire
  dsimp only
  repeat' split
  · exact .inl rfl
  · exact .inl rfl
  case isFalse unmarked => exact .inr (.inl ⟨by simpa using unmarked, rfl⟩)
  · exact .inr (.inr rfl)

theorem State.QueueSound.fire {s : State} (h : s.QueueSound) (c : Cause) : (s.fire c).QueueSound := by
  rcases fire_cases s c with e | ⟨unmarked, e⟩ | e
  · rwa [e]
  · rw [e]; exact h.queueNotice unmarked
  · rw [e]; exact h.setVector _ id

theorem State.QueueSound.record {s : State} (h : s.QueueSound) (r : Recording) : (s.record r).QueueSound :=
  keeps_record (P := State.QueueSound) (fun _ g => g.of_same rfl (fun _ => Iff.rfl) (fun _ => rfl) rfl (fun _ => id) (fun _ => id) id)
    (fun c g => g.fire c) r h

theorem State.QueueSound.releaseVector {s : State} (h : s.QueueSound) (v : Fin 8) : (s.releaseVector v).QueueSound := by
  unfold State.releaseVector
  dsimp only
  have cleared : (s.setVector v { s.vector v with pending := false }).QueueSound := h.setVector v id
  repeat' split
  · exact cleared
  · next unmarked => exact cleared.queueNotice (by simpa using unmarked)
  · exact h

theorem State.QueueSound.releaseVectors {s : State} (h : s.QueueSound) : s.releaseVectors.QueueSound :=
  keeps_foldl (P := State.QueueSound) (fun _ v g => g.releaseVector v) _ h

theorem marks_of_map {s : State} {f : NoticeVector → NoticeVector} (keeps : ∀ x, (f x).queued = x.queued) (v : Fin 8) :
    (s.vector v).queued = true → ((s.nu.vectors.map f)[v]).queued = true := by
  intro marked
  rw [Fin.getElem_fin, Vector.getElem_map, keeps]
  exact marked

theorem State.QueueSound.judgeUsable {s : State} (h : s.QueueSound) : s.judgeUsable.QueueSound :=
  h.of_same rfl (fun _ => Iff.rfl) (fun _ => rfl) rfl (marks_of_map (s := s) fun _ => rfl) (fun _ => id) id

theorem State.QueueSound.dropPending {s : State} (h : s.QueueSound) : s.dropPending.QueueSound := by
  unfold State.dropPending
  split
  · exact h
  · exact h.of_same rfl (fun _ => Iff.rfl) (fun _ => rfl) rfl (marks_of_map (s := s) fun _ => rfl) (fun _ => id) id

theorem queued_takeWord (x : NoticeVector) (place : Nat) (w : WriteWord) : (x.takeWord place w).queued = x.queued := by
  unfold NoticeVector.takeWord
  repeat' split
  all_goals rfl

theorem State.QueueSound.takeWords {s : State} (h : s.QueueSound) (a : Nat) (words : List WriteWord) :
    (s.takeWords a words).QueueSound := by
  unfold State.takeWords
  refine keeps_foldl (P := State.QueueSound) (f := State.judgeVector) (fun t v g => g.setVector v id) _
    (keeps_foldl (P := State.QueueSound) (fun t w g => ?_) _ h)
  unfold State.takeWatchedWord
  repeat' split
  · exact g.setVector _ fun marked => (queued_takeWord ..).trans marked
  · refine g.of_same rfl (fun _ => Iff.rfl) (fun _ => rfl) rfl (fun v marked => ?_) (fun _ => id) id
    unfold NoticeUnit.takeControl State.vector
    dsimp only
    split <;> exact marked
  · exact g

/-! ## Entries of the other kinds -/

theorem place_receipt {k : EntryKind} {b : Fin 12} {n : Nat} {check : Word} (h : k.place = EntryKind.place (.receipt b n check)) :
    ∃ n check, k = .receipt b n check := by
  cases k <;> simp only [EntryKind.place, Fin.ext_iff] at h
  case receipt c n check => exact ⟨n, check, by rw [Fin.ext (show c.val = b.val from h)]⟩
  case snapshot => omega
  case notice => omega
  case reply => exact absurd h (by have := b.isLt; simp; omega)

theorem place_snapshot {k : EntryKind} {i : Fin 13} (h : k.place = EntryKind.place (.snapshot i)) : k = .snapshot i := by
  cases k <;> simp only [EntryKind.place, Fin.ext_iff] at h
  case receipt => omega
  case snapshot j => rw [Fin.ext (show j.val = i.val by omega)]
  case notice => omega
  case reply => exact absurd h (by have := i.isLt; simp; omega)

theorem place_reply {k : EntryKind} {orphan : Bool} (h : k.place = EntryKind.place (.reply orphan)) : ∃ o, k = .reply o := by
  cases k <;> simp only [EntryKind.place, Fin.ext_iff] at h
  case receipt b _ _ => exact absurd h (by have := b.isLt; simp; omega)
  case snapshot i => exact absurd h (by have := i.isLt; simp; omega)
  case notice v => exact absurd h (by have := v.isLt; simp; omega)
  case reply o => exact ⟨o, rfl⟩

theorem reportsTo_bay {k : EntryKind} {b : Fin 12} (h : k.reportsTo = some ⟨b.val, by omega⟩) : ∃ n check, k = .receipt b n check := by
  cases k with
  | receipt c n check =>
    simp only [EntryKind.reportsTo, Option.some.injEq, Fin.mk.injEq] at h
    exact ⟨n, check, by rw [Fin.ext h]⟩
  | snapshot => cases h
  | notice => cases h
  | reply orphan =>
    cases orphan with
    | true => cases h
    | false => exact absurd (congrArg (Option.map Fin.val) h) (by have := b.isLt; simp [EntryKind.reportsTo]; omega)

theorem reportsTo_unit {k : EntryKind} (h : k.reportsTo = some 12) : k = .reply false := by
  cases k with
  | receipt c n check => exact absurd (congrArg (Option.map Fin.val) h) (by have := c.isLt; simp [EntryKind.reportsTo]; omega)
  | snapshot => cases h
  | notice => cases h
  | reply orphan => cases orphan <;> first | rfl | cases h

end Sys2Proof.Machine
end

section
/-! Invariants of every step: the outbound queue, continued, and the receipt ring. -/

namespace Sys2Proof.Machine

/-! ## Entries added -/

/-- A session that counts pulses has no receipt in the queue: ISSUING is what a receipt stands for. -/
theorem State.QueueSound.no_receipt {s : State} (h : s.QueueSound) {b : Fin 12} (state : (s.bay b).state ≠ .issuing) {e : Entry}
    (mem : e ∈ s.pu.queue) {n : Nat} {check : Word} : e.kind ≠ .receipt b n check :=
  fun kind => state ((accounts_receipt kind).mp (h.accounts e mem)).1

/-- While the Command Unit is not replying no reply waits for it. -/
theorem State.QueueSound.no_reply {s : State} (h : s.QueueSound) (quiet : ∀ position, s.cu.step ≠ .replying position) {e : Entry}
    (mem : e ∈ s.pu.queue) : e.kind ≠ .reply false := fun kind => by
  obtain ⟨position, step⟩ := (accounts_reply kind).mp (h.accounts e mem)
  exact quiet position step

/-- One entry added to the queue. -/
theorem State.QueueSound.append {s t : State} {e : Entry} (h : s.QueueSound) (queue : t.pu.queue = s.pu.queue ++ [e])
    (waits : e.begun = false) (place : ∀ d ∈ s.pu.queue, d.begun = false → d.kind.place ≠ e.kind.place)
    (report : ∀ x, e.kind.reportsTo = some x → ∀ d ∈ s.pu.queue, d.kind.reportsTo ≠ some x)
    (before : ∀ d ∈ s.pu.queue, s.accounts d → t.accounts d) (new : t.accounts e)
    (finished : ∀ b, (t.bay b).receiptFinished = true → (t.bay b).state = .issuing)
    (link : t.pu.link = .starting → s.pu.link = .starting)
    (messages : t.pu.link = .starting → e.kind.isMessage = true) : t.QueueSound where
  shape := by rw [queue]; exact h.shape.append waits place report
  accounts d mem := by
    rw [queue] at mem
    rcases List.mem_append.mp mem with old | added
    · exact before d old (h.accounts d old)
    · rw [List.mem_singleton.mp added]; exact new
  finished := finished
  messages starting d mem := by
    rw [queue] at mem
    rcases List.mem_append.mp mem with old | added
    · exact h.messages (link starting) d old
    · rw [List.mem_singleton.mp added]; exact messages starting

theorem receiptFinished_issue (x : Bay) (now : Word) : (x.issue now).receiptFinished = x.receiptFinished := by
  unfold Bay.issue Bay.attribute
  split <;> rfl

/-- The receipt of a bay that enters ISSUING is queued (R47, R124). -/
theorem State.QueueSound.enterIssuing {s : State} (safe : s.heldSafe) (h : s.QueueSound) {b : Fin 12}
    (ready : (s.bay b).readyToIssue = true) : (s.enterIssuing b).QueueSound := by
  have stopping := (isOpen_of_readyToIssue ready).1
  have state : (s.bay b).state ≠ .issuing := by rw [stopping]; nofun
  have starting := safe.notStarting (b := b) (by simp [stopping, BayState.isOpen])
  have unfinished : (s.bay b).receiptFinished = false := by
    refine Classical.byContradiction fun done => ?_
    exact state (h.finished b (by simpa using done))
  have bays (c : Fin 12) : (s.enterIssuing b).bay c = if c = b then (s.bay b).issue s.clock.siteTime else s.bay c := by
    rw [bay_enterIssuing, bay_setBay]
  refine h.append (t := s.enterIssuing b) rfl rfl (fun d mem _ same => ?_) (fun x target d mem same => ?_) (fun d mem account => ?_)
    ?_ (fun c done => ?_) id fun link => absurd link starting
  · obtain ⟨_, _, kind⟩ := place_receipt same
    exact h.no_receipt state mem kind
  · rw [EntryKind.reportsTo, Option.some.injEq] at target
    subst target
    obtain ⟨_, _, kind⟩ := reportsTo_bay same
    exact h.no_receipt state mem kind
  · refine State.accounts_of account (fun c issuing waits => ?_) (fun _ _ => rfl) (fun _ _ _ => id) fun _ step _ => step
    rw [bays, if_neg (by rintro rfl; exact state issuing)]
    exact ⟨issuing, waits⟩
  · refine (accounts_receipt rfl).mpr ?_
    rw [bays, if_pos rfl]
    exact ⟨rfl, by rw [receiptFinished_issue]; exact unfinished⟩
  · rw [bays] at done ⊢
    split
    · rfl
    · next other =>
      rw [if_neg other] at done
      exact h.finished c done

/-- A snapshot handed over is queued, or takes the place of the one that waits for it (R114). -/
theorem State.QueueSound.queueRecord {s : State} (safe : s.heldSafe) (h : s.QueueSound) {base : Nat} (i : Fin 13) (bytes : List Byte)
    (window : s.sw.base = some base) : (s.queueRecord i (base + i.val * s.sw.stride) bytes).QueueSound := by
  have starting : s.pu.link ≠ .starting := fun starting => by
    obtain ⟨-, -, -, -, none, -⟩ := safe starting
    rw [window] at none
    cases none
  unfold State.queueRecord
  split
  · have kind (e : Entry) (target : Nat) : (if e.waitsFor target then { e with bytes := bytes } else e).kind = e.kind := by
      split <;> rfl
    have begun (e : Entry) (target : Nat) : (if e.waitsFor target then { e with bytes := bytes } else e).begun = e.begun := by
      split <;> rfl
    have addr (e : Entry) (target : Nat) : (if e.waitsFor target then { e with bytes := bytes } else e).addr = e.addr := by
      split <;> rfl
    refine ⟨h.shape.map (fun e => begun e _) (fun e => by rw [kind]) fun e => .inr (by rw [kind]), fun e mem => ?_, h.finished,
      fun link => absurd link starting⟩
    obtain ⟨d, old, rfl⟩ := List.mem_map.mp mem
    have account := h.accounts d old
    unfold State.accounts at account ⊢
    rw [kind, begun, addr]
    exact account
  · next fresh =>
    refine h.append (e := { kind := .snapshot i, addr := base + i.val * s.sw.stride, bytes := bytes }) rfl rfl
      (fun d mem waits same => ?_) nofun (fun _ _ account => account) ?_ h.finished id fun link => absurd link starting
    · have kind := place_snapshot same
      rcases (accounts_snapshot kind).mp (h.accounts d mem) with begun | ⟨a, window', target⟩
      · rw [waits] at begun; cases begun
      · rw [window, Option.some.injEq] at window'
        subst window'
        refine fresh (List.any_eq_true.mpr ⟨d, mem, ?_⟩)
        simp [Entry.waitsFor, kind, EntryKind.isSnapshot, waits, target]
    · exact (accounts_snapshot rfl).mpr (.inr ⟨base, window, rfl⟩)

/-- A reply is queued by a Command Unit that was not replying (R161). -/
theorem State.QueueSound.queueReply {s : State} (h : s.QueueSound) (position : BitVec 4) (tag : BitVec 16) (r : Reply)
    (quiet : ∀ position, s.cu.step ≠ .replying position) : (s.queueReply position tag r).QueueSound := by
  refine h.append (t := s.queueReply position tag r) rfl rfl (fun d mem waits same => ?_) (fun x target d mem same => ?_)
    (fun d mem account => ?_) ((accounts_reply rfl).mpr ⟨position, rfl⟩) h.finished id fun _ => rfl
  · obtain ⟨orphan, kind⟩ := place_reply same
    cases orphan with
    | false => exact h.no_reply quiet mem kind
    | true =>
      have begun := (accounts_orphan kind).mp (h.accounts d mem)
      rw [waits] at begun
      cases begun
  · rw [EntryKind.reportsTo, Option.some.injEq] at target
    subst target
    exact h.no_reply quiet mem (reportsTo_unit same)
  · exact State.accounts_of account (fun _ state unfinished => ⟨state, unfinished⟩) (fun _ _ => rfl) (fun _ _ _ => id)
      fun position' step _ => absurd step (quiet position')

/-! ## Entries removed -/

/-- Fewer entries: what is said of those that stay stands. -/
theorem State.QueueSound.fewer {s t : State} (h : s.QueueSound) (queue : t.pu.queue.Sublist s.pu.queue)
    (accounts : ∀ e ∈ t.pu.queue, s.accounts e → t.accounts e)
    (finished : ∀ b, (t.bay b).receiptFinished = true → (t.bay b).state = .issuing)
    (link : t.pu.link = .starting → s.pu.link = .starting) : t.QueueSound where
  shape := h.shape.of_sublist queue
  accounts e mem := accounts e mem (h.accounts e (queue.subset mem))
  finished := finished
  messages starting e mem := h.messages (link starting) e (queue.subset mem)

/-- A new snapshot window: the records that wait for the old one are dropped (R115). -/
theorem State.QueueSound.newWindow {s : State} (h : s.QueueSound) (w : SnapshotWriter) :
    State.QueueSound { s.removeEntries EntryKind.isSnapshot with sw := w } := by
  have vitals := vitals_removeEntries s EntryKind.isSnapshot
  have bays (b : Fin 12) := vitals_bay vitals b
  have queue := queue_removeEntries s EntryKind.isSnapshot
  refine h.fewer (t := { s.removeEntries EntryKind.isSnapshot with sw := w }) ?_ (fun e mem account => ?_) (fun b => ?_) fun link => ?_
  · change (s.removeEntries EntryKind.isSnapshot).pu.queue.Sublist _
    rw [queue]
    exact List.filter_sublist
  · change e ∈ (s.removeEntries EntryKind.isSnapshot).pu.queue at mem
    rw [queue] at mem
    have kept := (List.mem_filter.mp mem).2
    refine State.accounts_of account (fun b state unfinished => ?_) (fun snapshot waits => ?_) (fun v _ _ marked => ?_)
      fun position step _ => ?_
    · change ((s.removeEntries _).bay b).state = _ ∧ ((s.removeEntries _).bay b).receiptFinished = _
      rw [bays]
      exact ⟨state, unfinished⟩
    · simp [snapshot, waits] at kept
    · exact (congrArg NoticeVector.queued (vector_congr ((removeEntries_frame s _).same .nu (by decide)).symm v)).trans marked
    · exact (vitals_step vitals).trans step
  · change ((s.removeEntries _).bay b).receiptFinished = _ → ((s.removeEntries _).bay b).state = _
    rw [bays]
    exact h.finished b
  · exact (vitals_link vitals).symm.trans link

theorem orphan_begun (e : Entry) : e.orphan.begun = e.begun := by
  unfold Entry.orphan
  split <;> rfl

theorem orphan_of_not_reply {e : Entry} (h : ∀ o, e.kind ≠ .reply o) : e.orphan = e := by
  unfold Entry.orphan
  split
  · next o kind => exact absurd kind (h o)
  all_goals rfl

theorem orphan_reply {e : Entry} {o : Bool} (h : e.kind = .reply o) : e.orphan = { e with kind := .reply true } := by
  simp [Entry.orphan, h]

/-- What an entry becomes at a CRST: another entry with the same report or none, at the same place. -/
theorem orphan_kind (e : Entry) : e.orphan.kind.place = e.kind.place ∧ e.orphan.kind.isMessage = e.kind.isMessage ∧
    (e.orphan.kind.reportsTo = none ∨ e.orphan.kind.reportsTo = e.kind.reportsTo) := by
  cases kind : e.kind with
  | reply o => rw [orphan_reply kind]; exact ⟨rfl, rfl, .inl rfl⟩
  | _ => rw [orphan_of_not_reply (by simp [kind]), kind]; exact ⟨rfl, rfl, .inr rfl⟩

theorem queue_clearedByCrst (s : State) : s.clearedByCrst.pu.queue =
    (s.pu.queue.filter fun e => e.begun || !e.kind.isMessage).map Entry.orphan := by
  unfold State.clearedByCrst State.resetNotices State.orphanReplies
  dsimp only
  rw [queue_removeEntries]
  rfl

theorem vitals_clearedByCrst (s : State) :
    s.clearedByCrst.vitals = State.vitals { s with pu := s.pu.afterCrst, cu := {}, sp := s.sp.discard } :=
  vitals_removeEntries { s with pu := s.pu.afterCrst, cu := {}, sp := s.sp.discard } EntryKind.isMessage

/-- CRST drops the notices and replies that have not begun, and orphans a reply in performance (R156, R163). -/
theorem State.QueueSound.clearedByCrst {s : State} (h : s.QueueSound) : s.clearedByCrst.QueueSound := by
  have bays (b : Fin 12) : s.clearedByCrst.bay b = s.bay b := vitals_bay (vitals_clearedByCrst s) b
  have window : s.clearedByCrst.sw = s.sw := congrArg Vitals.sw (vitals_clearedByCrst s)
  have link : s.clearedByCrst.pu.link = s.pu.link.afterCrst := vitals_link (vitals_clearedByCrst s)
  have queue := queue_clearedByCrst s
  refine ⟨?_, fun e mem => ?_, fun b => by rw [bays]; exact h.finished b, fun starting e mem => ?_⟩
  · rw [queue]
    exact (h.shape.of_sublist List.filter_sublist).map orphan_begun (fun e => (orphan_kind e).1) fun e => (orphan_kind e).2.2
  · rw [queue] at mem
    obtain ⟨d, kept, rfl⟩ := List.mem_map.mp mem
    obtain ⟨old, stays⟩ := List.mem_filter.mp kept
    have account := h.accounts d old
    cases kind : d.kind with
    | receipt b n check =>
      rw [orphan_of_not_reply (by simp [kind]), accounts_receipt kind, bays]
      exact (accounts_receipt kind).mp account
    | snapshot i =>
      rw [orphan_of_not_reply (by simp [kind]), accounts_snapshot kind, window]
      exact (accounts_snapshot kind).mp account
    | notice v =>
      rw [orphan_of_not_reply (by simp [kind]), accounts_notice kind]
      exact .inl (by simpa [kind, EntryKind.isMessage] using stays)
    | reply o =>
      rw [orphan_reply kind]
      exact (accounts_orphan rfl).mpr (by simpa [kind, EntryKind.isMessage] using stays)
  · rw [queue] at mem
    obtain ⟨d, kept, rfl⟩ := List.mem_map.mp mem
    rw [(orphan_kind d).2.1]
    refine h.messages ?_ d (List.mem_filter.mp kept).1
    rw [link] at starting
    cases before : s.pu.link <;> simp [before, LinkState.afterCrst] at starting ⊢

/-! ## The head: begun, attempted, completed -/

/-- What is said of an entry is said of it begun. -/
theorem accounts_begun {s : State} {e d : Entry} (h : s.accounts e) (same : d.kind = e.kind) (begun : d.begun = true) : s.accounts d := by
  cases kind : e.kind with
  | receipt b n check => exact (accounts_receipt (same.trans kind)).mpr ((accounts_receipt kind).mp h)
  | snapshot i => exact (accounts_snapshot (same.trans kind)).mpr (.inl begun)
  | notice v => exact (accounts_notice (same.trans kind)).mpr (.inl begun)
  | reply o =>
    cases o with
    | false => exact (accounts_reply (same.trans kind)).mpr ((accounts_reply kind).mp h)
    | true => exact (accounts_orphan (same.trans kind)).mpr begun

/-- The head begins: a notice is no longer marked as queued (R167). -/
theorem State.QueueSound.beginEntry {s : State} {e : Entry} {rest : List Entry} (queue : s.pu.queue = e :: rest) (h : s.QueueSound) :
    State.QueueSound ({ s with pu := { s.pu with queue := { e with begun := true } :: rest } }.beginEntry e) := by
  have shape : QueueShape (e :: rest) := queue ▸ h.shape
  have head : s.accounts e := h.accounts e (by rw [queue]; exact List.mem_cons_self)
  have begun : s.accounts { e with begun := true } := accounts_begun head rfl rfl
  have performed : State.QueueSound { s with pu := { s.pu with queue := { e with begun := true } :: rest } } := by
    refine ⟨shape.begin, fun d mem => ?_, h.finished, fun starting d mem => ?_⟩
    · rcases List.mem_cons.mp mem with rfl | later
      · exact begun
      · exact h.accounts d (by rw [queue]; exact List.mem_cons_of_mem _ later)
    · have messages := h.messages starting
      rw [queue] at messages
      rcases List.mem_cons.mp mem with rfl | later
      · exact messages e List.mem_cons_self
      · exact messages d (List.mem_cons_of_mem _ later)
  unfold State.beginEntry
  split
  · next v kind waits =>
    refine ⟨performed.shape, fun d mem => ?_, performed.finished, performed.messages⟩
    refine State.accounts_of (performed.accounts d mem) (fun _ state unfinished => ⟨state, unfinished⟩) (fun _ _ => rfl)
      (fun w notice unbegun marked => ?_) fun _ step _ => step
    have other : w ≠ v := by
      rintro rfl
      rcases List.mem_cons.mp mem with rfl | later
      · cases unbegun
      · exact shape.place_ne_head waits later (by rw [notice, kind])
    rw [vector_setVector_of_ne _ other]
    exact marked
  all_goals exact performed

/-- Nothing in the queue reports to this block. -/
def State.awaitsNone (s : State) (x : Fin 13) : Prop := ∀ e ∈ s.pu.queue, e.kind.reportsTo ≠ some x

theorem awaitsNone_fire {s : State} {x : Fin 13} (c : Cause) (h : s.awaitsNone x) : (s.fire c).awaitsNone x := by
  rcases fire_cases s c with e | ⟨-, e⟩ | e
  · rwa [e]
  · rw [e]
    intro d mem
    rw [queue_queueNotice] at mem
    rcases List.mem_append.mp mem with old | new
    · exact h d old
    · rw [List.mem_singleton.mp new]; nofun
  · rw [e]; exact h

/-- A queue sound whose entries report to nothing at this block. -/
def State.QueueReady (s : State) (x : Fin 13) : Prop := s.QueueSound ∧ s.awaitsNone x

theorem State.QueueReady.fire {s : State} {x : Fin 13} (c : Cause) (h : s.QueueReady x) : (s.fire c).QueueReady x :=
  ⟨h.1.fire c, awaitsNone_fire c h.2⟩

theorem State.QueueSound.log {s : State} {el : ErrorLog} (h : s.QueueSound) : State.QueueSound { s with el := el } :=
  h.of_same rfl (fun _ => Iff.rfl) (fun _ => rfl) rfl (fun _ => id) (fun _ => id) id

theorem State.QueueReady.record {s : State} {x : Fin 13} (r : Recording) (h : s.QueueReady x) : (s.record r).QueueReady x :=
  keeps_record (P := fun s => s.QueueReady x) (fun _ g => ⟨g.1.log, g.2⟩) (fun c g => g.fire c) r h

theorem State.QueueSound.tryFetch {s : State} (h : s.QueueSound) (quiet : ∀ position, s.cu.step ≠ .replying position) :
    s.tryFetch.QueueSound := by
  unfold State.tryFetch
  split
  · exact h.of_same rfl (fun _ => Iff.rfl) (fun _ => rfl) rfl (fun _ => id) (fun position step => absurd step (quiet position)) id
  · exact h

/-- A receipt is finished: its bay is issuing and no other entry reports to it (R124, R131). -/
theorem State.QueueReady.receiptComplete {s : State} {b : Fin 12} (h : s.QueueReady ⟨b.val, by omega⟩)
    (issuing : (s.bay b).state = .issuing) (n : Nat) (check : Word) (abandoned : Bool) :
    (s.receiptComplete b n check abandoned).QueueSound := by
  have reported {t : State} (ht : t.QueueReady ⟨b.val, by omega⟩) (issuing : (t.bay b).state = .issuing) :
      ((t.onBay b fun x => { x with receiptFinished := true }).fire .receiptIssued).QueueSound := by
    have finished : State.QueueSound (t.onBay b fun x => { x with receiptFinished := true }) := ?_
    · exact finished.fire _
    refine ⟨ht.1.shape, fun e mem => ?_, ?_, ht.1.messages⟩
    · have account := ht.1.accounts e mem
      cases kind : e.kind with
      | receipt c m check' =>
        have other : c ≠ b := by
          rintro rfl
          exact ht.2 e mem (by rw [kind]; rfl)
        rw [accounts_receipt kind] at account ⊢
        simpa [State.onBay, bay_setBay_of_ne _ other] using account
      | snapshot => rw [accounts_snapshot kind] at account ⊢; exact account
      | notice => rw [accounts_notice kind] at account ⊢; exact account
      | reply o =>
        cases o with
        | false => rw [accounts_reply kind] at account ⊢; exact account
        | true => rw [accounts_orphan kind] at account ⊢; exact account
    · exact forall_bay_setBay (Q := fun _ x => x.receiptFinished = true → x.state = .issuing) (fun _ => issuing)
        fun c _ => ht.1.finished c
  unfold State.receiptComplete
  dsimp only
  split
  · exact reported ⟨h.1.of_same rfl (fun _ => Iff.rfl) (fun _ => rfl) rfl (fun _ => id) (fun _ => id) id, h.2⟩ issuing
  · exact reported h issuing

/-- The reply is complete: nothing else reports to the Command Unit, which goes on (R161). -/
theorem State.QueueReady.replyDone {s : State} (h : s.QueueReady 12) : (s.replyComplete false).QueueSound := by
  unfold State.replyComplete
  dsimp only
  rw [if_neg (by decide)]
  have counted : State.QueueReady { s with cu := { s.cu with taken := s.cu.taken + 1 } } 12 :=
    ⟨h.1.of_same rfl (fun _ => Iff.rfl) (fun _ => rfl) rfl (fun _ => id) (fun _ => id) id, h.2⟩
  obtain ⟨sound, none⟩ := counted.fire .replyReady
  refine State.QueueSound.tryFetch ⟨sound.shape, fun e mem => ?_, sound.finished, sound.messages⟩ nofun
  exact State.accounts_of (sound.accounts e mem) (fun _ state unfinished => ⟨state, unfinished⟩) (fun _ _ => rfl) (fun _ _ _ => id)
    fun _ _ kind => absurd (by rw [kind]; rfl) (none e mem)

/-- A completed or abandoned entry is reported to its block (R131, R153, R161). -/
theorem State.QueueSound.reportEntry {s : State} {k : EntryKind} (h : s.QueueSound)
    (alone : ∀ x, k.reportsTo = some x → s.awaitsNone x)
    (issuing : ∀ b n check, k = .receipt b n check → (s.bay b).state = .issuing) (abandoned : Bool) :
    (s.reportEntry k abandoned).QueueSound := by
  cases k with
  | receipt b n check => exact State.QueueReady.receiptComplete ⟨h, alone _ rfl⟩ (issuing b n check rfl) n check abandoned
  | snapshot i => exact h
  | notice v => exact h
  | reply orphan =>
    cases orphan with
    | false => exact State.QueueReady.replyDone ⟨h, alone 12 rfl⟩
    | true => exact h

/-- The queue without its head. -/
theorem State.QueueSound.popHead {s : State} (h : s.QueueSound) : s.popHead.QueueSound := by
  have vitals := vitals_popHead s
  refine h.fewer (by rw [queue_popHead]; exact List.tail_sublist _) (fun e _ account => ?_) (fun b => ?_)
    fun link => (vitals_link vitals).symm.trans link
  · refine State.accounts_of account (fun b state unfinished => ?_) (fun _ _ => vitals_sw vitals) (fun v _ _ marked => ?_)
      fun _ step _ => (vitals_step vitals).trans step
    · rw [vitals_bay vitals]; exact ⟨state, unfinished⟩
    · exact (congrArg NoticeVector.queued (vector_congr ((popHead_frame s).same .nu (by decide)).symm v)).trans marked
  · rw [vitals_bay vitals]; exact h.finished b

/-- An attempt at the head has completed (R153). -/
theorem State.QueueSound.attemptDone {s : State} {e : Entry} {rest : List Entry} (queue : s.pu.queue = e :: rest) (h : s.QueueSound)
    (ok : Bool) : (s.attemptDone e rest ok).QueueSound := by
  have shape : QueueShape (e :: rest) := queue ▸ h.shape
  have head : s.accounts e := h.accounts e (by rw [queue]; exact List.mem_cons_self)
  have popped := h.popHead
  have alone (x : Fin 13) (target : e.kind.reportsTo = some x) : s.popHead.awaitsNone x := by
    intro d mem
    rw [queue_popHead, queue] at mem
    exact shape.report_ne_head target mem
  have issuing (b : Fin 12) (n : Nat) (check : Word) (kind : e.kind = .receipt b n check) : (s.popHead.bay b).state = .issuing := by
    rw [vitals_bay (vitals_popHead s)]
    exact ((accounts_receipt kind).mp head).1
  unfold State.attemptDone
  repeat' split
  · exact popped.reportEntry alone issuing false
  · refine ⟨?_, fun d mem => ?_, h.finished, fun starting d mem => ?_⟩
    · exact shape.again (e.attempts + 1)
    · rcases List.mem_cons.mp mem with rfl | later
      · exact head
      · exact h.accounts d (by rw [queue]; exact List.mem_cons_of_mem _ later)
    · have messages := h.messages starting
      rw [queue] at messages
      rcases List.mem_cons.mp mem with rfl | later
      · exact messages e List.mem_cons_self
      · exact messages d (List.mem_cons_of_mem _ later)
  · have frame := memoryFault_frame s.popHead e.addr e.kind.faultDetail
    refine (popped.record _).reportEntry (fun x target => ?_) (fun b n check kind => ?_) true
    · exact (State.QueueReady.record _ ⟨popped, alone x target⟩).2
    · exact (congrArg (fun v : Vector Bay 12 => (v[b]).state) (frame.same .bays (by decide)).symm).trans (issuing b n check kind)

/-! ## Every elementary change -/

theorem issuing_withPlan (x : Bay) (p : PlanBay) : (x.withPlan p).receiptFinished = x.receiptFinished ∧
    ((x.withPlan p).state = .issuing ↔ x.state = .issuing) := by
  have same : (x.keepPortions p).receiptFinished = x.receiptFinished ∧ (x.keepPortions p).state = x.state := by
    unfold Bay.keepPortions Bay.attribute
    split <;> exact ⟨rfl, rfl⟩
  obtain ⟨finished, state⟩ := same
  unfold Bay.withPlan
  generalize (x.keepPortions p).usedGrant p = grant
  rw [← finished, ← state]
  generalize x.keepPortions p = y
  cases e : y.state <;> simp only [Bay.takeGrant, e] <;> (try split) <;> simp [e]

/-- The taking of a plan's part. -/
theorem State.QueueSound.grants {s : State} (b : Fin 12) (p : PlanBay) (h : s.QueueSound) :
    (s.setBay b ((s.bay b).withPlan p)).QueueSound := by
  obtain ⟨finished, issuing⟩ := issuing_withPlan (s.bay b) p
  exact h.of_same rfl (forall_bay_setBay (Q := fun c x => x.state = .issuing ↔ (s.bay c).state = .issuing) issuing fun _ _ => Iff.rfl)
    (forall_bay_setBay (Q := fun c x => x.receiptFinished = (s.bay c).receiptFinished) finished fun _ _ => rfl) rfl
    (fun _ => id) (fun _ => id) id

/-- A session opened: its bay was not issuing. -/
theorem State.QueueSound.openSession {s : State} (h : s.QueueSound) {b : Fin 12} (allowed : s.authoriseRefusal b = none)
    (n : Session) : (s.openSession b n).QueueSound := by
  obtain ⟨-, -, closed⟩ := canReserve_of_allowed allowed
  have state : (s.bay b).state ≠ .issuing := by rcases closed with e | e <;> rw [e] <;> nofun
  have opened : ((s.bay b).open n).receiptFinished = (s.bay b).receiptFinished := by
    unfold Bay.open
    dsimp only
    split <;> rfl
  have unfinished : (s.bay b).receiptFinished ≠ true := fun done => state (h.finished b done)
  refine ⟨h.shape, fun e mem => ?_, ?_, h.messages⟩
  · refine State.accounts_of (h.accounts e mem) (fun c issuing waits => ?_) (fun _ _ => rfl) (fun _ _ _ => id) fun _ step _ => step
    have other : c ≠ b := by rintro rfl; exact state issuing
    change ((s.setBay b ((s.bay b).open n)).bay c).state = _ ∧ ((s.setBay b ((s.bay b).open n)).bay c).receiptFinished = _
    rw [bay_setBay_of_ne _ other]
    exact ⟨issuing, waits⟩
  · exact forall_bay_setBay (Q := fun _ x => x.receiptFinished = true → x.state = .issuing)
      (fun done => absurd (opened.symm.trans done) unfinished) fun c _ => h.finished c

/-- A bay leaves ISSUING: its receipt was finished. -/
theorem State.QueueSound.exit {s : State} (h : s.QueueSound) {b : Fin 12} (due : (s.bay b).exitDue = true) :
    (s.onBay b Bay.exit).QueueSound := by
  obtain ⟨-, finished⟩ := issuing_of_exitDue due
  refine ⟨h.shape, fun e mem => ?_, ?_, h.messages⟩
  · refine State.accounts_of (h.accounts e mem) (fun c issuing waits => ?_) (fun _ _ => rfl) (fun _ _ _ => id) fun _ step _ => step
    have other : c ≠ b := by
      rintro rfl
      rw [finished] at waits
      cases waits
    rw [State.onBay, bay_setBay_of_ne _ other]
    exact ⟨issuing, waits⟩
  · exact forall_bay_setBay (Q := fun _ x => x.receiptFinished = true → x.state = .issuing) nofun fun c _ => h.finished c

/-- The preloaded values taken: nothing was issuing, and only notices and replies are queued. -/
theorem State.QueueSound.takeImage {s : State} (safe : s.heldSafe) (h : s.QueueSound) (starting : s.pu.link = .starting)
    (f : Preloaded) : (s.takeImage f).QueueSound := by
  obtain ⟨-, -, -, -, -, bays⟩ := safe starting
  have state (b : Fin 12) : (s.bay b).state ≠ .issuing := fun issuing => by
    have closed := (bays b).1
    rw [issuing] at closed
    cases closed
  unfold State.takeImage
  refine State.QueueSound.releaseVectors (State.QueueSound.judgeUsable ⟨h.shape, fun e mem => ?_, fun b => ?_, nofun⟩)
  · have message := h.messages starting e mem
    refine State.accounts_of (h.accounts e mem) (fun b issuing => absurd issuing (state b)) (fun snapshot => ?_) (fun _ _ _ => id)
      fun _ step _ => step
    cases kind : e.kind <;> rw [kind] at message snapshot <;> cases message <;> cases snapshot
  · have unfinished : (s.bay b).receiptFinished ≠ true := fun done => state b (h.finished b done)
    intro done
    refine absurd (Eq.trans ?_ done) unfinished
    simp [State.bay, Bay.start]

theorem State.QueueSound.windowsChanged {s : State} (h : s.QueueSound) : s.windowsChanged.QueueSound :=
  keeps_windowsChanged (P := State.QueueSound) (fun _ g => g.judgeUsable) (fun _ r g => g.record r) (fun _ g => g.releaseVectors) h

theorem State.QueueSound.takeWatched {s : State} (h : s.QueueSound) (a : Nat) (words : List WriteWord) :
    (s.takeWatched a words).QueueSound :=
  keeps_takeWatched (P := State.QueueSound) (fun _ a w g => g.takeWords a w) (fun _ r g => g.record r) (fun _ g => g.dropPending)
    (fun _ g => g.releaseVectors) a words h

theorem queue_kept : Kept fun s => s.heldSafe ∧ s.QueueSound where
  battery sound h := ⟨heldSafe_unqueued.battery sound h.1, h.2.of_same rfl (fun _ => .rfl) (fun _ => rfl) rfl (fun _ => id) (fun _ => id) id⟩
  log sound h := ⟨heldSafe_unqueued.log sound h.1, h.2.log⟩
  issuing ready h := ⟨heldSafe_unqueued.issuing ready h.1, h.2.enterIssuing h.1 ready⟩
  opens busy allowed h := ⟨heldSafe_unqueued.opens busy allowed h.1, h.2.openSession allowed _⟩
  exits due h := ⟨heldSafe_unqueued.exits due h.1, h.2.exit due⟩
  latches running h :=
    ⟨heldSafe_unqueued.latches running h.1, h.2.of_same rfl (fun _ => .rfl) (fun _ => rfl) rfl (fun _ => id) (fun _ => id) id⟩
  stages x round latched h :=
    ⟨heldSafe_unqueued.stages x round latched h.1, h.2.of_same rfl (fun _ => .rfl) (fun _ => rfl) rfl (fun _ => id) (fun _ => id) id⟩
  applies p running h :=
    ⟨heldSafe_unqueued.applies p running h.1, h.2.of_same rfl (fun _ => .rfl) (fun _ => rfl) rfl (fun _ => id) (fun _ => id) id⟩
  receipts none less apart h :=
    ⟨heldSafe_unqueued.receipts none less apart h.1, h.2.of_same rfl (fun _ => .rfl) (fun _ => rfl) rfl (fun _ => id) (fun _ => id) id⟩
  collects low high h :=
    ⟨heldSafe_unqueued.collects low high h.1, h.2.of_same rfl (fun _ => .rfl) (fun _ => rfl) rfl (fun _ => id) (fun _ => id) id⟩
  site ranges h :=
    ⟨heldSafe_unqueued.site ranges h.1, h.2.of_same rfl (fun _ => .rfl) (fun _ => rfl) rfl (fun _ => id) (fun _ => id) id⟩
  bayConfig {s b c cap pairWord} good closed h := by
    refine ⟨heldSafe_unqueued.bayConfig good closed h.1, h.2.of_same rfl ?_ ?_ rfl (fun _ => id) (fun _ => id) id⟩
    · exact forall_bay_setBay (Q := fun d x => x.state = .issuing ↔ (s.bay d).state = .issuing) (y := { s.bay b with config := c })
        .rfl fun _ _ => .rfl
    · exact forall_bay_setBay (Q := fun d x => x.receiptFinished = (s.bay d).receiptFinished) (y := { s.bay b with config := c })
        rfl fun _ _ => rfl
  finds ok bytes h :=
    ⟨heldSafe_unqueued.finds ok bytes h.1, h.2.of_same rfl (fun _ => .rfl) (fun _ => rfl) rfl (fun _ => id) (fun _ => id) id⟩
  links {s l} notStarting h := ⟨heldSafe_unqueued.links notStarting h.1,
    h.2.of_same rfl (fun _ => .rfl) (fun _ => rfl) rfl (fun _ => id) (fun _ => id) fun starting => absurd starting notStarting⟩
  quiet h vitals nu queue :=
    ⟨heldSafe_unqueued.same h.1 vitals, h.2.of_vitals vitals queue fun v => by rw [vector_congr nu]; exact id⟩
  bays step h := ⟨heldSafe_unqueued.turns (fun b => (step b).toBayTurn) h.1,
    h.2.of_same rfl (fun b => (step b).issuing) (fun b => (step b).finished) rfl (fun _ => id) (fun _ => id) id⟩
  fire c h := ⟨heldSafe_unqueued.fire c h.1, h.2.fire c⟩
  watched addr words h := ⟨heldSafe_unqueued.takeWatched addr words h.1, h.2.takeWatched addr words⟩
  windows h := ⟨heldSafe_unqueued.windowsChanged h.1, h.2.windowsChanged⟩
  maps m h := ⟨heldSafe_unqueued.same h.1 rfl, h.2.of_vitals rfl rfl fun _ => id⟩
  snapshot i bytes window h := ⟨heldSafe_unqueued.queueRecord i _ bytes h.1, h.2.queueRecord h.1 i bytes window⟩
  newWindow {s w} busy apart h := ⟨heldSafe_unqueued.kept.newWindow busy apart h.1, h.2.newWindow w⟩
  image starting h := ⟨heldSafe_unqueued.kept.image starting h.1, h.2.takeImage h.1 starting _⟩
  clears h := ⟨heldSafe_unqueued.kept.clears h.1, h.2.clearedByCrst⟩
  steps busy quiet still h := ⟨heldSafe_unqueued.kept.steps busy quiet still h.1,
    h.2.of_same rfl (fun _ => .rfl) (fun _ => rfl) rfl (fun _ => id) (fun position step => absurd step (quiet position)) id⟩
  replies position tag r busy quiet h :=
    ⟨heldSafe_unqueued.kept.replies position tag r busy quiet h.1, h.2.queueReply position tag r quiet⟩
  begins queue h := ⟨heldSafe_unqueued.kept.begins queue h.1, h.2.beginEntry queue⟩
  done ok queue h := ⟨heldSafe_unqueued.kept.done ok queue h.1, h.2.attemptDone queue ok⟩

theorem queueSound_afterPor (s : State) : s.afterPor.QueueSound where
  shape := ⟨nofun, List.nodup_nil, List.nodup_nil⟩
  accounts := nofun
  finished b := by rw [bay_afterPor]; nofun
  messages _ := nofun

/-- Settles O58: the elementary changes keep the ring and the queue sound, and so every step does; a sound queue holds its head and
one waiting entry for each of 34 places. -/
theorem ringStaysSound : Obligations.RingStaysSound := by
  refine ⟨fun s t steps => ⟨fun h => ?_, fun h => ?_, fun safe queue => ?_⟩, fun s h => ?_⟩
  · exact ringSound_unqueued.kept.step (fun _ => ringSound_afterPor _) ringSound_grants h steps
  · exact heldSafe_unqueued.kept.step (fun _ => heldSafe_afterPor _) heldSafe_grants h steps
  · rw [queueSound_iff] at queue ⊢
    exact (queue_kept.step (fun _ => ⟨heldSafe_afterPor _, queueSound_afterPor _⟩)
      (fun b p h => ⟨heldSafe_grants b p h.1, h.2.grants b p⟩) ⟨safe, queue⟩ steps).2
  · have most := ((queueSound_iff s).mp h).shape.length_le
    exact ⟨most, by unfold Config.queueRoom; omega⟩

end Sys2Proof.Machine
end

section
/-! Steps and resets: the state after reset and its invariants, POR, the idle step, and the rows' occasions. -/

namespace Sys2Proof.Machine

/-! ## The state after reset -/

theorem bay_reset (b : Fin 12) : State.reset.bay b = {} := by simp [State.reset, State.bay]

theorem channel_reset (ch : Fin 17) : State.reset.channel ch = {} := by simp [State.reset, State.channel]

theorem pair_reset (p : Fin 6) : State.reset.pair p = {} := by simp [State.reset, State.pair]

theorem vector_reset (v : Fin 8) : State.reset.vector v = {} := by simp [State.reset, State.vector]

/-- Settles O9: every field is given its value where the state is defined. -/
theorem resetState : Obligations.ResetState := by
  refine ⟨fun ch => ?_, rfl, rfl, fun b => ?_, fun p => pair_reset p, rfl, rfl, ⟨rfl, rfl⟩, ⟨rfl, rfl⟩, ⟨rfl, rfl⟩, rfl, rfl, rfl, rfl,
    rfl, rfl, rfl, fun c => ?_, fun v => vector_reset v, rfl, rfl, rfl, rfl, rfl⟩
  · rw [channel_reset]
  · rw [bay_reset]
    exact ⟨rfl, rfl, rfl⟩
  · simp [State.reset]

/-- POR leads from the reset state to the reset state. -/
theorem afterPor_reset : State.reset.afterPor = State.reset := by
  unfold State.afterPor State.reset
  simp [Channel.afterPor, Bay.afterPor, FilteredLine.afterPor]

/-- Settles O10: POR gives every part but the commands that wait and the levels of the lines its value after reset. -/
theorem porRestartsThePart : Obligations.PorRestartsThePart := by
  refine fun s => ⟨s.afterPor, rfl, ⟨fun k hk => ?_⟩, rfl, fun ch => ?_, fun b => bay_afterPor s b, rfl⟩
  · cases k <;> first | rfl | simp at hk
  · simp [State.afterPor, State.channel, Channel.afterPor]

/-- Settles O60. -/
theorem invariantsHoldAtReset : Obligations.InvariantsHoldAtReset := by
  rw [Obligations.InvariantsHoldAtReset, ← afterPor_reset]
  refine ⟨ErrorLog.sound_reset, fun v pending => ?_, battery_afterPor _, baysSound_afterPor _, ringSound_afterPor _,
    configSound_afterPor _, ⟨rfl, rfl⟩, ⟨fun b charging => ?_, rfl, fun b isOpen => ?_, nofun, nofun⟩,
    (queueSound_iff _).mpr (queueSound_afterPor _)⟩
  · simp [State.afterPor, State.reset] at pending
  · rw [bay_afterPor] at charging
    cases charging
  · rw [bay_afterPor] at isOpen
    cases isOpen

/-! ## When the part's own events are due (log 1, log 3) -/

section
variable {s : State} {b : Fin 12} {ch : Fin 17}

theorem exitDue_iff : (s.bay b).exitDue = true ↔ (s.bay b).receiptFinished = true ∧ (s.bay b).state = .issuing := by
  simp [Bay.exitDue, and_comm]

theorem closedReportDue_iff : s.closedReportDue b = true ↔ (s.bay b).closedReports ≠ 0 := by
  simp [State.closedReportDue, Nat.pos_iff_ne_zero]

theorem silenceDue_iff : s.silenceDue b = true ↔
    (s.bay b).drive = true ∧ (s.bay b).allowance ≠ 0 ∧ (s.channel (bayChannel b)).silent = false ∧
    (s.channel (bayChannel b)).inProgress = none ∧
    1000 * s.meterConfig.silenceLimit < (s.clock.ms - (s.channel (bayChannel b)).silenceRef).toNat := by
  simp only [State.silenceDue, State.silenceWatched, Bool.and_eq_true, decide_eq_true_eq, Bool.not_eq_true', Option.isNone_iff_eq_none,
    Nat.pos_iff_ne_zero, and_assoc, Nat.mul_comm _ 1000]
  rfl

theorem widthDue_iff : s.widthDue ch = true ↔ ∃ a, (s.channel ch).inProgress = some a ∧
    (if ch.val < 12 then s.meterConfig.bayWmax else s.meterConfig.siteWmax) < (s.clock.ms - a).toNat := by
  unfold State.widthDue
  split
  · next a opened =>
    rw [decide_eq_true_eq]
    simp only [opened, Option.some.injEq, exists_eq_left']
    rfl
  · next opened => simp [opened]

theorem staleDue_iff : s.staleDue ch = true ↔ ∃ e, (s.channel ch).lastEdge = some e ∧ 3600000 < (s.clock.ms - e).toNat := by
  unfold State.staleDue
  split
  · next e edge =>
    rw [decide_eq_true_eq]
    simp only [edge, Option.some.injEq, exists_eq_left']
    rfl
  · next edge => simp [edge]

theorem boundaryDue_iff : s.boundaryDue.isSome = true ↔ s.al.boundaryTimer = some 0 ∧ s.al.staged ≠ none := by
  unfold State.boundaryDue
  split
  · next due => simp [due, Option.isSome_iff_ne_none]
  · next due => simp [due]

theorem computing_iff : s.computing.isSome = true ↔ s.al.latched ≠ none ∧ s.al.staged = none := by
  unfold State.computing
  split
  · next none => simpa [Option.isSome_iff_ne_none] using fun _ => none
  · next staged => simpa using fun _ => staged

theorem settingsDue_iff : s.settingsDue = true ↔ s.sp.inFlight = none ∧ (s.sp.requests ≠ [] ∨ s.pu.link = .starting) := by
  unfold State.settingsDue State.nextSettings
  rw [Bool.and_eq_true, Option.isNone_iff_eq_none]
  refine and_congr_right fun _ => ?_
  cases s.sp.requests with
  | nil =>
    by_cases starting : s.pu.link = .starting
    · simp [starting]
    · simp [starting]
  | cons op rest => simp

theorem grantDue_iff : s.grantDue = true ↔
    s.pu.mport = .free ∧ ((∃ a, s.pu.cport = .waiting a) ∨ s.pu.queue ≠ [] ∨ s.pu.partRead ≠ none) := by
  have waits : s.pu.waitingAccess.isSome = true ↔ ∃ a, s.pu.cport = .waiting a := by
    unfold PathUnit.waitingAccess
    cases s.pu.cport <;> simp
  unfold State.grantDue PathUnit.partWaits
  rw [Bool.and_eq_true, Bool.or_eq_true, waits]
  simp [Option.isSome_iff_ne_none]

theorem secondDue_iff : s.clock.secondDue = true ↔ 1000 ≤ s.clock.subMs := by simp [Clock.secondDue]

end

/-! ## The idle step -/

/-- What a timer counts down to. -/
theorem countDown_eq : countDown = fun timer => timer.map fun n => n - 1 := by
  funext timer
  rcases timer with - | - | n <;> rfl

/-- The commands that a slot of the ring spells are due when the Command Unit holds them. -/
theorem comesDue_decodeCommand {s : State} {position : BitVec 4} {words : List Word}
    (held : s.cu.step = .executing position words false) : s.comesDue (decodeCommand words) := by
  have executes : ∃ position words', s.executes (decodeCommand words) position words' := ⟨position, words, held, rfl⟩
  revert executes
  unfold decodeCommand
  dsimp only
  split
  case h_6 => split <;> exact id
  all_goals exact id

theorem comesDue_of_mem_bayEvents {s : State} {c : Instr} {b : Fin 12} (h : c ∈ s.bayEvents b) : s.comesDue c := by
  simp only [State.bayEvents, List.mem_append, mem_dueIf, or_assoc, beq_iff_eq, bne_iff_ne, Bool.and_eq_true] at h
  rcases h with ⟨due, rfl⟩ | ⟨due, rfl⟩ | ⟨due, rfl⟩ | ⟨due, rfl⟩ | ⟨due, rfl⟩ | ⟨due, rfl⟩ | ⟨due, rfl⟩ | ⟨due, rfl⟩ | ⟨due, rfl⟩ |
    ⟨due, rfl⟩ | ⟨due, rfl⟩
  case inr.inr.inr.inr.inr.inr.inr.inl => exact exitDue_iff.mp due
  case inr.inr.inr.inr.inr.inr.inr.inr.inl => exact closedReportDue_iff.mp due
  case inr.inr.inr.inr.inr.inr.inr.inr.inr.inr => exact silenceDue_iff.mp due
  all_goals exact due

theorem comesDue_of_mem_channelEvents {s : State} {c : Instr} {ch : Fin 17} (h : c ∈ s.channelEvents ch) : s.comesDue c := by
  simp only [State.channelEvents, List.mem_append, mem_dueIf] at h
  rcases h with ⟨due, rfl⟩ | ⟨due, rfl⟩
  · exact widthDue_iff.mp due
  · exact staleDue_iff.mp due

theorem comesDue_of_mem_roundEvents {s : State} {c : Instr} (h : c ∈ s.roundEvents) : s.comesDue c := by
  simp only [State.roundEvents, List.mem_append, mem_dueIf, Bool.and_eq_true, beq_iff_eq] at h
  rcases h with ⟨due, rfl⟩ | ⟨⟨timer, due⟩, rfl⟩
  · obtain ⟨timer, staged⟩ := boundaryDue_iff.mp due
    exact ⟨timer, staged, rfl⟩
  · exact ⟨timer, computing_iff.mp due⟩

theorem comesDue_of_mem_ownEvents {s : State} {c : Instr} (h : c ∈ s.ownEvents) : s.comesDue c := by
  simp only [State.ownEvents, State.lineDue, List.mem_append, List.mem_flatMap, List.mem_finRange, true_and, mem_dueIf, or_assoc,
    beq_iff_eq] at h
  rcases h with ⟨due, rfl⟩ | ⟨due, rfl⟩ | ⟨due, rfl⟩ | ⟨due, rfl⟩ | held | round | ⟨due, rfl⟩ | ⟨due, rfl⟩ | ⟨due, rfl⟩ |
    ⟨ch, channel⟩ | ⟨b, bay⟩
  · exact settingsDue_iff.mp due
  · exact due
  · exact secondDue_iff.mp due
  · exact grantDue_iff.mp due
  · obtain ⟨position, words, step, rfl⟩ := (mem_cuOwnEvents s c).mp held
    exact comesDue_decodeCommand step
  · exact comesDue_of_mem_roundEvents round
  · exact due
  · exact due
  · exact due
  · exact comesDue_of_mem_channelEvents channel
  · exact comesDue_of_mem_bayEvents bay

theorem mem_ownEvents_of_bay {s : State} {c : Instr} (b : Fin 12) (h : c ∈ s.bayEvents b) : c ∈ s.ownEvents :=
  List.mem_append_right _ (List.mem_flatMap.mpr ⟨b, List.mem_finRange b, h⟩)

theorem mem_ownEvents_of_channel {s : State} {c : Instr} (ch : Fin 17) (h : c ∈ s.channelEvents ch) : c ∈ s.ownEvents :=
  List.mem_append_left _ (List.mem_append_right _ (List.mem_flatMap.mpr ⟨ch, List.mem_finRange ch, h⟩))

theorem mem_ownEvents_of_round {s : State} {c : Instr} (h : c ∈ s.roundEvents) : c ∈ s.ownEvents := by
  simp [State.ownEvents, h]

theorem mem_ownEvents_of_held {s : State} {c : Instr} (h : ∃ position words, s.executes c position words) : c ∈ s.ownEvents := by
  have held := (mem_cuOwnEvents s c).mpr h
  simp [State.ownEvents, held]

/-- The part's own events are those whose occasion stands. -/
theorem mem_ownEvents_iff (s : State) (c : Instr) : c ∈ s.ownEvents ↔ s.comesDue c := by
  refine ⟨comesDue_of_mem_ownEvents, fun due => ?_⟩
  cases c
  case plugFilterExpiry b =>
    have timer : (s.bay b).plugTimer = some 0 := due
    exact mem_ownEvents_of_bay b (by simp [State.bayEvents, mem_dueIf, timer])
  case readyFilterExpiry b =>
    have timer : (s.bay b).readyTimer = some 0 := due
    exact mem_ownEvents_of_bay b (by simp [State.bayEvents, mem_dueIf, timer])
  case releaseFilterExpiry b =>
    have timer : (s.bay b).releaseLineTimer = some 0 := due
    exact mem_ownEvents_of_bay b (by simp [State.bayEvents, mem_dueIf, timer])
  case feedbackTimerExpiry b =>
    have timer : (s.bay b).feedbackTimer = some 0 := due
    exact mem_ownEvents_of_bay b (by simp [State.bayEvents, mem_dueIf, timer])
  case idleTimerExpiry b =>
    have both : (s.bay b).idleTimer = some 0 ∧ (s.bay b).state = .authorised := due
    exact mem_ownEvents_of_bay b (by simp [State.bayEvents, mem_dueIf, both])
  case releaseTimerExpiry b =>
    have both : (s.bay b).releaseTimer = some 0 ∧ (s.bay b).state = .releasePending := due
    exact mem_ownEvents_of_bay b (by simp [State.bayEvents, mem_dueIf, both])
  case stopDelayExpiry b =>
    have both : (s.bay b).stopDelayTimer = some 0 ∧ (s.bay b).state = .stopping := due
    exact mem_ownEvents_of_bay b (by simp [State.bayEvents, mem_dueIf, both])
  case issuingExit b =>
    have now := exitDue_iff.mpr due
    exact mem_ownEvents_of_bay b (by simp [State.bayEvents, mem_dueIf, now])
  case sessionClosedReport b =>
    have now := closedReportDue_iff.mpr due
    exact mem_ownEvents_of_bay b (by simp [State.bayEvents, mem_dueIf, now])
  case silenceFound b =>
    have now := silenceDue_iff.mpr due
    exact mem_ownEvents_of_bay b (by simp [State.bayEvents, mem_dueIf, now])
  case meterFaultEvent b =>
    have faults : (s.bay b).meterFaults ≠ 0 := due
    exact mem_ownEvents_of_bay b (by simp [State.bayEvents, mem_dueIf, faults])
  case pulseWidthExceeded ch =>
    have now := widthDue_iff.mpr due
    exact mem_ownEvents_of_channel ch (by simp [State.channelEvents, mem_dueIf, now])
  case channelStale ch =>
    have now := staleDue_iff.mpr due
    exact mem_ownEvents_of_channel ch (by simp [State.channelEvents, mem_dueIf, now])
  case battLineFilterExpiry l =>
    have now : s.lineDue l = true := beq_iff_eq.mpr due
    cases l <;> simp [State.ownEvents, mem_dueIf, now]
  case roundBoundary order =>
    obtain ⟨timer, staged, rfl⟩ := due
    have now := boundaryDue_iff.mpr ⟨timer, staged⟩
    exact mem_ownEvents_of_round (by simp [State.roundEvents, mem_dueIf, now])
  case planComputationEnd =>
    obtain ⟨timer, latched⟩ := due
    have now := computing_iff.mpr latched
    exact mem_ownEvents_of_round (by simp [State.roundEvents, mem_dueIf, timer, now])
  case settingsOperationStart =>
    have now := settingsDue_iff.mpr due
    simp [State.ownEvents, mem_dueIf, now]
  case epochRetryTimerExpiry =>
    have timer : s.sp.retryTimer = some 0 := due
    simp [State.ownEvents, mem_dueIf, timer]
  case siteTimeTick =>
    have now := secondDue_iff.mpr due
    simp [State.ownEvents, mem_dueIf, now]
  case mPortGrant =>
    have now := grantDue_iff.mpr due
    simp [State.ownEvents, mem_dueIf, now]
  case por | crst | preloadReadEnd | startingEnd | epochRetryEnd | meterLeadingEdge | meterTrailingEdge |
    plugLineChange | readyLineChange | releaseLineChange | battLineChange | feedbackChange | controllerWriteAccept |
    releaseWrite | postIndexWrite | viewSelectorWrite | controllerReadAccept | eventWordRead |
    forwardedTransactionComplete | ownWriteAttemptComplete | sweepReadComplete | fetchReadComplete |
    settingsCommandEnd =>
    exact due.elim
  all_goals exact mem_ownEvents_of_held due

/-- One of the events due is taken. -/
theorem step_own {s : State} (idle : s.pending = []) (due : s.ownEvents ≠ []) :
    ∃ c ∈ s.ownEvents, step s = exec c { s with free := s.free + 1 } := by
  cases events : s.ownEvents with
  | nil => exact absurd events due
  | cons c more =>
    cases more with
    | nil => exact ⟨c, List.mem_singleton_self c, by simp [step, idle, State.nextOwn, events]⟩
    | cons d rest =>
      have bound : Config.freeChoice s.free % (rest.length + 2) < (c :: d :: rest).length := Nat.mod_lt _ (Nat.succ_pos _)
      refine ⟨(c :: d :: rest).getD (Config.freeChoice s.free % (rest.length + 2)) c, ?_, by simp [step, idle, State.nextOwn, events]⟩
      rw [getD_of_lt bound]
      exact List.getElem_mem bound

/-- Settles O2: the events due are taken one at a time, and with none a millisecond counts every timer down. -/
theorem idleStepRunsAnOwnEventOrAMillisecond : Obligations.IdleStepRunsAnOwnEventOrAMillisecond := by
  refine fun s idle => ⟨step_own idle, fun none => ?_, mem_ownEvents_iff s, ?_⟩
  · unfold step State.nextOwn
    rw [idle, none]
  · unfold State.tick Bay.tick BatteryAccount.tick FilteredLine.tick
    rw [countDown_eq]

/-! ## Rows without their occasion (log 2) -/

section
variable {s : State}

theorem startingEnd_of_not {ok : Bool} {order : List Nat} (h : s.pu.link ≠ .starting ∨ ∀ e, s.sp.inFlight ≠ some (.epochWrite e)) :
    exec (.startingEnd ok order) s = .next s := by
  refine if_neg fun writing => ?_
  unfold State.epochWriting at writing
  rw [Bool.and_eq_true, beq_iff_eq] at writing
  obtain ⟨starting, write⟩ := writing
  split at write
  · next e inFlight => exact h.elim (absurd starting) fun none => none e inFlight
  all_goals cases write

theorem epochRetryEnd_of_not {ok : Bool} (h : ∀ e, s.sp.inFlight ≠ some (.epochRetry e)) : exec (.epochRetryEnd ok) s = .next s := by
  change execEpochRetryEnd ok s = _
  unfold execEpochRetryEnd
  split
  · next e inFlight => exact absurd inFlight (h e)
  all_goals rfl

theorem settingsCommandEnd_of_not {ok : Bool} {bytes : List Byte} (read : ∀ n d, s.sp.inFlight ≠ some (.commandRead n d))
    (write : ∀ w d, s.sp.inFlight ≠ some (.commandWrite w d)) : exec (.settingsCommandEnd ok bytes) s = .next s := by
  change execSettingsCommandEnd ok bytes s = _
  unfold execSettingsCommandEnd
  split
  · next n d inFlight => exact absurd inFlight (read n d)
  · next w d inFlight => exact absurd inFlight (write w d)
  all_goals rfl

theorem forwardedTransactionComplete_of_not {ok : Bool} {data : List Word}
    (h : s.pu.mport ≠ .controller ∨ ∀ a, s.pu.cport ≠ .granted a) : exec (.forwardedTransactionComplete ok data) s = .next s := by
  change execForwardedTransactionComplete ok data s = _
  unfold execForwardedTransactionComplete
  split
  · next a port granted => exact h.elim (absurd port) fun none => absurd granted (none a)
  all_goals rfl

theorem ownWriteAttemptComplete_of_not {bursts : List Bool} (h : s.pu.mport ≠ .entry ∨ s.pu.queue = []) :
    exec (.ownWriteAttemptComplete bursts) s = .next s := by
  change execOwnWriteAttemptComplete bursts s = _
  unfold execOwnWriteAttemptComplete
  split
  · next e rest port queue => exact h.elim (absurd port) fun none => by rw [none] at queue; cases queue
  all_goals rfl

theorem ownWriteAttemptComplete_of_bursts {bursts : List Bool} {e : Entry} {rest : List Entry} (queue : s.pu.queue = e :: rest)
    (h : bursts.length ≠ e.kind.bursts) : exec (.ownWriteAttemptComplete bursts) s = .next s := by
  change execOwnWriteAttemptComplete bursts s = _
  unfold execOwnWriteAttemptComplete
  split
  · next d rest' port queue' =>
    rw [queue] at queue'
    cases queue'
    exact if_neg h
  all_goals rfl

theorem sweepReadComplete_of_not {ok : Bool} {data : List Word}
    (h : ∀ r d, s.pu.mport = .read r d → ∀ k, r.kind ≠ .sweep k) : exec (.sweepReadComplete ok data) s = .next s := by
  change execSweepReadComplete ok data s = _
  unfold execSweepReadComplete
  split
  · next port => exact absurd rfl (h _ _ port _)
  all_goals rfl

theorem fetchReadComplete_of_not {ok : Bool} {data : List Word}
    (h : ∀ r d, s.pu.mport = .read r d → ∀ k, r.kind ≠ .fetch k) : exec (.fetchReadComplete ok data) s = .next s := by
  change execFetchReadComplete ok data s = _
  unfold execFetchReadComplete
  split
  · next port => exact absurd rfl (h _ _ port _)
  all_goals rfl

theorem roundBoundary_of_not {order : BoundaryOrder} (h : s.al.boundaryTimer ≠ some 0 ∨ s.al.staged = none) :
    exec (.roundBoundary order) s = .next s := by
  change execRoundBoundary order s = _
  unfold execRoundBoundary
  split
  · next p due =>
    obtain ⟨timer, staged⟩ := boundaryDue_iff.mp (Option.isSome_of_eq_some due)
    exact h.elim (absurd timer) fun none => absurd none staged
  · rfl

theorem planComputationEnd_of_not (h : s.al.latched = none ∨ s.al.staged ≠ none) : exec .planComputationEnd s = .next s := by
  change execPlanComputationEnd s = _
  unfold execPlanComputationEnd
  split
  · next l computing =>
    obtain ⟨latched, staged⟩ := computing_iff.mp (Option.isSome_of_eq_some computing)
    exact h.elim (fun none => absurd none latched) (absurd staged)
  · rfl

end

/-- Settles O6: each of these rows acts only under the condition that its occasion states. -/
theorem rowsWithoutOccasionChangeNothing : Obligations.RowsWithoutOccasionChangeNothing := by
  intro s b ch order window l ok bytes data bursts
  refine ⟨fun h => if_neg h, fun h => if_neg h, fun h => if_neg h, fun h => if_neg h, fun h => if_neg (Classical.not_and_iff_not_or_not.mpr h),
    fun h => if_neg (Classical.not_and_iff_not_or_not.mpr h), fun h => if_neg (Classical.not_and_iff_not_or_not.mpr h), fun h => if_neg fun due => ?issuing,
    fun h => if_neg fun due => closedReportDue_iff.mp due h, fun h => if_pos h, fun h => if_neg fun due => ?silence,
    fun none => if_neg fun due => ?width, fun a opened within => if_neg fun due => ?within, fun none => if_neg fun due => ?stale,
    fun e edge recent => if_neg fun due => ?recent, fun h => if_neg h, roundBoundary_of_not, planComputationEnd_of_not,
    fun h => if_neg fun due => ?settings, fun h => if_neg h, startingEnd_of_not, fun h => if_neg h, epochRetryEnd_of_not,
    settingsCommandEnd_of_not, fun h => if_neg fun due => absurd (secondDue_iff.mp due) (Nat.not_le.mpr h), fun h => if_neg fun due => ?grant,
    forwardedTransactionComplete_of_not, ownWriteAttemptComplete_of_not,
    fun e rest queue count => ownWriteAttemptComplete_of_bursts queue ?bursts, sweepReadComplete_of_not, fetchReadComplete_of_not⟩
  case issuing =>
    obtain ⟨finished, issuing⟩ := exitDue_iff.mp due
    exact h.elim (fun unfinished => by rw [finished] at unfinished; cases unfinished) (absurd issuing)
  case silence =>
    obtain ⟨drive, allowance, silent, inProgress, beyond⟩ := silenceDue_iff.mp due
    rcases h with h | h | h | h | h
    · rw [drive] at h; cases h
    · exact allowance h
    · rw [silent] at h; cases h
    · exact h inProgress
    · exact absurd beyond (Nat.not_lt.mpr h)
  case width =>
    obtain ⟨a, opened, -⟩ := widthDue_iff.mp due
    rw [none] at opened
    cases opened
  case within =>
    obtain ⟨a', opened', beyond⟩ := widthDue_iff.mp due
    rw [opened] at opened'
    cases opened'
    exact absurd beyond (Nat.not_lt.mpr within)
  case stale =>
    obtain ⟨e, edge, -⟩ := staleDue_iff.mp due
    rw [none] at edge
    cases edge
  case recent =>
    obtain ⟨e', edge', beyond⟩ := staleDue_iff.mp due
    rw [edge] at edge'
    cases edge'
    exact absurd beyond (Nat.not_lt.mpr recent)
  case settings =>
    obtain ⟨free, requested⟩ := settingsDue_iff.mp due
    rcases h with busy | ⟨none, started⟩
    · exact busy free
    · exact requested.elim (absurd none) (absurd · started)
  case grant =>
    obtain ⟨free, waits⟩ := grantDue_iff.mp due
    rcases h with busy | ⟨access, queue, read⟩
    · exact busy free
    · rcases waits with ⟨a, waiting⟩ | entries | reads
      · exact access a waiting
      · exact entries queue
      · exact reads read
  case bursts =>
    intro same
    refine count (same.trans ?_)
    cases e.kind <;> rfl

end Sys2Proof.Machine
end

section
/-! Bay rows: what they leave of the other bays, and the changes of the lines. -/

namespace Sys2Proof.Machine

/-! ## Operations of one bay, at the other bays -/

section
variable (s : State) (b : Fin 12)

theorem otherBaysSame_refl : State.otherBaysSame b s s := fun _ _ => ⟨rfl, rfl⟩

/-- A change outside the bays and the channels. -/
theorem otherBaysSame_of_frame {s t : State} {ps : List Part} (frame : State.changesOnly ps s t) (bays : Part.bays ∉ ps)
    (channels : Part.channels ∉ ps) : State.otherBaysSame b s t := by
  have sameBays : s.bays = t.bays := frame.same .bays bays
  have sameChannels : s.channels = t.channels := frame.same .channels channels
  exact fun c _ => ⟨by rw [State.bay, State.bay, sameBays], by rw [State.channel, State.channel, sameChannels]⟩

theorem bayChannel_injective {b c : Fin 12} (h : bayChannel b = bayChannel c) : b = c := Fin.ext (congrArg (fun ch : Fin 17 => ch.val) h)

theorem otherBaysSame_setChannel (x : Channel) : State.otherBaysSame b s (s.setChannel (bayChannel b) x) := fun _ other =>
  ⟨bay_setChannel .., channel_setChannel_of_ne _ (fun same => other (bayChannel_injective same)) x⟩

theorem otherBaysSame_onChannel (f : Channel → Channel) : State.otherBaysSame b s (s.onChannel (bayChannel b) f) :=
  otherBaysSame_setChannel s b _

theorem otherBaysSame_fire (c : Cause) : State.otherBaysSame b s (s.fire c) :=
  otherBaysSame_of_frame b (fire_frame s c) (by decide) (by decide)

theorem otherBaysSame_record (r : Recording) : State.otherBaysSame b s (s.record r) :=
  otherBaysSame_of_frame b (record_frame s r) (by decide) (by decide)

theorem otherBaysSame_raise (f : EventFlag) : State.otherBaysSame b s (s.raise b f) :=
  otherBaysSame_trans (otherBaysSame_onBay _ _ _) (otherBaysSame_fire _ _ _)

theorem otherBaysSame_enterIssuing : State.otherBaysSame b s (s.enterIssuing b) :=
  otherBaysSame_trans (otherBaysSame_trans (otherBaysSame_onBay s b _) (otherBaysSame_onChannel _ b _))
    (otherBaysSame_of_frame b (issue_frame _ b) (by decide) (by decide))

theorem otherBaysSame_judgeIssuing : State.otherBaysSame b s (s.judgeIssuing b) := by
  unfold State.judgeIssuing
  split
  · exact otherBaysSame_trans (otherBaysSame_enterIssuing s b) (otherBaysSame_watchFeedback _ _)
  · exact otherBaysSame_watchFeedback _ _

theorem otherBaysSame_onBay_judgeIssuing (f : Bay → Bay) : State.otherBaysSame b s ((s.onBay b f).judgeIssuing b) :=
  otherBaysSame_trans (otherBaysSame_onBay _ _ _) (otherBaysSame_judgeIssuing _ _)

theorem otherBaysSame_onBay_watchFeedback (f : Bay → Bay) : State.otherBaysSame b s ((s.onBay b f).watchFeedback b) :=
  otherBaysSame_trans (otherBaysSame_onBay _ _ _) (otherBaysSame_watchFeedback _ _)

theorem otherBaysSame_enterStopping (cause : StopCause) : State.otherBaysSame b s (s.enterStopping b cause) :=
  otherBaysSame_trans (otherBaysSame_trans (otherBaysSame_onBay _ _ _) (otherBaysSame_raise _ _ _)) (otherBaysSame_judgeIssuing _ _)

theorem otherBaysSame_plugIn : State.otherBaysSame b s (s.plugIn b) := by
  unfold State.plugIn
  dsimp only
  split
  · exact otherBaysSame_trans (otherBaysSame_raise _ _ _) (otherBaysSame_onBay _ _ _)
  · exact otherBaysSame_raise _ _ _

theorem otherBaysSame_plugOut : State.otherBaysSame b s (s.plugOut b) := by
  have raised := otherBaysSame_raise s b .plugOut
  unfold State.plugOut
  dsimp only
  split
  case h_1 | h_2 | h_3 | h_4 => exact otherBaysSame_trans raised (otherBaysSame_enterStopping _ _ _)
  case h_5 | h_6 => exact otherBaysSame_trans raised (otherBaysSame_onBay _ _ _)
  all_goals exact raised

theorem otherBaysSame_readyHigh : State.otherBaysSame b s (s.readyHigh b) := by
  unfold State.readyHigh
  split
  · exact otherBaysSame_onBay_watchFeedback _ _ _
  · exact otherBaysSame_refl _ _

theorem otherBaysSame_readyLow : State.otherBaysSame b s (s.readyLow b) := by
  unfold State.readyLow
  split
  case h_1 | h_2 | h_3 => exact otherBaysSame_onBay_watchFeedback _ _ _
  case h_4 =>
    split
    · exact otherBaysSame_onBay_judgeIssuing _ _ _
    · exact otherBaysSame_refl _ _
  all_goals exact otherBaysSame_refl _ _

theorem otherBaysSame_enterReleasePending : State.otherBaysSame b s (s.enterReleasePending b) :=
  otherBaysSame_trans (otherBaysSame_trans (otherBaysSame_onBay _ _ _) (otherBaysSame_raise _ _ _)) (otherBaysSame_fire _ _ _)

theorem otherBaysSame_press : State.otherBaysSame b s (s.press b) := by
  unfold State.press
  split
  case h_1 | h_2 | h_3 =>
    split
    · exact otherBaysSame_enterReleasePending _ _
    · exact otherBaysSame_trans (otherBaysSame_onBay _ _ _) (otherBaysSame_raise _ _ _)
  case h_4 => exact otherBaysSame_refl _ _
  all_goals exact otherBaysSame_raise _ _ _

theorem otherBaysSame_contactorFault : State.otherBaysSame b s (s.contactorFault b) := by
  unfold State.contactorFault
  dsimp only
  split
  case h_1 | h_2 | h_3 | h_4 => exact otherBaysSame_trans (otherBaysSame_onBay _ _ _) (otherBaysSame_enterStopping _ _ _)
  case h_5 => exact otherBaysSame_onBay_judgeIssuing _ _ _
  case h_6 => exact otherBaysSame_onBay _ _ _
  case h_10 => exact otherBaysSame_refl _ _
  all_goals exact otherBaysSame_onBay_watchFeedback _ _ _

theorem otherBaysSame_countQuota : State.otherBaysSame b s (s.countQuota b) := by
  have counted := otherBaysSame_onBay s b fun x => { x with session := { x.session with remaining := x.session.remaining - 1 } }
  unfold State.countQuota
  dsimp only
  repeat' split
  · exact otherBaysSame_refl _ _
  · exact otherBaysSame_onBay _ _ _
  · exact otherBaysSame_trans counted (otherBaysSame_trans (otherBaysSame_raise _ _ _) (otherBaysSame_enterStopping _ _ _))
  · exact otherBaysSame_trans counted (otherBaysSame_raise _ _ _)
  · exact counted

theorem otherBaysSame_bayPulse : State.otherBaysSame b s (s.bayPulse b) := by
  unfold State.bayPulse
  split
  · exact otherBaysSame_trans (otherBaysSame_onBay _ _ _) (otherBaysSame_countQuota _ _)
  · exact otherBaysSame_onBay _ _ _

theorem otherBaysSame_findSilence : State.otherBaysSame b s (s.findSilence b) :=
  otherBaysSame_trans (otherBaysSame_trans (otherBaysSame_onChannel _ _ _) (otherBaysSame_record _ _ _)) (otherBaysSame_onBay _ _ _)

theorem channelBay_bayChannel : channelBay (bayChannel b) = some b := bayOf_eq_some rfl

theorem judgeSilence_bayChannel : s.judgeSilence (bayChannel b) = if s.silenceDue b then s.findSilence b else s := by
  unfold State.judgeSilence
  rw [channelBay_bayChannel]

theorem otherBaysSame_judgeSilence : State.otherBaysSame b s (s.judgeSilence (bayChannel b)) := by
  rw [judgeSilence_bayChannel]
  split
  · exact otherBaysSame_findSilence _ _
  · exact otherBaysSame_refl _ _

theorem otherBaysSame_recordNoise (width : Nat) : State.otherBaysSame b s (s.recordNoise (bayChannel b) width) :=
  otherBaysSame_trans (otherBaysSame_onChannel _ _ _) (otherBaysSame_record _ _ _)

theorem otherBaysSame_reject (width : Nat) : State.otherBaysSame b s (s.reject (bayChannel b) width) := by
  unfold State.reject
  dsimp only
  split
  · exact otherBaysSame_trans (otherBaysSame_trans (otherBaysSame_onChannel _ _ _) (otherBaysSame_recordNoise _ _ _))
      (otherBaysSame_judgeSilence _ _)
  · exact otherBaysSame_trans (otherBaysSame_onChannel _ _ _) (otherBaysSame_judgeSilence _ _)

theorem otherBaysSame_findRunaway (period : Word) : State.otherBaysSame b s (s.findRunaway b period) :=
  otherBaysSame_trans (otherBaysSame_record _ _ _) (otherBaysSame_onBay _ _ _)

theorem otherBaysSame_judgeBayPulse (period : Option Word) (a : Word) : State.otherBaysSame b s (s.judgeBayPulse b period a) := by
  have reset := otherBaysSame_onChannel s b fun c => { c with silent := false, silenceRef := a }
  unfold State.judgeBayPulse
  dsimp only
  split
  · exact reset
  · split
    · exact otherBaysSame_trans (otherBaysSame_trans reset (otherBaysSame_setChannel _ _ _)) (otherBaysSame_findRunaway _ _ _)
    · exact otherBaysSame_trans reset (otherBaysSame_setChannel _ _ _)

theorem acceptPulse_bayChannel (a : Word) : s.acceptPulse (bayChannel b) a =
    ((s.onChannel (bayChannel b) fun c => c.count s.clock.ms a).judgeBayPulse b ((s.channel (bayChannel b)).newPeriod a) a).bayPulse b := by
  unfold State.acceptPulse
  rw [channelBay_bayChannel]

theorem otherBaysSame_acceptPulse (a : Word) : State.otherBaysSame b s (s.acceptPulse (bayChannel b) a) := by
  rw [acceptPulse_bayChannel]
  exact otherBaysSame_trans (otherBaysSame_trans (otherBaysSame_onChannel _ _ _) (otherBaysSame_judgeBayPulse _ _ _ _))
    (otherBaysSame_bayPulse _ _)

end

/-! ## The rows of a bay -/

/-- A row that gives one of two states, each with the other bays as they were. -/
theorem otherBaysSame_of_ite {b : Fin 12} {s t u v : State} {c : Prop} [Decidable c]
    (row : (if c then Host.Outcome.next u else .next v : Host.Outcome State Fault Refusal) = .next t)
    (first : State.otherBaysSame b s u) (second : State.otherBaysSame b s v) : State.otherBaysSame b s t := by
  split at row <;> cases row
  · exact first
  · exact second

section
variable {s t : State} {b : Fin 12}

theorem otherBaysSame_plugFilterExpiry (row : exec (.plugFilterExpiry b) s = .next t) : State.otherBaysSame b s t := by
  change execPlugFilterExpiry b s = _ at row
  have taken := otherBaysSame_onBay s b fun x => { x with plugTimer := none, plug := some x.plugLine }
  unfold execPlugFilterExpiry at row
  dsimp only at row
  repeat' split at row
  all_goals cases row
  · exact taken
  · exact otherBaysSame_trans taken (otherBaysSame_plugIn _ b)
  · exact otherBaysSame_trans taken (otherBaysSame_plugOut _ b)
  · exact otherBaysSame_refl s b

theorem otherBaysSame_readyFilterExpiry (row : exec (.readyFilterExpiry b) s = .next t) : State.otherBaysSame b s t := by
  change execReadyFilterExpiry b s = _ at row
  have taken := otherBaysSame_onBay s b fun x => { x with readyTimer := none, ready := x.readyLine }
  unfold execReadyFilterExpiry at row
  dsimp only at row
  repeat' split at row
  all_goals cases row
  · exact taken
  · exact otherBaysSame_trans taken (otherBaysSame_readyHigh _ b)
  · exact otherBaysSame_trans taken (otherBaysSame_readyLow _ b)
  · exact otherBaysSame_refl s b

theorem otherBaysSame_releaseFilterExpiry (row : exec (.releaseFilterExpiry b) s = .next t) : State.otherBaysSame b s t := by
  change execReleaseFilterExpiry b s = _ at row
  have taken := otherBaysSame_onBay s b fun x => { x with releaseLineTimer := none, release := x.releaseLine }
  unfold execReleaseFilterExpiry at row
  dsimp only at row
  repeat' split at row
  all_goals cases row
  · exact otherBaysSame_trans taken (otherBaysSame_press _ b)
  · exact taken
  · exact otherBaysSame_refl s b

theorem otherBaysSame_meterFaultEvent (row : exec (.meterFaultEvent b) s = .next t) : State.otherBaysSame b s t := by
  change execMeterFaultEvent b s = _ at row
  unfold execMeterFaultEvent at row
  dsimp only at row
  repeat' split at row
  all_goals cases row
  · exact otherBaysSame_refl s b
  · exact otherBaysSame_trans (otherBaysSame_onBay s b _) (otherBaysSame_enterStopping _ b _)
  · exact otherBaysSame_onBay s b _

theorem otherBaysSame_meterTrailingEdge (row : exec (.meterTrailingEdge (bayChannel b)) s = .next t) : State.otherBaysSame b s t := by
  change execMeterTrailingEdge (bayChannel b) s = _ at row
  have low := otherBaysSame_onChannel s b fun c => { c with lineActive := false }
  unfold execMeterTrailingEdge at row
  dsimp only at row
  repeat' split at row
  all_goals cases row
  · exact low
  · exact otherBaysSame_trans low (otherBaysSame_reject _ b _)
  · exact otherBaysSame_trans low (otherBaysSame_acceptPulse _ b _)
  · exact otherBaysSame_trans low (otherBaysSame_reject _ b _)
  · exact otherBaysSame_refl s b

/-- A change of a line, or none. -/
theorem otherBaysSame_lineChange {c : Prop} [Decidable c] {f : Bay → Bay}
    (row : (if c then Host.Outcome.next s else .next (s.onBay b f) : Host.Outcome State Fault Refusal) = .next t) :
    State.otherBaysSame b s t :=
  otherBaysSame_of_ite row (otherBaysSame_refl s b) (otherBaysSame_onBay s b f)

end

/-- Settles O5: each row is made of operations of its bay and its channel, and of changes outside the bays and the channels. -/
theorem bayRowsLeaveOtherBaysAlone : Obligations.BayRowsLeaveOtherBaysAlone := by
  intro b s t c mem row
  have same := otherBaysSame_refl s b
  simp only [List.mem_cons, List.not_mem_nil, or_false] at mem
  rcases mem with rfl | rfl | rfl | rfl | rfl | rfl | rfl | rfl | rfl | rfl | rfl | rfl | rfl | rfl | rfl | rfl | rfl | rfl | rfl | rfl |
    rfl | rfl | rfl
  · exact otherBaysSame_plugFilterExpiry row
  · exact otherBaysSame_readyFilterExpiry row
  · exact otherBaysSame_releaseFilterExpiry row
  · exact otherBaysSame_of_ite row same (otherBaysSame_onBay_judgeIssuing s b _)
  · exact otherBaysSame_of_ite row same (otherBaysSame_onBay_judgeIssuing s b _)
  · refine otherBaysSame_of_ite row (otherBaysSame_trans ?_ (otherBaysSame_contactorFault _ b)) same
    exact otherBaysSame_trans (otherBaysSame_trans (otherBaysSame_onBay s b _) (otherBaysSame_record _ b _)) (otherBaysSame_raise _ b _)
  · exact otherBaysSame_of_ite row (otherBaysSame_enterStopping s b _) same
  · exact otherBaysSame_of_ite row (otherBaysSame_enterStopping s b _) same
  · exact otherBaysSame_of_ite row (otherBaysSame_onBay_judgeIssuing s b _) same
  · exact otherBaysSame_of_ite row (otherBaysSame_trans (otherBaysSame_raise s b _) (otherBaysSame_onBay_watchFeedback _ b _)) same
  · exact otherBaysSame_of_ite row (otherBaysSame_trans (otherBaysSame_onBay s b _)
      (otherBaysSame_of_frame b (rw_frame _ _) (by decide) (by decide))) same
  · exact otherBaysSame_meterFaultEvent row
  · exact otherBaysSame_of_ite row (otherBaysSame_findSilence s b) same
  · exact otherBaysSame_of_ite row same (otherBaysSame_onChannel s b _)
  · exact otherBaysSame_meterTrailingEdge row
  · exact otherBaysSame_of_ite row (otherBaysSame_reject s b _) same
  · exact otherBaysSame_of_ite row (otherBaysSame_onChannel s b _) same
  all_goals exact otherBaysSame_lineChange row

/-- Settles O21. -/
theorem lineChangesRestartFilters : Obligations.LineChangesRestartFilters := fun _ _ _ _ =>
  ⟨fun changed => if_neg changed, fun changed => if_neg changed, fun changed => if_neg changed, fun changed => if_neg changed,
    fun same => if_pos same, fun same => if_pos same, fun same => if_pos same, fun same => if_pos same⟩

end Sys2Proof.Machine
end

section
/-! Bay lines, timers and feedback: the rows of the filters, the feedback watch, the timers, and the end of ISSUING. -/

namespace Sys2Proof.Machine

theorem started_iff (s : State) : s.started = true ↔ s.pu.link ≠ .starting := by simp [State.started]

theorem isActive_iff (k : BayState) : k.isActive = true ↔ k = .authorised ∨ k = .paused ∨ k = .charging ∨ k = .releasePending := by
  cases k <;> simp [BayState.isActive]

/-! ## PLUG (R20, R28) -/

/-- A bay after its PLUG filter ran out. -/
def Bay.takePlug (x : Bay) : Bay := { x with plugTimer := none, plug := some x.plugLine }

section
variable {s : State} {b : Fin 12} (timer : (s.bay b).plugTimer = some 0)
include timer

theorem plugFilterExpiry_unchanged (h : s.pu.link = .starting ∨ (s.bay b).plug.getD false = (s.bay b).plugLine) :
    exec (.plugFilterExpiry b) s = .next (s.onBay b Bay.takePlug) := by
  have none : (!s.started || (s.bay b).plug.getD false == (s.bay b).plugLine) = true := by
    rcases h with starting | same
    · simp [State.started, starting]
    · simp [same]
  exact (if_pos timer).trans (if_pos none)

theorem plugFilterExpiry_event (started : s.pu.link ≠ .starting) (changed : (s.bay b).plug.getD false ≠ (s.bay b).plugLine) :
    exec (.plugFilterExpiry b) s =
      .next (if (s.bay b).plugLine then (s.onBay b Bay.takePlug).plugIn b else (s.onBay b Bay.takePlug).plugOut b) := by
  have event : ¬ (!s.started || (s.bay b).plug.getD false == (s.bay b).plugLine) = true := by
    simp [State.started, started, changed]
  refine ((if_pos timer).trans (if_neg event)).trans ?_
  split <;> rfl

end

theorem plugIn_eq (s : State) (b : Fin 12) : s.plugIn b =
    if (s.bay b).state = .vacant then (s.raise b .plugIn).onBay b fun x => { x with state := .plugged } else s.raise b .plugIn := rfl

theorem plugOut_active {s : State} {b : Fin 12} (active : (s.bay b).state.isActive = true) :
    s.plugOut b = (s.raise b .plugOut).enterStopping b .plugLost := by
  unfold State.plugOut
  rcases (isActive_iff _).mp active with e | e | e | e <;> simp only [e]

theorem plugOut_closed {s : State} {b : Fin 12} (closed : (s.bay b).state = .plugged ∨ (s.bay b).state = .ended) :
    s.plugOut b = (s.raise b .plugOut).onBay b fun x => { x with state := .vacant } := by
  unfold State.plugOut
  rcases closed with e | e <;> simp only [e]

theorem plugOut_other {s : State} {b : Fin 12} (other : (s.bay b).state = .vacant ∨ (s.bay b).state = .stopping ∨
    (s.bay b).state = .issuing ∨ (s.bay b).state = .faulted) : s.plugOut b = s.raise b .plugOut := by
  unfold State.plugOut
  rcases other with e | e | e | e <;> simp only [e]

/-- Settles O22: a level that differs from the taken one is a plug-in or a plug-out, and each acts by the bay's state. -/
theorem plugFilterTakesPlugEvents : Obligations.PlugFilterTakesPlugEvents := by
  intro s b x t timer
  have state : ((s.onBay b Bay.takePlug).bay b).state = x.state := by simp [Bay.takePlug, x]
  refine ⟨plugFilterExpiry_unchanged timer, fun started low high => ?_, fun started high low => ?_⟩
  · have changed : x.plug.getD false ≠ x.plugLine := by
      rw [high]
      cases plug : x.plug with
      | none => simp
      | some k => cases k with
        | true => exact absurd plug low
        | false => simp
    refine (plugFilterExpiry_event timer started changed).trans ?_
    rw [if_pos high, plugIn_eq, state]
    rfl
  · have changed : x.plug.getD false ≠ x.plugLine := by rw [high, low]; simp
    have event := plugFilterExpiry_event timer started changed
    rw [if_neg (by simpa [x] using low)] at event
    refine ⟨fun active => event.trans ?_, fun closed => event.trans ?_, fun other => event.trans ?_⟩
    · exact congrArg _ (plugOut_active (by rw [state]; exact active))
    · exact congrArg _ (plugOut_closed (by rw [state]; exact closed))
    · exact congrArg _ (plugOut_other (by rw [state]; exact other))

/-! ## READY (R21, R31, R39, R46) -/

theorem readyHigh_authorised {s : State} {b : Fin 12} (h : (s.bay b).state = .authorised) :
    s.readyHigh b = (s.onBay b Bay.toPaused).watchFeedback b := if_pos h

theorem readyLow_ready {s : State} {b : Fin 12} (h : (s.bay b).state = .paused ∨ (s.bay b).state = .charging) :
    s.readyLow b = (s.onBay b Bay.toAuthorised).watchFeedback b := by
  unfold State.readyLow
  rcases h with e | e <;> simp only [e]

theorem readyLow_stopping {s : State} {b : Fin 12} (h : (s.bay b).state = .stopping) : s.readyLow b =
    if (s.bay b).drive then (s.onBay b fun x => { x with drive := false, stopDelayTimer := none }).judgeIssuing b else s := by
  simp only [State.readyLow, h]

theorem readyLow_other {s : State} {b : Fin 12} (h : (s.bay b).state = .vacant ∨ (s.bay b).state = .plugged ∨
    (s.bay b).state = .authorised ∨ (s.bay b).state = .issuing ∨ (s.bay b).state = .ended ∨ (s.bay b).state = .faulted) :
    s.readyLow b = s := by
  unfold State.readyLow
  rcases h with e | e | e | e | e | e <;> simp only [e]

theorem readyFilterExpiry_unchanged {s : State} {b : Fin 12} (timer : (s.bay b).readyTimer = some 0)
    (h : s.pu.link = .starting ∨ (s.bay b).ready = (s.bay b).readyLine) :
    exec (.readyFilterExpiry b) s = .next (s.onBay b Bay.takeReady) := by
  have none : (!s.started || (s.bay b).ready == (s.bay b).readyLine) = true := by
    rcases h with starting | same
    · simp [State.started, starting]
    · simp [same]
  exact (if_pos timer).trans (if_pos none)

/-- Settles O23: a level that differs from the taken one is READY high or READY low, and each acts by the bay's state. -/
theorem readyFilterTakesReadyEvents : Obligations.ReadyFilterTakesReadyEvents := by
  intro s b x t timer
  have taken : (s.onBay b Bay.takeReady).bay b = x.takeReady := bay_onBay_self ..
  refine ⟨readyFilterExpiry_unchanged timer, fun started low high => ?_, fun started high low => ?_⟩
  · have event := (readyFilterExpiry_due started timer).trans
      (congrArg _ ((if_neg (c := x.ready = x.readyLine) (by rw [low, high]; decide)).trans (if_pos high)))
    refine ⟨fun authorised => event.trans (congrArg _ (readyHigh_authorised ?_)),
      fun other => event.trans (congrArg _ (readyHigh_of_ne_authorised ?_))⟩
    · rw [taken]; exact authorised
    · rw [taken]; exact other
  · have event := (readyFilterExpiry_due started timer).trans
      (congrArg _ ((if_neg (c := x.ready = x.readyLine) (by rw [low, high]; decide)).trans
        (if_neg (c := x.readyLine = true) (by rw [low]; decide))))
    refine ⟨fun ready => event.trans (congrArg _ (readyLow_ready ?_)), fun pending => event.trans (congrArg _ (readyLow_releasePending ?_)),
      fun stopping closed => event.trans (congrArg _ ((readyLow_stopping ?_).trans (if_pos ?_))),
      fun stopping opened => event.trans (congrArg _ ((readyLow_stopping ?_).trans (if_neg ?_))),
      fun other => event.trans (congrArg _ (readyLow_other ?_))⟩
    all_goals rw [taken]
    · exact ready
    · exact pending
    · exact stopping
    · exact closed
    · exact stopping
    · exact Bool.not_eq_true _ |>.mpr opened
    · exact other

/-! ## RELEASE (R22, R38) -/

/-- A bay after its RELEASE filter ran out. -/
def Bay.takeRelease (x : Bay) : Bay := { x with releaseLineTimer := none, release := x.releaseLine }

section
variable {s : State} {b : Fin 12} (timer : (s.bay b).releaseLineTimer = some 0)
include timer

theorem releaseFilterExpiry_press (started : s.pu.link ≠ .starting) (low : (s.bay b).release = false)
    (high : (s.bay b).releaseLine = true) : exec (.releaseFilterExpiry b) s = .next ((s.onBay b Bay.takeRelease).press b) :=
  (if_pos timer).trans (if_pos (by simp [State.started, started, low, high]))

theorem releaseFilterExpiry_unchanged (h : s.pu.link = .starting ∨ (s.bay b).release = true ∨ (s.bay b).releaseLine = false) :
    exec (.releaseFilterExpiry b) s = .next (s.onBay b Bay.takeRelease) := by
  refine (if_pos timer).trans (if_neg ?_)
  rcases h with starting | pressed | low
  · simp [State.started, starting]
  · simp [pressed]
  · simp [low]

end

theorem press_taken {s : State} {b : Fin 12} (state : (s.bay b).state = .authorised ∨ (s.bay b).state = .paused ∨
    (s.bay b).state = .charging) : s.press b = if (s.bay b).maintenance.isNone then s.enterReleasePending b
      else (s.onBay b fun x => { x with deferredRelease := true }).raise b .releaseDeferred := by
  unfold State.press
  rcases state with e | e | e <;> simp only [e]

theorem press_other {s : State} {b : Fin 12} (state : (s.bay b).state = .vacant ∨ (s.bay b).state = .plugged ∨
    (s.bay b).state = .stopping ∨ (s.bay b).state = .issuing ∨ (s.bay b).state = .ended ∨ (s.bay b).state = .faulted) :
    s.press b = s.raise b .releasePressed := by
  unfold State.press
  rcases state with e | e | e | e | e | e <;> simp only [e]

theorem press_releasePending {s : State} {b : Fin 12} (state : (s.bay b).state = .releasePending) : s.press b = s := by
  simp only [State.press, state]

/-- Settles O24: a rise of the taken level is a press, which acts by the bay's state and its maintenance. -/
theorem releaseFilterTakesPresses : Obligations.ReleaseFilterTakesPresses := by
  intro s b x t timer
  have taken : (s.onBay b Bay.takeRelease).bay b = x.takeRelease := bay_onBay_self ..
  refine ⟨releaseFilterExpiry_unchanged timer, fun started low high => ?_⟩
  have event := releaseFilterExpiry_press timer started low high
  refine ⟨fun state => ?_, fun pending => event.trans (congrArg _ (press_releasePending ?_)),
    fun other => event.trans (congrArg _ (press_other ?_))⟩
  · have press := press_taken (s := s.onBay b Bay.takeRelease) (b := b) (by rw [taken]; exact state)
    rw [taken] at press
    refine ⟨fun none => event.trans (congrArg _ (press.trans (if_pos ?_))), fun shown => event.trans (congrArg _ (press.trans (if_neg ?_)))⟩
    · exact Option.isNone_iff_eq_none.mpr none
    · exact fun none => shown (Option.isNone_iff_eq_none.mp none)
  · rw [taken]; exact pending
  · rw [taken]; exact other

end Sys2Proof.Machine
end

section
/-! Contactor feedback, the timers of a bay, entry to ISSUING and its end. -/

namespace Sys2Proof.Machine

theorem onBay_congr {s : State} {b : Fin 12} {f g : Bay → Bay} (h : f (s.bay b) = g (s.bay b)) : s.onBay b f = s.onBay b g :=
  congrArg (s.setBay b) h

/-! ## The feedback watch (R49) -/

theorem watch_quiet {x : Bay} {running : Bool} (h : x.drive = x.feedback ∨ x.state = .faulted ∨ running = false) :
    (x.watch running).feedbackTimer = none := by
  have quiet : (!running || x.state == .faulted || x.drive == x.feedback) = true := by
    rcases h with agree | faulted | stopped
    · simp [agree]
    · simp [faulted]
    · simp [stopped]
  unfold Bay.watch
  rw [if_pos quiet]

theorem watch_disagrees {x : Bay} (state : x.state ≠ .faulted) (disagree : x.drive ≠ x.feedback) (fresh : x.feedbackFound = false) :
    (x.watch true).feedbackTimer = some (x.feedbackTimer.getD Config.feedbackMs) := by
  have runs : ¬ (!true || x.state == .faulted || x.drive == x.feedback) = true := by simp [state, disagree]
  unfold Bay.watch
  rw [if_neg runs, if_neg (by rw [fresh]; decide)]

/-! ## A contactor fault (R50) -/

theorem contactorFault_active {s : State} {b : Fin 12} (active : (s.bay b).state.isActive = true) : s.contactorFault b =
    (s.onBay b fun x => { x with drive := false, session := { x.session with fault := true } }).enterStopping b .contactorFault := by
  unfold State.contactorFault
  rcases (isActive_iff _).mp active with e | e | e | e <;> simp only [e]

theorem contactorFault_stopping {s : State} {b : Fin 12} (state : (s.bay b).state = .stopping) : s.contactorFault b =
    (s.onBay b fun x => { x with drive := false, session := { x.session with fault := true } }).judgeIssuing b := by
  simp only [State.contactorFault, state]

theorem contactorFault_issuing {s : State} {b : Fin 12} (state : (s.bay b).state = .issuing) :
    s.contactorFault b = s.onBay b fun x => { x with weldMark := true } := by
  simp only [State.contactorFault, state]

theorem contactorFault_closed {s : State} {b : Fin 12} (state : (s.bay b).state = .vacant ∨ (s.bay b).state = .plugged ∨
    (s.bay b).state = .ended) : s.contactorFault b = (s.onBay b fun x => { x with state := .faulted }).watchFeedback b := by
  unfold State.contactorFault
  rcases state with e | e | e <;> simp only [e]

theorem contactorFault_faulted {s : State} {b : Fin 12} (state : (s.bay b).state = .faulted) : s.contactorFault b = s := by
  simp only [State.contactorFault, state]

theorem field_faultDetail (x : Bay) : field x.faultDetail = if x.drive then 2 else 1 := by
  cases drive : x.drive <;> simp only [Bay.faultDetail, drive] <;> rfl

/-- Settles O25: the watch by its condition, and the fault by the bay's state. -/
theorem feedbackIsWatchedAndItsFaultActs : Obligations.FeedbackIsWatchedAndItsFaultActs := by
  intro s b closed x y t faulted
  have watched : y = x.watch (s.pu.link != .starting) := bay_watchFeedback_self s b
  refine ⟨fun changed => if_neg changed, fun same => if_pos same, fun quiet => ?_, fun started state disagree fresh => ?_,
    onBay_frame s b _, otherBaysSame_watchFeedback s b, fun timer => ?_⟩
  · rw [watched]
    refine watch_quiet (quiet.imp id (Or.imp id fun starting => ?_))
    rw [starting]
    rfl
  · have runs : (s.pu.link != .starting) = true := by simpa using started
    rw [watched, runs, watch_disagrees state disagree fresh]
    refine ⟨fun none => ?_, fun n running => ?_⟩
    · rw [none]; rfl
    · rw [running]; rfl
  · have state : (t.bay b).state = x.state := by simp [t, x, bay_record]
    have fault : exec (.feedbackTimerExpiry b) s = .next (t.contactorFault b) := by
      refine (if_pos timer).trans ?_
      rw [field_faultDetail]
    refine ⟨fun active => fault.trans (congrArg _ (contactorFault_active (by rw [state]; exact active))),
      fun stopping => fault.trans (congrArg _ (contactorFault_stopping (state.trans stopping))),
      fun issuing => fault.trans (congrArg _ (contactorFault_issuing (state.trans issuing))),
      fun closed => fault.trans (congrArg _ (contactorFault_closed (by rw [state]; exact closed))),
      fun faulted => fault.trans (congrArg _ (contactorFault_faulted (state.trans faulted)))⟩

/-! ## Timers, meter faults and stopping (R33, R42, R45, R46, R47, R53) -/

theorem readyToIssue_iff (x : Bay) : x.readyToIssue = true ↔
    x.state = .stopping ∧ x.drive = false ∧ (x.feedback = false ∨ x.session.fault = true) := by
  simp [Bay.readyToIssue, and_assoc]

theorem judgeIssuing_ready {s : State} {b : Fin 12} (ready : (s.bay b).readyToIssue = true) :
    s.judgeIssuing b = (s.enterIssuing b).watchFeedback b := by
  unfold State.judgeIssuing
  rw [if_pos ready]

theorem judgeIssuing_not_ready {s : State} {b : Fin 12} (waits : ¬ (s.bay b).readyToIssue = true) :
    s.judgeIssuing b = s.watchFeedback b := by
  unfold State.judgeIssuing
  rw [if_neg waits]

/-- Settles O26: each row under its occasion, and the judgement of R47 by its condition. -/
theorem timersAndMeterFaultsStopABay : Obligations.TimersAndMeterFaultsStopABay := by
  intro s b cause x
  have taken (n : Nat) (faults : x.meterFaults = n + 1) : ¬ x.meterFaults = 0 := by omega
  have fewer (n : Nat) (faults : x.meterFaults = n + 1) :
      s.onBay b (fun y => { y with meterFaults := y.meterFaults - 1 }) = s.onBay b fun y => { y with meterFaults := n } :=
    onBay_congr (by rw [show (s.bay b).meterFaults = n + 1 from faults]; rfl)
  refine ⟨fun timer state => if_pos ⟨timer, state⟩, fun timer state => if_pos ⟨timer, state⟩, fun timer state => if_pos ⟨timer, state⟩,
    fun n faults => ⟨fun started active => ?_, fun closed => ?_⟩, rfl, fun stopping opened issue => ?_, fun waits => ?_, fun f => rfl, rfl⟩
  · rw [← fewer n faults]
    exact (if_neg (taken n faults)).trans (if_pos (by rw [Bool.and_eq_true, started_iff]; exact ⟨started, active⟩))
  · rw [← fewer n faults]
    exact (if_neg (taken n faults)).trans (if_neg (by rw [closed, Bool.and_false]; decide))
  · exact judgeIssuing_ready ((readyToIssue_iff x).mpr ⟨stopping, opened, issue⟩)
  · refine judgeIssuing_not_ready fun ready => ?_
    obtain ⟨stopping, opened, issue⟩ := (readyToIssue_iff x).mp ready
    rcases waits with other | driven | ⟨feedback, fault⟩
    · exact other stopping
    · rw [opened] at driven; cases driven
    · rw [feedback, fault] at issue; simp at issue

/-! ## Entry to ISSUING and its end (R47, R48, R125) -/

/-- Attribution leaves the session but its tallies. -/
theorem attribute_counts (x : Bay) : x.attribute.sessionPulses = 0 ∧ x.attribute.unownedPulses = 0 ∧ x.attribute.roundOverQuota = 0 ∧
    x.attribute.session.number = x.session.number ∧ x.attribute.session.stopCause = x.session.stopCause := by
  obtain ⟨tallies, attributed⟩ := attribute_eq x
  rw [attributed]
  exact ⟨rfl, rfl, rfl, rfl, rfl⟩

/-- Settles O27. -/
theorem entryToIssuingIssuesTheReceipt : Obligations.EntryToIssuingIssuesTheReceipt := by
  intro s b t x y sequence body check
  have bay : y = { x.attribute with
      state := .issuing, stopDelayTimer := none, session := { x.attribute.session with stopTime := some s.clock.siteTime } } :=
    bay_enterIssuing_self s b
  obtain ⟨pulses, unowned, beyond, number, cause⟩ := attribute_counts x
  refine ⟨?_, ?_, ?_, ?_, ?_, ?_, ?_, ?_, ?_, ?_, ?_, ?_, enterIssuing_frame s b, otherBaysSame_enterIssuing s b⟩
  · rw [bay]
  · rw [bay]
  · rw [bay]
  · rw [bay]; exact cause
  · rw [bay]; exact number
  · rw [bay]; exact pulses
  · rw [bay]; exact unowned
  · rw [bay]; exact beyond
  · rw [bay]
  · exact channel_setChannel_self _ _ _
  · rfl
  · rfl

/-- Settles O29. -/
theorem issuingEndsWithTheClosingReport : Obligations.IssuingEndsWithTheClosingReport := by
  intro s b x
  refine ⟨fun issuing finished => (if_pos (exitDue_iff.mpr ⟨finished, issuing⟩)).trans ?_, fun n reports => ?_, fun _ _ => ⟨rfl, rfl⟩⟩
  · have after : ((s.raise b .receiptIssued).bay b).afterIssuing =
        if x.session.fault = true ∨ x.weldMark = true then .faulted else if x.plug = some true then .ended else .vacant := by
      rw [bay_raise_self]
      simp [Bay.afterIssuing, x]
    refine congrArg (fun u : State => Host.Outcome.next (u.watchFeedback b)) (onBay_congr ?_)
    rw [after]
  · have due : s.closedReportDue b = true := closedReportDue_iff.mpr (by rw [reports]; exact Nat.succ_ne_zero n)
    refine (if_pos due).trans ?_
    have fewer : s.onBay b (fun y => { y with closedReports := y.closedReports - 1 }) = s.onBay b fun y => { y with closedReports := n } :=
      onBay_congr (by rw [show (s.bay b).closedReports = n + 1 from reports]; rfl)
    rw [fewer]

end Sys2Proof.Machine
end

section
/-! Fields as bytes, the least significant first: what is written at an offset is read back there. -/

namespace Sys2Proof.Machine

/-- Bytes that are the digits of a number read as it. -/
theorem leNat_of_digits {l : List Byte} {n : Nat} : ∀ {o w : Nat}, (∀ i < n, l.getD (o + i) 0 = BitVec.ofNat 8 (w / 256 ^ i)) →
    leNat l o n = w % 256 ^ n := by
  induction n with
  | zero => intro o w _; simp [leNat, Nat.mod_one]
  | succ n ih =>
    intro o w digits
    have head : (l.getD o 0).toNat = w % 256 := by simpa using congrArg BitVec.toNat (digits 0 (Nat.succ_pos n))
    have tail : leNat l (o + 1) n = w / 256 % 256 ^ n := ih fun i hi => by
      have digit := digits (i + 1) (Nat.succ_lt_succ hi)
      rwa [Nat.pow_succ', ← Nat.div_div_eq_div_mul, ← Nat.add_assoc, Nat.add_right_comm] at digit
    rw [leNat, head, tail, Nat.pow_succ', Nat.mod_mul]

@[simp] theorem length_leBytes (n v : Nat) : (leBytes n v).length = n := by simp [leBytes]

@[simp] theorem length_wordBytes (w : Word) : (wordBytes w).length = 4 := length_leBytes 4 _

/-- A field read where it stands first. -/
theorem leNat_leBytes (n v : Nat) (rest : List Byte) : leNat (leBytes n v ++ rest) 0 n = min v (256 ^ n - 1) := by
  have top : min v (256 ^ n - 1) < 256 ^ n := by
    have := Nat.pow_pos (n := n) (show 0 < 256 by decide)
    omega
  rw [leNat_of_digits (w := min v (256 ^ n - 1)) fun i hi => ?_, Nat.mod_eq_of_lt top]
  rw [Nat.zero_add, getD_append_of_lt (by simpa using hi), getD_of_lt (by simpa using hi)]
  simp [leBytes]

/-- A field read past what stands before it. -/
theorem leNat_append_right (l rest : List Byte) (n : Nat) : ∀ {o : Nat}, l.length ≤ o →
    leNat (l ++ rest) o n = leNat rest (o - l.length) n := by
  induction n with
  | zero => exact fun _ => rfl
  | succ n ih =>
    intro o past
    rw [leNat, leNat, ih (Nat.le_succ_of_le past), getD_append_of_le past, Nat.succ_sub past]

/-- A field read past the fields before it. -/
theorem leNat_leBytes_skip {k o : Nat} (v n : Nat) (rest : List Byte) (past : k ≤ o) :
    leNat (leBytes k v ++ rest) o n = leNat rest (o - k) n := by
  rw [leNat_append_right _ _ _ (by simpa using past), length_leBytes]

theorem leNat_wordBytes (w : Word) (rest : List Byte) : leNat (wordBytes w ++ rest) 0 4 = w.toNat := by
  rw [wordBytes, leNat_leBytes]
  have := w.isLt
  omega

theorem leNat_wordBytes_skip {o : Nat} (w : Word) (n : Nat) (rest : List Byte) (past : 4 ≤ o) :
    leNat (wordBytes w ++ rest) o n = leNat rest (o - 4) n := leNat_leBytes_skip _ n rest past

/-- A last field, nothing after it. -/
theorem leNat_leBytes_last (n v : Nat) : leNat (leBytes n v) 0 n = min v (256 ^ n - 1) := by
  have read := leNat_leBytes n v []
  rwa [List.append_nil] at read

/-! ## The receipt record (R126) -/

theorem bits_lt (bs : List Bool) : bits bs < 2 ^ bs.length := by
  induction bs with
  | nil => decide
  | cons b bs ih =>
    rw [bits, List.length_cons, Nat.pow_succ']
    cases b <;> simp only [bit] <;> simp <;> omega

theorem classCode_le (c : Option SessionClass) : classCode c ≤ 255 := by
  rcases c with - | c
  · decide
  · cases c <;> decide

theorem stopCode_le (c : Option StopCause) : stopCode c ≤ 255 := by
  rcases c with - | c
  · decide
  · cases c <;> decide

/-- Settles O28: each field is read at its offset, past the fields before it. -/
theorem receiptFieldsStandAtTheirOffsets : Obligations.ReceiptFieldsStandAtTheirOffsets := by
  intro b x epoch sequence body
  have form : body = receiptBody b x epoch sequence := rfl
  have bay : b.val ≤ 255 := by omega
  have cls : classCode x.cls ≤ 255 := classCode_le x.cls
  have cause : stopCode x.stopCause ≤ 255 := stopCode_le x.stopCause
  have flags : x.receiptFlags ≤ 255 := Nat.le_trans (Nat.le_of_lt (bits_lt _)) (by simp)
  have reference := x.reference.isLt
  simp only [receiptBody, List.append_assoc] at form
  have flagsByte : min x.receiptFlags 255 = bit x.timeUnset + 2 * bit x.fault + 4 * bit (decide (0 < x.tallies.overQuota)) := by
    rw [Nat.min_eq_left flags]
    simp only [Session.receiptFlags, bits]
    omega
  refine ⟨?_, ?_, ?_, ?_, ?_, ?_, ?_, ?_, ?_, fun w stop => ?_, ?_, ?_, ?_, ?_, ?_, ?_, by decide +kernel, rfl⟩
  · simp [form]
  all_goals
    simp [form, leNat_leBytes, leNat_leBytes_skip, leNat_wordBytes, leNat_wordBytes_skip, leNat_leBytes_last, bay, cls, cause, flagsByte]
  · rw [stop]; rfl
  · omega

end Sys2Proof.Machine
end

section
/-! The meter channels: edges, acceptance, rejection, silence, runaway, and the pulses a bay takes. -/

namespace Sys2Proof.Machine

/-! ## Edges (R4, R5) -/

theorem setChannel_self (s : State) (ch : Fin 17) : s.setChannel ch (s.channel ch) = s := by
  have same : s.channels.set ch (s.channel ch) = s.channels := by simp [State.channel]
  rw [State.setChannel, same]

/-- Settles O16. -/
theorem meterEdgesJudgePulses : Obligations.MeterEdgesJudgePulses := by
  intro s ch c t lo hi
  refine ⟨fun active => if_pos active, fun low => ?_, fun low none => ?_, fun active none => ?_, fun a opened active => ?_,
    fun a opened beyond => if_pos (widthDue_iff.mpr ⟨a, opened, beyond⟩)⟩
  · exact if_neg (by rw [show (s.channel ch).lineActive = false from low]; decide)
  · refine (if_neg (by rw [show (s.channel ch).lineActive = false from low]; decide)).trans (congrArg _ ?_)
    unfold State.onChannel
    dsimp only
    rw [show (s.channel ch).inProgress = Option.none from none]
    rfl
  · refine (if_pos active).trans ?_
    simp only [show (s.channel ch).inProgress = Option.none from none]
    rfl
  · intro width
    have row : exec (.meterTrailingEdge ch) s = if width < lo then .next (t.reject ch width)
        else if width ≤ hi then .next (t.acceptPulse ch a) else .next (t.reject ch (hi + 1)) := by
      refine (if_pos active).trans ?_
      simp only [show (s.channel ch).inProgress = some a from opened]
      rfl
    refine ⟨fun short => row.trans (if_pos short), fun long within => row.trans ((if_neg (Nat.not_lt.mpr long)).trans (if_pos within))⟩

/-! ## A range count's end (log 17) -/

theorem countOn_of_lt {now : Word} {n : Nat} (h : n < wordMax) : countOn now n = n + 1 := if_pos h

/-! ## Silence (R12, R13) and rejection (R5, R11) -/

theorem channelBay_site {ch : Fin 17} (h : 12 ≤ ch.val) : channelBay ch = none := bayOf_eq_none (by omega)

theorem judgeSilence_site {s : State} {ch : Fin 17} (h : 12 ≤ ch.val) : s.judgeSilence ch = s := by
  unfold State.judgeSilence
  rw [channelBay_site h]

/-- Settles O18. -/
theorem rejectedPulseCountsAsNoise : Obligations.RejectedPulseCountsAsNoise := by
  intro s ch width c d t
  have counted : t.channel ch = d := channel_setChannel_self s ch d
  have reject : s.reject ch width = (if t.started && decide (16 ≤ d.noise) && !d.noiseReported then t.recordNoise ch width else t).judgeSilence ch := by
    rw [← counted]
    rfl
  refine ⟨fun b bay => ?_, fun site => judgeSilence_site site, fun quiet => ?_, fun started noisy fresh => ?_⟩
  · subst bay
    intro gone due
    have dueIff : s.silenceDue b = true ↔ due := by
      rw [silenceDue_iff, Nat.mul_comm]
      simp only [due, Nat.pos_iff_ne_zero]
      rfl
    rw [judgeSilence_bayChannel]
    exact ⟨fun holds => if_pos (dueIff.mpr holds), fun fails => if_neg (mt dueIff.mp fails)⟩
  · rw [reject, if_neg]
    have same : d.noiseReported = c.noiseReported := rfl
    rcases quiet with starting | few | reported
    · simp [State.started, t, starting]
    · have below : ¬ 16 ≤ d.noise := by
        change ¬ 16 ≤ min 65535 (c.noise + 1)
        omega
      simp [below]
    · rw [same, reported]; simp
  · rw [reject, if_pos]
    · refine congrArg (fun u : State => State.judgeSilence u ch) ?_
      unfold State.recordNoise State.onChannel
      rw [counted]
      rfl
    · have loud : 16 ≤ d.noise := by
        change 16 ≤ min 65535 (c.noise + 1)
        omega
      have unreported : d.noiseReported = false := fresh
      simp [State.started, t, started, loud, unreported]

theorem energy_bayChannel (c : ChannelConfig) (b : Fin 12) : c.energy (bayChannel b) = 1 := if_pos b.isLt

theorem energy_site (c : ChannelConfig) (k : Fin 5) : c.energy ⟨12 + k.val, by omega⟩ = c.energies[k] := by
  unfold ChannelConfig.energy
  rw [if_neg (by simp)]
  simp

/-- Settles O19. -/
theorem stalenessAndSilence : Obligations.StalenessAndSilence := by
  intro s ch b
  refine ⟨fun e edge old => if_pos (staleDue_iff.mpr ⟨e, edge, old⟩), fun e edge recent => if_neg fun due => ?_, ?_,
    fun quiet => if_neg fun due => ?_, fun p e period edge => ?_, fun none => ?_, energy_bayChannel _ b, energy_site _⟩
  · obtain ⟨e', edge', old⟩ := staleDue_iff.mp due
    rw [edge, Option.some.injEq] at edge'
    subst edge'
    exact absurd old (Nat.not_lt.mpr recent)
  · intro c gone drive allowance silent inProgress beyond
    rw [Nat.mul_comm] at beyond
    exact if_pos (silenceDue_iff.mpr ⟨drive, Nat.pos_iff_ne_zero.mp allowance, silent, inProgress, beyond⟩)
  · obtain ⟨drive, allowance, silent, -⟩ := silenceDue_iff.mp due
    rcases quiet with opened | none | found
    · rw [drive] at opened; cases opened
    · exact allowance none
    · rw [silent] at found; cases found
  · simp only [State.estimate, period, edge]
    rfl
  · simp only [State.estimate, none]

/-! ## Channels after the operations of a bay -/

/-- The channels of the second state are those of the first, but for the round pulses of one bay's channel. -/
def State.roundChanged (b : Fin 12) (s t : State) : Prop :=
  ∃ r, t.channels = (s.onChannel (bayChannel b) fun c => { c with round := r }).channels

theorem roundChanged_of_channels {b : Fin 12} {s t u : State} (same : t.channels = s.channels) (h : State.roundChanged b t u) :
    State.roundChanged b s u := by
  obtain ⟨r, channels⟩ := h
  refine ⟨r, channels.trans ?_⟩
  simp only [State.onChannel, State.setChannel, State.channel, same]

theorem roundChanged_of_same {b : Fin 12} {s t : State} (same : t.channels = s.channels) : State.roundChanged b s t :=
  ⟨(s.channel (bayChannel b)).round, same.trans (congrArg State.channels (setChannel_self s (bayChannel b))).symm⟩

theorem roundChanged_judgeIssuing (s : State) (b : Fin 12) : State.roundChanged b s (s.judgeIssuing b) := by
  unfold State.judgeIssuing
  split
  · exact ⟨0, rfl⟩
  · exact roundChanged_of_same rfl

theorem roundChanged_enterStopping (s : State) (b : Fin 12) (cause : StopCause) : State.roundChanged b s (s.enterStopping b cause) :=
  roundChanged_of_channels (by simp [onBay_eq]) (roundChanged_judgeIssuing _ b)

theorem roundChanged_countQuota (s : State) (b : Fin 12) : State.roundChanged b s (s.countQuota b) := by
  unfold State.countQuota
  dsimp only
  repeat' split
  · exact roundChanged_of_same rfl
  · exact roundChanged_of_same rfl
  · exact roundChanged_of_channels (by simp [onBay_eq]) (roundChanged_enterStopping _ b _)
  · exact roundChanged_of_same (by simp [onBay_eq])
  · exact roundChanged_of_same rfl

theorem roundChanged_bayPulse (s : State) (b : Fin 12) : State.roundChanged b s (s.bayPulse b) := by
  unfold State.bayPulse
  split
  · exact roundChanged_of_channels rfl (roundChanged_countQuota _ b)
  · exact roundChanged_of_same rfl

/-! ## Runaway (R14, R15) -/

theorem runawayPeriod_iff (pmax p : Nat) : runawayPeriod pmax p = true ↔ 5 * pmax * p < 14400000 := by simp [runawayPeriod]

/-- The judgement of a period changes the count and the flag, and nothing else of a channel. -/
theorem judgeRunaway_eq (c : Channel) (pmax p : Nat) :
    ∃ n f, (c.judgeRunaway pmax p).1 = { c with runCount := n, runaway := f } := by
  unfold Channel.judgeRunaway
  repeat' split
  · exact ⟨0, false, rfl⟩
  · exact ⟨c.runCount + 1, c.runaway, rfl⟩
  · exact ⟨0, true, rfl⟩

theorem onChannel_setChannel (s : State) (ch : Fin 17) (x : Channel) (f : Channel → Channel) :
    (s.setChannel ch x).onChannel ch f = s.setChannel ch (f x) := by
  rw [State.onChannel, channel_setChannel_self]
  simp [State.setChannel]

theorem setChannel_setChannel (s : State) (ch : Fin 17) (x y : Channel) : (s.setChannel ch x).setChannel ch y = s.setChannel ch y := by
  simp [State.setChannel]

/-- The channel of an accepted pulse of a bay, before its period is judged. -/
def Channel.heard (c : Channel) (a : Word) : Channel := { c with silent := false, silenceRef := a }

theorem judgeBayPulse_none (s : State) (b : Fin 12) (x : Channel) (a : Word) :
    (s.setChannel (bayChannel b) x).judgeBayPulse b none a = s.setChannel (bayChannel b) (x.heard a) := by
  unfold State.judgeBayPulse
  exact onChannel_setChannel s _ x _

theorem judgeBayPulse_some (s : State) (b : Fin 12) (x : Channel) (p a : Word) :
    (s.setChannel (bayChannel b) x).judgeBayPulse b (some p) a =
      let judged := (x.heard a).judgeRunaway (s.bay b).config.pmax p.toNat
      let t := s.setChannel (bayChannel b) judged.1
      if judged.2 then t.findRunaway b p else t := by
  unfold State.judgeBayPulse
  simp only [onChannel_setChannel, channel_setChannel_self, setChannel_setChannel, bay_setChannel]
  rfl

/-- The judgement of a bay's pulse changes its channel to one that is heard, with a runaway count and flag. -/
theorem channels_judgeBayPulse (s : State) (b : Fin 12) (x : Channel) (period : Option Word) (a : Word) :
    ∃ n f, ((s.setChannel (bayChannel b) x).judgeBayPulse b period a).channels =
      (s.setChannel (bayChannel b) { x.heard a with runCount := n, runaway := f }).channels := by
  cases period with
  | none => exact ⟨x.runCount, x.runaway, by rw [judgeBayPulse_none]; rfl⟩
  | some p =>
    obtain ⟨n, f, judged⟩ := judgeRunaway_eq (x.heard a) (s.bay b).config.pmax p.toNat
    refine ⟨n, f, ?_⟩
    rw [judgeBayPulse_some]
    dsimp only
    rw [judged]
    split
    · exact ((findRunaway_frame _ b p).same .channels (by decide)).symm
    · rfl

/-- The channel of an accepted pulse that measures no period (R6). -/
def Channel.countFirst (c : Channel) (now a : Word) : Channel :=
  { c with inProgress := none, total := c.total + 1, round := countOn now c.round, lastEdge := some a }

theorem acceptPulse_first {s : State} {b : Fin 12} {a : Word} (first : (s.channel (bayChannel b)).lastEdge = none) :
    s.acceptPulse (bayChannel b) a =
      ((s.setChannel (bayChannel b) ((s.channel (bayChannel b)).countFirst s.clock.ms a)).judgeBayPulse b none a).bayPulse b := by
  rw [acceptPulse_bayChannel]
  unfold State.onChannel Channel.count Channel.newPeriod
  dsimp only
  rw [first]
  rfl

theorem acceptPulse_again {s : State} {b : Fin 12} {a p : Word} (edge : (s.channel (bayChannel b)).lastEdge = some p) :
    s.acceptPulse (bayChannel b) a = ((s.setChannel (bayChannel b)
      { (s.channel (bayChannel b)).countFirst s.clock.ms a with lastPeriod := some (a - p) }).judgeBayPulse b (some (a - p)) a).bayPulse b := by
  rw [acceptPulse_bayChannel]
  unfold State.onChannel Channel.count Channel.newPeriod
  dsimp only
  rw [edge]
  rfl

/-- Settles O20. -/
theorem runawayIsJudgedPerPeriod : Obligations.RunawayIsJudgedPerPeriod := by
  refine ⟨fun c pmax p => ⟨fun slow => ?_, fun fast few => ?_, fun fast many => ?_⟩, fun _ _ _ => rfl, fun s b a => ?_⟩
  · have usual : (!runawayPeriod pmax p) = true := by simp [runawayPeriod, slow]
    exact if_pos usual
  · have runs : ¬ (!runawayPeriod pmax p) = true := by simp [runawayPeriod, fast]
    exact (if_neg runs).trans (if_pos (by omega))
  · have runs : ¬ (!runawayPeriod pmax p) = true := by simp [runawayPeriod, fast]
    exact (if_neg runs).trans (if_neg (by omega))
  · intro ch c counted
    refine ⟨countOn s.clock.ms c.round, countOn_of_lt, fun first => ?_, fun p edge => ?_⟩
    · rw [acceptPulse_first first, judgeBayPulse_none]
      rfl
    · rw [acceptPulse_again edge, judgeBayPulse_some]
      rfl

/-! ## Acceptance (R6) -/

theorem acceptPulse_site {s : State} {ch : Fin 17} (site : 12 ≤ ch.val) (a : Word) :
    s.acceptPulse ch a = (s.setChannel ch ((s.channel ch).count s.clock.ms a)).sitePulse ch := by
  unfold State.acceptPulse
  rw [channelBay_site site]
  rfl

theorem channels_sitePulse (s : State) (ch : Fin 17) : (s.sitePulse ch).channels = s.channels :=
  ((sitePulse_frame s ch).same .channels (by decide)).symm

/-- The channel of an accepted pulse, counted; what else of it the blocks that take the pulse may change. -/
def Channel.accepted (c : Channel) (now a : Word) (round runCount : Nat) (runaway silent : Bool) (ref : Word) : Channel :=
  { c.count now a with round := round, runCount := runCount, runaway := runaway, silent := silent, silenceRef := ref }

theorem channels_acceptPulse_bay (s : State) (b : Fin 12) (a : Word) : ∃ round runCount runaway,
    (s.acceptPulse (bayChannel b) a).channels = (s.setChannel (bayChannel b)
      ((s.channel (bayChannel b)).accepted s.clock.ms a round runCount runaway false a)).channels := by
  rw [acceptPulse_bayChannel]
  obtain ⟨runCount, runaway, judged⟩ :=
    channels_judgeBayPulse s b ((s.channel (bayChannel b)).count s.clock.ms a) ((s.channel (bayChannel b)).newPeriod a) a
  obtain ⟨round, pulse⟩ := roundChanged_bayPulse ((s.onChannel (bayChannel b) fun c => c.count s.clock.ms a).judgeBayPulse b
    ((s.channel (bayChannel b)).newPeriod a) a) b
  refine ⟨round, runCount, runaway, pulse.trans ?_⟩
  have set (u : State) (x : Channel) (same : u.channels = (s.setChannel (bayChannel b) x).channels) (f : Channel → Channel) :
      (u.onChannel (bayChannel b) f).channels = (s.setChannel (bayChannel b) (f x)).channels := by
    rw [← onChannel_setChannel]
    simp only [State.onChannel, State.setChannel, State.channel] at same ⊢
    rw [same]
  exact set _ _ judged _

theorem channels_acceptPulse (s : State) (ch : Fin 17) (a : Word) : ∃ round runCount runaway silent ref,
    (s.acceptPulse ch a).channels =
      (s.setChannel ch ((s.channel ch).accepted s.clock.ms a round runCount runaway silent ref)).channels := by
  by_cases site : 12 ≤ ch.val
  · let c := s.channel ch
    refine ⟨countOn s.clock.ms c.round, c.runCount, c.runaway, c.silent, c.silenceRef, ?_⟩
    rw [acceptPulse_site site, channels_sitePulse]
    rfl
  · obtain ⟨round, runCount, runaway, channels⟩ := channels_acceptPulse_bay s ⟨ch.val, by omega⟩ a
    exact ⟨round, runCount, runaway, false, a, channels⟩

theorem channel_congr {s t : State} (same : t.channels = s.channels) (d : Fin 17) : t.channel d = s.channel d := by
  rw [State.channel, State.channel, same]

/-- An event of the Battery Account that moves Eb alone (R89, R91). -/
theorem ba_batteryEvent_eb (s : State) (eb : Nat) :
    let low := s.ba.calibrated && decide (eb ≤ s.ba.reserve)
    (low = s.ba.atReserve → (s.batteryEvent { s.ba with eb := eb }).ba = { s.ba with eb := eb }) ∧
    (low ≠ s.ba.atReserve → (s.batteryEvent { s.ba with eb := eb }).ba = { s.ba with eb := eb, atReserve := low, lastEvent := some {
      reasons := { state := false, reserve := true, calibrated := false }, stateAfter := s.ba.state
      time := s.clock.siteTime, round := s.al.round } }) := by
  intro low
  unfold State.batteryEvent BatteryAccount.judged
  refine ⟨fun same => ?_, fun moved => ?_⟩
  · have quiet : ((s.ba.state != s.ba.state) || (low != s.ba.atReserve) || (s.ba.calibrated && !s.ba.calibrated)) = false := by
      simp [same]
    dsimp only
    rw [if_neg (by rw [quiet]; decide), ← same]
  · have changed : (low != s.ba.atReserve) = true := by simpa using moved
    dsimp only
    rw [if_pos (by rw [changed]; simp), ba_fire, changed]
    simp [low]

/-- Settles O17. -/
theorem acceptedPulseChangesItsChannel : Obligations.AcceptedPulseChangesItsChannel := by
  intro s ch a c t n e period counted
  obtain ⟨round, runCount, runaway, silent, ref, channels⟩ := channels_acceptPulse s ch a
  have here : n = c.accepted s.clock.ms a round runCount runaway silent ref :=
    (channel_congr channels ch).trans (channel_setChannel_self ..)
  refine ⟨by rw [here]; rfl, by rw [here]; rfl, by rw [here]; rfl, by rw [here]; rfl, by rw [here]; rfl, by rw [here]; rfl,
    by rw [here]; rfl, by rw [here]; rfl, fun d other => ?_, fun b bay => ?_, fun site => ?_, fun site other => ?_, fun battery => ?_⟩
  · exact (channel_congr channels d).trans (channel_setChannel_of_ne _ other _)
  · subst bay
    obtain ⟨round, runCount, runaway, channels⟩ := channels_acceptPulse_bay s b a
    have here : n = c.accepted s.clock.ms a round runCount runaway false a :=
      (channel_congr channels (bayChannel b)).trans (channel_setChannel_self ..)
    refine ⟨by rw [here]; rfl, by rw [here]; rfl, ?_, otherBaysSame_acceptPulse s b a, countOn s.clock.ms c.round, countOn_of_lt, ?_⟩
    · have frame : State.changesOnly [.bays, .channels, .el, .nu, .pu] s _ :=
        changesOnly_comp (onChannel_frame s (bayChannel b) fun c => c.count s.clock.ms a)
          (judgeBayPulse_frame _ b ((s.channel (bayChannel b)).newPeriod a) a) rfl
      change State.changesOnly _ s (s.acceptPulse (bayChannel b) a)
      rw [acceptPulse_bayChannel]
      exact changesOnly_comp frame (bayPulse_frame _ b) rfl
    · exact acceptPulse_bayChannel s b a
  · refine ⟨countOn s.clock.ms c.round, countOn_of_lt, ?_⟩
    refine (congrArg (fun u : State => u.channel ch) (acceptPulse_site site a)).trans ?_
    exact (channel_congr (channels_sitePulse _ ch) ch).trans (channel_setChannel_self ..)
  · have none : t = s.setChannel ch (c.count s.clock.ms a) := by
      refine (acceptPulse_site site a).trans ?_
      unfold State.sitePulse
      rw [if_neg (by omega), if_neg (by omega)]
    rw [none]
    exact setChannel_frame ..
  · intro eb low
    have account : t = (s.setChannel ch (c.count s.clock.ms a)).batteryEvent { s.ba with eb := eb } := by
      refine (acceptPulse_site (by omega) a).trans ?_
      unfold State.sitePulse
      by_cases charging : ch.val = 15
      · rw [if_pos charging]
        simp only [eb, if_pos charging]
        rfl
      · rw [if_neg charging, if_pos (by omega)]
        simp only [eb, if_neg charging]
        rfl
    obtain ⟨same, moved⟩ := ba_batteryEvent_eb (s.setChannel ch (c.count s.clock.ms a)) eb
    rw [account]
    exact ⟨changesOnly_comp (setChannel_frame s ch _) (batteryEvent_frame _ _) rfl, same, moved⟩

/-! ## Pulses of a bay (R34, R104) -/

section
variable {s : State} {b : Fin 12} (limited : (s.bay b).session.quota ≠ 0)

theorem countQuota_unlimited (unlimited : (s.bay b).session.quota = 0) : s.countQuota b = s := if_pos unlimited

include limited

theorem countQuota_spent (spent : (s.bay b).session.remaining = 0) :
    s.countQuota b = s.onBay b fun x => { x with roundOverQuota := countOn s.clock.ms x.roundOverQuota } :=
  (if_neg limited).trans (if_pos spent)

theorem countQuota_more (more : 1 < (s.bay b).session.remaining) : s.countQuota b =
    s.onBay b fun x => { x with session := { x.session with remaining := x.session.remaining - 1 } } :=
  (if_neg limited).trans ((if_neg (by omega)).trans (if_neg (by omega)))

theorem countQuota_last (last : (s.bay b).session.remaining = 1) : s.countQuota b =
    let u := (s.onBay b fun x => { x with session := { x.session with remaining := 0 } }).raise b .quotaReached
    if (s.bay b).state.isActive then u.enterStopping b .quota else u := by
  refine (if_neg limited).trans ((if_neg (by omega)).trans ((if_pos last).trans ?_))
  have none : s.onBay b (fun x => { x with session := { x.session with remaining := x.session.remaining - 1 } }) =
      s.onBay b fun x => { x with session := { x.session with remaining := 0 } } := onBay_congr (by rw [last])
  rw [none]

end

/-- Settles O36. -/
theorem pulsesCountAgainstTheQuota : Obligations.PulsesCountAgainstTheQuota := by
  intro s b x t last
  refine ⟨fun idle few => ?_, fun counts few => ?_⟩
  · refine (if_neg (by rw [show (s.bay b).state.countsPulses = false from idle]; decide)).trans (onBay_congr ?_)
    rw [countOn_of_lt few]
  · have taken : s.bayPulse b = t.countQuota b := by
      refine (if_pos counts).trans (congrArg (fun u : State => u.countQuota b) (onBay_congr ?_))
      rw [countOn_of_lt few]
    have bay : t.bay b = { x with sessionPulses := x.sessionPulses + 1 } := bay_onBay_self ..
    refine ⟨fun unlimited => ?_, fun limited spent few => ?_, fun limited more => ?_, fun limited one stopping => ?_,
      fun limited one active => ?_⟩
    all_goals rw [taken]
    · exact countQuota_unlimited (by rw [bay]; exact unlimited)
    · refine (countQuota_spent (by rw [bay]; exact limited) (by rw [bay]; exact spent)).trans (onBay_congr ?_)
      rw [bay]
      dsimp only
      rw [countOn_of_lt few]
    · refine (countQuota_more (by rw [bay]; exact limited) (by rw [bay]; exact more)).trans (onBay_congr ?_)
      rw [bay]
    · refine (countQuota_last (by rw [bay]; exact limited) (by rw [bay]; exact one)).trans (if_neg ?_)
      rw [bay]
      simp [stopping, BayState.isActive]
    · refine (countQuota_last (by rw [bay]; exact limited) (by rw [bay]; exact one)).trans (if_pos ?_)
      rw [bay]
      exact active

end Sys2Proof.Machine
end

section
/-! The end of a round at a bay: attribution, and the grant taken. -/

namespace Sys2Proof.Machine

/-! ## Attribution (R105 to R108) -/

theorem tallies_attribute {x : Bay} (counts : x.state.countsPulses = true) : x.attribute.session.tallies = x.splitTallies := by
  unfold Bay.attribute
  simp only [if_pos counts]

theorem session_attribute_of_not {x : Bay} (idle : x.state.countsPulses = false) : x.attribute.session = x.session := by
  unfold Bay.attribute
  simp only [idle, Bool.false_eq_true, if_false]

/-- Below the end of the total's range every session pulse enters. -/
theorem attributed_of_le {x : Bay} (room : x.session.tallies.total + x.sessionPulses ≤ wordMax) :
    x.attributed = x.sessionPulses := Nat.min_eq_left (by omega)

theorem attributed_of_lt {x : Bay} (beyond : wordMax < x.session.tallies.total + x.sessionPulses) :
    x.attributed = wordMax - x.session.tallies.total := Nat.min_eq_right (by omega)

/-- Kept portions that name the session and are not all 0 split the pulses (R105). -/
theorem splitTallies_kept {x : Bay} (named : x.keptSession = some x.session.number)
    (some : 0 < x.keptPortions.solar + x.keptPortions.battery + x.keptPortions.grid) :
    x.splitTallies =
      let t := x.session.tallies
      let k := x.keptPortions
      let sum := k.solar + k.battery + k.grid
      let e := x.attributed
      { total := t.total + e, solar := t.solar + e * k.solar / sum, battery := t.battery + e * k.battery / sum
        grid := t.grid + (e - e * k.solar / sum - e * k.battery / sum), overQuota := t.overQuota + x.overQuotaAdded } := by
  simp [Bay.splitTallies, named, some]

/-- Otherwise every pulse is grid (R106). -/
theorem splitTallies_grid {x : Bay} (unsplit : x.keptSession ≠ some x.session.number ∨
      x.keptPortions.solar + x.keptPortions.battery + x.keptPortions.grid = 0) :
    x.splitTallies =
      let t := x.session.tallies
      { t with total := t.total + x.attributed, grid := t.grid + x.attributed, overQuota := t.overQuota + x.overQuotaAdded } := by
  have none : (x.keptSession == some x.session.number &&
      decide (0 < x.keptPortions.solar + x.keptPortions.battery + x.keptPortions.grid)) = false := by
    rcases unsplit with other | zero
    · simp [other]
    · simp only [zero, Nat.lt_irrefl, decide_false, Bool.and_false]
  simp only [Bay.splitTallies, none, Bool.false_eq_true, if_false, Nat.add_zero, Nat.sub_zero]

/-- Settles O37. -/
theorem attributionSplitsTheRound : Obligations.AttributionSplitsTheRound := by
  intro x t k sum e y beyond
  refine ⟨fun counts room => ⟨fun named positive => ?_, fun unsplit => ?_⟩, fun counts past range => ?_, fun counts sound => ?_,
    session_attribute_of_not, ?_⟩
  · rw [tallies_attribute counts, splitTallies_kept named positive, Bay.overQuotaAdded, attributed_of_le room]
  · rw [tallies_attribute counts, splitTallies_grid unsplit, Bay.overQuotaAdded, attributed_of_le room]
  · rw [tallies_attribute counts]
    refine ⟨?_, ?_⟩
    · change t.total + x.attributed = _
      rw [attributed_of_lt past]
      exact Nat.add_sub_cancel' range
    · change t.overQuota + min x.roundOverQuota x.attributed = _
      rw [attributed_of_lt past]
  · have sums : x.session.tallies.solar + x.session.tallies.battery + x.session.tallies.grid = x.session.tallies.total := sound
    rw [tallies_attribute counts]
    by_cases split : x.keptSession = some x.session.number ∧ 0 < sum
    · obtain ⟨named, positive⟩ := split
      have floors := floors_le x.attributed x.keptPortions.solar x.keptPortions.battery x.keptPortions.grid positive
      rw [splitTallies_kept named positive]
      dsimp only
      omega
    · rw [splitTallies_grid ((Classical.not_and_iff_not_or_not.mp split).imp_right fun zero => Nat.eq_zero_of_not_pos zero)]
      dsimp only
      omega
  · obtain ⟨tallies, eq⟩ := attribute_eq x
    change x.attribute = _
    simp only [y, eq]

/-! ## The grant taken at a boundary (R32, R61) -/

theorem usedGrant_eq (x : Bay) (p : PlanBay) :
    x.usedGrant p = if x.state.isOpen = true ∧ p.session = some x.session.number then p.grant else 0 := by
  simp [Bay.usedGrant]

/-- The channel of a bay that takes its part of a plan: its silence starts again when the allowance leaves 0 (R12). -/
theorem channel_takePlan_self (s : State) (b : Fin 12) (p : PlanBay) :
    (s.takePlan b p).channel (bayChannel b) =
      if (s.bay b).attribute.allowance = 0 ∧ 0 < ((s.takePlan b p).bay b).allowance then
        { s.channel (bayChannel b) with silenceRef := s.clock.ms, silent := false }
      else s.channel (bayChannel b) := by
  have allowance : ((s.takePlan b p).bay b).allowance =
      (((s.bay b).keepPortions p).takeGrant (((s.bay b).keepPortions p).usedGrant p)).allowance := by
    rw [bay_takePlan_self]
    dsimp only
    split <;> rfl
  have raised (v : State) (c : Prop) [Decidable c] : (if c then v.raise b .chargingStarted else v).channel (bayChannel b) =
      v.channel (bayChannel b) := by
    split
    · exact channel_raise ..
    · rfl
  rw [allowance]
  refine (raised _ _).trans ((apply_ite (fun v : State => v.channel (bayChannel b)) _ _ _).trans ?_)
  exact congrFun (congrArg (ite _) (channel_setChannel_self ..)) _

theorem otherBaysSame_takePlan (s : State) (b : Fin 12) (p : PlanBay) : State.otherBaysSame b s (s.takePlan b p) := by
  have taken (y : Bay) (c : Prop) [Decidable c] (f : Channel → Channel) : State.otherBaysSame b s
      (if c then (s.setBay b y).onChannel (bayChannel b) f else s.setBay b y) := by
    split
    · exact otherBaysSame_trans (otherBaysSame_onBay s b fun _ => y) (otherBaysSame_onChannel _ b _)
    · exact otherBaysSame_onBay s b fun _ => y
  unfold State.takePlan
  dsimp only
  split
  · exact otherBaysSame_trans (taken _ _ _) (otherBaysSame_raise _ b _)
  · exact taken _ _ _

/-- Settles O38. -/
theorem bayTakesItsGrant : Obligations.BayTakesItsGrant := by
  intro s b p x grant kept t c charging
  have used : ((s.bay b).keepPortions p).usedGrant p = grant := usedGrant_eq ..
  have bay : t.bay b = if kept.startsCharging grant then
      { kept.takeGrant grant with events := (kept.takeGrant grant).events ||| EventFlag.chargingStarted.bit }
      else kept.takeGrant grant := by
    rw [← used]
    exact bay_takePlan_self s b p
  have quiet : kept.startsCharging grant = false → t.bay b = kept.takeGrant grant := fun h => bay.trans (if_neg (by rw [h]; decide))
  have unpaused (h : x.state ≠ .paused) : t.bay b = kept.takeGrant grant := quiet (startsCharging_of_ne_paused h grant)
  refine ⟨fun paused positive marked => ?_, fun paused positive fresh => ?_, fun active positive => ?_, fun active zero => ?_,
    fun paused zero => ?_, fun notPaused notCharging => ?_, fun zero positive => ?_, fun stays => ?_, takePlan_frame s b p,
    otherBaysSame_takePlan s b p⟩
  · rw [quiet (by simp [Bay.startsCharging, kept, marked])]
    simp only [Bay.takeGrant, kept, paused, if_pos positive, charging]
  · rw [bay, if_pos (by simp [Bay.startsCharging, kept, paused, positive, fresh])]
    simp only [Bay.takeGrant, kept, paused, if_pos positive, charging]
  · rw [unpaused (by rw [active]; decide)]
    simp only [Bay.takeGrant, kept, active, if_pos positive]
  · rw [unpaused (by rw [active]; decide)]
    simp only [Bay.takeGrant, kept, active, zero, Nat.lt_irrefl, if_false]
  · rw [quiet (by simp [Bay.startsCharging, zero])]
    simp only [Bay.takeGrant, kept, paused, zero, Nat.lt_irrefl, if_false]
  · rw [unpaused notPaused]
    have other : x.state ≠ .paused ∧ x.state ≠ .charging := ⟨notPaused, notCharging⟩
    unfold Bay.takeGrant
    split
    · next h => exact absurd h notPaused
    · next h => exact absurd h notCharging
    all_goals rfl
  · exact (channel_takePlan_self s b p).trans (if_pos ⟨zero, positive⟩)
  · refine (channel_takePlan_self s b p).trans (if_neg fun moved => ?_)
    obtain ⟨zero, positive⟩ := moved
    rcases stays with before | after
    · exact absurd zero (Nat.pos_iff_ne_zero.mp before)
    · exact absurd after (Nat.pos_iff_ne_zero.mp positive)

end Sys2Proof.Machine
end

section
/-! Rounds: the order of the parts of a boundary, what each part does once, and the plan staged at the end of a computation. -/

namespace Sys2Proof.Machine

/-! ## The order of the parts (R60) -/

theorem cons_eraseIdx_perm {α : Type} {xs : List α} {i : Nat} (inside : i < xs.length) : (xs[i] :: xs.eraseIdx i).Perm xs := by
  rw [List.eraseIdx_eq_take_drop_succ]
  refine List.perm_middle.symm.trans ?_
  rw [List.getElem_cons_drop, List.take_append_drop]

theorem arrange_perm {α : Type} (n : Nat) (picks : List Nat) (xs : List α) : (arrange n picks xs).Perm xs := by
  induction n generalizing picks xs with
  | zero => exact .refl xs
  | succ n ih =>
    unfold arrange
    split
    · exact .refl xs
    · next x found =>
      obtain ⟨inside, rfl⟩ := List.getElem?_eq_some_iff.mp found
      exact ((ih _ _).cons _).trans (cons_eraseIdx_perm inside)

theorem boundaryParts_nodup : boundaryParts.Nodup := by decide

theorem bay_mem_boundaryParts (b : Fin 12) : BoundaryPart.bay b ∈ boundaryParts := by
  simp [boundaryParts]

theorem setpoint_mem_boundaryParts : BoundaryPart.setpoint ∈ boundaryParts := by decide

/-- A boundary takes its parts in some order, and a held window change either not at all or between two of them. -/
theorem boundary_eq (s : State) (p : Plan) (order : BoundaryOrder) : ∃ before after held,
    (held = id ∨ held = State.takeHeldWindow) ∧ (before ++ after).Perm boundaryParts ∧
    s.boundary p order = (held ((s.meterBoundary.latch.applyPlan p).takeParts p s.snapshotDue before)).takeParts p s.snapshotDue after := by
  have perm := arrange_perm 14 order.parts boundaryParts
  unfold State.boundary
  cases window : order.window with
  | none => exact ⟨[], arrange 14 order.parts boundaryParts, id, .inl rfl, perm, rfl⟩
  | some k => exact ⟨_, _, State.takeHeldWindow, .inr rfl, (List.take_append_drop k _).symm ▸ perm, rfl⟩

/-! ## What one part does among the others -/

section
variable {β : Type} {p : Plan} {snapshot : Bool} {view : State → β} {change : β → β} {k : BoundaryPart}
  (other : ∀ s part, part ≠ k → view (s.takePart p snapshot part) = view s)
  (self : ∀ s, view (s.takePart p snapshot k) = change (view s))
include other

theorem view_takeParts_of_not_mem {parts : List BoundaryPart} (absent : k ∉ parts) (s : State) :
    view (s.takeParts p snapshot parts) = view s := by
  induction parts generalizing s with
  | nil => rfl
  | cons part rest ih =>
    have different : part ≠ k := fun same => absent (same ▸ List.mem_cons_self)
    exact (ih (fun late => absent (List.mem_cons_of_mem _ late)) _).trans (other s part different)

include self

theorem view_takeParts_of_mem {parts : List BoundaryPart} (nodup : parts.Nodup) (present : k ∈ parts) (s : State) :
    view (s.takeParts p snapshot parts) = change (view s) := by
  induction parts generalizing s with
  | nil => cases present
  | cons part rest ih =>
    obtain ⟨fresh, distinct⟩ := List.nodup_cons.mp nodup
    by_cases this : part = k
    · subst this
      exact (view_takeParts_of_not_mem other fresh _).trans (self s)
    · have later : k ∈ rest := (List.mem_cons.mp present).resolve_left (Ne.symm this)
      exact (ih distinct later _).trans (congrArg change (other s part this))

/-- A part taken once acts once, whatever is taken before and after it. -/
theorem view_takeParts_between {before after : List BoundaryPart} {held : State → State} (kept : ∀ s, view (held s) = view s)
    (nodup : (before ++ after).Nodup) (present : k ∈ before ++ after) (s : State) :
    view ((held (s.takeParts p snapshot before)).takeParts p snapshot after) = change (view s) := by
  obtain ⟨first, second, disjoint⟩ := List.nodup_append.mp nodup
  rcases List.mem_append.mp present with early | late
  · have absent : k ∉ after := fun late => disjoint k early k late rfl
    rw [view_takeParts_of_not_mem other absent, kept, view_takeParts_of_mem other self first early]
  · have absent : k ∉ before := fun early => disjoint k early k late rfl
    rw [view_takeParts_of_mem other self second late, kept, view_takeParts_of_not_mem other absent]

end

/-! ## The bays -/

/-- A bay after its part of a plan (R61). -/
def Bay.takePlan (x : Bay) (p : PlanBay) : Bay :=
  let y := (x.keepPortions p).takeGrant ((x.keepPortions p).usedGrant p)
  if (x.keepPortions p).startsCharging ((x.keepPortions p).usedGrant p) then
    { y with events := y.events ||| EventFlag.chargingStarted.bit }
  else y

theorem bay_takePlan (s : State) (b : Fin 12) (p : PlanBay) : (s.takePlan b p).bay b = (s.bay b).takePlan p :=
  bay_takePlan_self s b p

theorem bays_queueSnapshot (s : State) (i : Fin 13) (bytes : List Byte) : (s.queueSnapshot i bytes).bays = s.bays :=
  ((queueSnapshot_frame s i bytes).same .bays (by decide)).symm

theorem bay_of_bays {s t : State} (same : t.bays = s.bays) (b : Fin 12) : t.bay b = s.bay b := by
  rw [State.bay, same]
  rfl

theorem bay_queueSnapshot (s : State) (i : Fin 13) (bytes : List Byte) (b : Fin 12) : (s.queueSnapshot i bytes).bay b = s.bay b :=
  bay_of_bays (bays_queueSnapshot ..) b

theorem bay_takePart_self (s : State) (p : Plan) (snapshot : Bool) (b : Fin 12) :
    (s.takePart p snapshot (.bay b)).bay b = (s.bay b).takePlan p.bays[b] := by
  unfold State.takePart
  dsimp only
  split
  · exact (bay_queueSnapshot ..).trans (bay_takePlan ..)
  · exact bay_takePlan ..

theorem bay_takePart_of_ne {b : Fin 12} (p : Plan) (snapshot : Bool) (s : State) (part : BoundaryPart) (other : part ≠ .bay b) :
    (s.takePart p snapshot part).bay b = s.bay b := by
  cases part with
  | bay c =>
    have different : b ≠ c := fun same => other (congrArg _ same.symm)
    have same : (s.takePlan c p.bays[c]).bay b = s.bay b := (otherBaysSame_takePlan s c _ b different).1
    unfold State.takePart
    dsimp only
    split
    · exact (bay_queueSnapshot ..).trans same
    · exact same
  | setpoint => exact bay_batteryEvent ..
  | trigger =>
    unfold State.takePart
    dsimp only
    split
    · exact bay_queueSnapshot ..
    · rfl

/-! ## The Battery Account -/

/-- The account after one event (R100). -/
def BatteryAccount.afterEvent (old b : BatteryAccount) (time round : Word) : BatteryAccount :=
  let r : BatteryReasons := { state := b.judged.state != old.state, reserve := b.judged.atReserve != old.atReserve
                              calibrated := b.judged.calibrated && !old.calibrated }
  if r.state || r.reserve || r.calibrated then
    { b.judged with lastEvent := some { reasons := r, stateAfter := b.judged.state, time := time, round := round } }
  else b.judged

theorem ba_batteryEvent (s : State) (b : BatteryAccount) :
    (s.batteryEvent b).ba = s.ba.afterEvent b s.clock.siteTime s.al.round := by
  unfold State.batteryEvent BatteryAccount.afterEvent
  dsimp only
  split
  · exact ba_fire ..
  · rfl

theorem ba_takeSetpoint (s : State) (w : Int) :
    (s.takeSetpoint w).ba = s.ba.afterEvent (s.ba.drive w) s.clock.siteTime s.al.round := ba_batteryEvent ..

/-- What the event of the account depends on. -/
def State.batteryInputs (s : State) : BatteryAccount × Clock × Allocator := (s.ba, s.clock, s.al)

/-- The account takes the setpoint of a plan; the clock and the Allocator stay. -/
def driveInputs (w : Int) (v : BatteryAccount × Clock × Allocator) : BatteryAccount × Clock × Allocator :=
  (v.1.afterEvent (v.1.drive w) v.2.1.siteTime v.2.2.round, v.2.1, v.2.2)

theorem batteryInputs_eq {s t : State} (ba : t.ba = s.ba) (clock : t.clock = s.clock) (al : t.al = s.al) :
    t.batteryInputs = s.batteryInputs := by
  rw [State.batteryInputs, ba, clock, al]
  rfl

theorem batteryInputs_takePart_self (s : State) (p : Plan) (snapshot : Bool) :
    (s.takePart p snapshot .setpoint).batteryInputs = driveInputs p.setpoint s.batteryInputs := by
  change ((s.takeSetpoint p.setpoint).ba, (s.batteryEvent _).clock, (s.batteryEvent _).al) = _
  rw [ba_takeSetpoint, clock_batteryEvent, al_batteryEvent]
  rfl

theorem batteryInputs_takePart_of_ne (p : Plan) (snapshot : Bool) (s : State) (part : BoundaryPart) (other : part ≠ .setpoint) :
    (s.takePart p snapshot part).batteryInputs = s.batteryInputs := by
  have frame := takePart_frame s p snapshot part
  refine batteryInputs_eq ?_ (frame.same .clock (by decide)).symm (frame.same .al (by decide)).symm
  have queued (t : State) (i : Fin 13) (bytes : List Byte) : (t.queueSnapshot i bytes).ba = t.ba :=
    ((queueSnapshot_frame t i bytes).same .ba (by decide)).symm
  cases part with
  | bay c =>
    unfold State.takePart
    dsimp only
    split
    · exact (queued ..).trans (ba_takePlan ..)
    · exact ba_takePlan ..
  | setpoint => exact absurd rfl other
  | trigger =>
    unfold State.takePart
    dsimp only
    split
    · exact queued ..
    · rfl

/-! ## The channels -/

/-- A channel but for its silence, which alone a part of a plan may change (R12). -/
def Channel.unsilenced (c : Channel) : Channel := { c with silenceRef := 0, silent := false }

theorem unsilenced_takePlan (s : State) (b : Fin 12) (p : PlanBay) (ch : Fin 17) :
    ((s.takePlan b p).channel ch).unsilenced = (s.channel ch).unsilenced := by
  have moved (t : State) : ((t.onChannel (bayChannel b) fun c => { c with silenceRef := s.clock.ms, silent := false }).channel ch).unsilenced =
      (t.channel ch).unsilenced := by
    by_cases same : ch = bayChannel b
    · subst same
      exact (congrArg Channel.unsilenced (channel_setChannel_self ..)).trans rfl
    · exact congrArg Channel.unsilenced (channel_setChannel_of_ne t same _)
  have taken (y : Bay) (c : Prop) [Decidable c] : ((if c then (s.setBay b y).onChannel (bayChannel b)
      fun c => { c with silenceRef := s.clock.ms, silent := false } else s.setBay b y).channel ch).unsilenced =
      (s.channel ch).unsilenced := by
    split
    · exact moved _
    · rfl
  unfold State.takePlan
  dsimp only
  split
  · exact (congrArg Channel.unsilenced (channel_raise ..)).trans (taken _ _)
  · exact taken _ _

theorem unsilenced_takePart (p : Plan) (snapshot : Bool) (ch : Fin 17) (s : State) (part : BoundaryPart) :
    ((s.takePart p snapshot part).channel ch).unsilenced = (s.channel ch).unsilenced := by
  have queued (t : State) (i : Fin 13) (bytes : List Byte) : ((t.queueSnapshot i bytes).channel ch).unsilenced = (t.channel ch).unsilenced :=
    congrArg _ (channel_congr ((queueSnapshot_frame t i bytes).same .channels (by decide)).symm ch)
  cases part with
  | bay c =>
    unfold State.takePart
    dsimp only
    split
    · exact (queued ..).trans (unsilenced_takePlan ..)
    · exact unsilenced_takePlan ..
  | setpoint => exact congrArg _ (channel_congr ((batteryEvent_frame s _).same .channels (by decide)).symm ch)
  | trigger =>
    unfold State.takePart
    dsimp only
    split
    · exact queued ..
    · rfl

theorem unsilenced_takeParts (p : Plan) (snapshot : Bool) (ch : Fin 17) (parts : List BoundaryPart) (s : State) :
    ((s.takeParts p snapshot parts).channel ch).unsilenced = (s.channel ch).unsilenced := by
  induction parts generalizing s with
  | nil => rfl
  | cons part rest ih => exact (ih _).trans (unsilenced_takePart ..)

/-! ## A held window change (R111, R115) -/

theorem status_windowsChanged {s : State} {k : ErrorKind} (marked : inKindSet s.el.status k = true) :
    inKindSet s.windowsChanged.el.status k = true := by
  unfold State.windowsChanged
  rw [el_releaseVectors]
  refine keeps_foldl (P := fun t : State => inKindSet t.el.status k = true) (fun t v kept => ?_) _ marked
  split
  · unfold State.vectorFault
    rw [el_record, status_take, inKindSet_or, kept, Bool.true_or]
  · exact kept

theorem el_endExecution_eq (s : State) (position : BitVec 4) (words : List Word) (r : Option Reply) :
    (s.endExecution position words r).el = s.el := ((endExecution_frame s position words r).same .el (by decide)).symm

theorem status_takeHeldWindow {s : State} {k : ErrorKind} (marked : inKindSet s.el.status k = true) :
    inKindSet s.takeHeldWindow.el.status k = true := by
  have effect (base stride decimation : Word) :
      inKindSet (setSnapshotWindowEffect base stride decimation s).1.el.status k = true := by
    unfold setSnapshotWindowEffect finish
    dsimp only
    split
    · exact marked
    · dsimp only
      refine status_windowsChanged ?_
      dsimp only
      rw [el_removeEntries]
      exact marked
  by_cases executing : ∃ base stride decimation position words, s.executes (.setSnapshotWindow base stride decimation) position words
  · obtain ⟨base, stride, decimation, position, words, executing⟩ := executing
    rw [takeHeldWindow_executes executing, el_endExecution_eq]
    exact effect ..
  · rw [takeHeldWindow_of_none fun a b c d e h => executing ⟨a, b, c, d, e, h⟩]
    exact marked

/-- What a boundary's middle keeps, held window change or not. -/
theorem keeps_held {β : Type} {view : State → β} {held : State → State} (which : held = id ∨ held = State.takeHeldWindow)
    (window : ∀ s, view s.takeHeldWindow = view s) (s : State) : view (held s) = view s := by
  rcases which with rfl | rfl
  · rfl
  · exact window s

/-! ## The latch (R59, R63, R64) -/

/-- The Allocator after a latch. -/
def Allocator.afterLatch (al : Allocator) (l : Latched) : Allocator :=
  let judged := { al with latched := some l }.judgeOverlimit l
  if judged.episodes = 3 ∧ ¬ judged.episodeReported then { judged with episodeReported := true } else judged

theorem al_latch (s : State) : s.latch.al = s.al.afterLatch s.readInputs := by
  unfold State.latch Allocator.afterLatch
  dsimp only
  split
  · exact al_record ..
  · rfl

/-- The third latch of an episode is reported (R64). -/
theorem status_latch {s : State} (exceeded : s.al.limit < s.estimate 14) (third : s.al.episodes = 2)
    (fresh : s.al.episodeReported = false) : inKindSet s.latch.el.status .gridOverlimit = true := by
  have judged : ({ s.al with latched := some s.readInputs }.judgeOverlimit s.readInputs) =
      { s.al with latched := some s.readInputs, correction := s.estimate 14 - s.al.limit, episodes := saturate 65535 (s.al.episodes + 1) } :=
    if_pos exceeded
  unfold State.latch
  dsimp only
  rw [judged, if_pos ⟨by rw [third]; rfl, by simp [fresh]⟩, el_record, status_take, inKindSet_or, inKindSet_bit_self, Bool.or_true]

section
variable {al : Allocator} {l : Latched}

theorem afterLatch_exceeded (exceeded : l.limit < l.grid) : (al.afterLatch l).correction = l.grid - l.limit ∧
    (al.afterLatch l).episodes = min 65535 (al.episodes + 1) := by
  unfold Allocator.afterLatch Allocator.judgeOverlimit
  simp only [if_pos exceeded]
  split <;> exact ⟨rfl, rfl⟩

theorem afterLatch_within (within : l.grid ≤ l.limit) : (al.afterLatch l).correction = 0 ∧ (al.afterLatch l).episodes = 0 ∧
    (al.afterLatch l).episodeReported = false := by
  unfold Allocator.afterLatch Allocator.judgeOverlimit
  simp only [if_neg (Nat.not_lt.mpr within)]
  split
  · next third => exact absurd third.1 (by decide)
  · exact ⟨rfl, rfl, rfl⟩

theorem afterLatch_reports (exceeded : l.limit < l.grid) (third : al.episodes = 2) (fresh : al.episodeReported = false) :
    (al.afterLatch l).episodeReported = true := by
  unfold Allocator.afterLatch Allocator.judgeOverlimit
  simp only [if_pos exceeded, third, fresh]
  rfl

theorem afterLatch_keeps : (al.afterLatch l).latched = some l ∧ (al.afterLatch l).round = al.round ∧
    (al.afterLatch l).limit = al.limit ∧ (al.afterLatch l).period = al.period ∧ (al.afterLatch l).map = al.map := by
  unfold Allocator.afterLatch Allocator.judgeOverlimit
  dsimp only
  repeat' split
  all_goals exact ⟨rfl, rfl, rfl, rfl, rfl⟩

end

theorem channel_meterBoundary (s : State) (ch : Fin 17) : s.meterBoundary.channel ch = (s.channel ch).handOver := by
  simp [State.meterBoundary, State.channel]

theorem estimate_meterBoundary (s : State) (ch : Fin 17) : s.meterBoundary.estimate ch = s.estimate ch := by
  unfold State.estimate
  rw [channel_meterBoundary]
  rfl

theorem readInputs_meterBoundary (s : State) : s.meterBoundary.readInputs = s.readInputs := by
  unfold State.readInputs
  simp only [estimate_meterBoundary]
  rfl

theorem latched_of_may {x : Bay} (may : (x.state = .paused ∨ x.state = .charging) ∧ x.drive = true ∧ x.ready = true) :
    x.latched = { eligible := true, cls := x.session.cls, session := some x.session.number
                  pmin := x.config.pmin, pmax := x.config.pmax, wait := x.waitCount } := by
  have eligible : x.eligible = true := by simpa [Bay.eligible, and_assoc] using may
  simp [Bay.latched, eligible]

theorem latched_of_not {x : Bay} (not : ¬ ((x.state = .paused ∨ x.state = .charging) ∧ x.drive = true ∧ x.ready = true)) :
    x.latched = { eligible := false, cls := none, session := none
                  pmin := x.config.pmin, pmax := x.config.pmax, wait := x.waitCount } := by
  have eligible : x.eligible = false := by
    rw [← Bool.not_eq_true]
    simpa [Bay.eligible, and_assoc] using not
  simp [Bay.latched, eligible]

/-! ## The boundary -/

/-- The state in which the parts of a boundary are taken. -/
theorem al_applyPlan_latch (s : State) (p : Plan) : (s.meterBoundary.latch.applyPlan p).al =
    { s.al.afterLatch s.readInputs with
      applied := some p, staged := none, roundLength := some p.roundLength, boundaryTimer := some (1000 * p.roundLength) } := by
  change { s.meterBoundary.latch.al with
    applied := some p, staged := none, roundLength := some p.roundLength, boundaryTimer := some (1000 * p.roundLength) } = _
  rw [al_latch, readInputs_meterBoundary]
  rfl

section
variable {s : State} {p : Plan} {order : BoundaryOrder}

theorem al_boundary : (s.boundary p order).al = (s.meterBoundary.latch.applyPlan p).al := by
  obtain ⟨before, after, held, which, -, run⟩ := boundary_eq s p order
  rw [run, al_takeParts, keeps_held (view := State.al) which al_takeHeldWindow, al_takeParts]

theorem bay_boundary (b : Fin 12) : (s.boundary p order).bay b = (s.bay b).takePlan p.bays[b] := by
  obtain ⟨before, after, held, which, perm, run⟩ := boundary_eq s p order
  have taken := view_takeParts_between (view := fun t : State => t.bay b) (change := fun x => x.takePlan p.bays[b])
    (fun t part other => bay_takePart_of_ne p s.snapshotDue t part other) (fun t => bay_takePart_self t p s.snapshotDue b)
    (keeps_held (view := fun t : State => t.bay b) which fun t => bay_of_bays (bays_takeHeldWindow t) b) (perm.nodup_iff.mpr boundaryParts_nodup)
    (perm.mem_iff.mpr (bay_mem_boundaryParts b)) (s.meterBoundary.latch.applyPlan p)
  rw [run]
  exact taken.trans (congrArg (fun x : Bay => x.takePlan p.bays[b]) (bay_latch s.meterBoundary b))

theorem ba_boundary : (s.boundary p order).ba = s.ba.afterEvent (s.ba.drive p.setpoint) s.clock.siteTime s.al.round := by
  obtain ⟨before, after, held, which, perm, run⟩ := boundary_eq s p order
  have window (t : State) : t.takeHeldWindow.batteryInputs = t.batteryInputs :=
    batteryInputs_eq (ba_takeHeldWindow t) (clock_takeHeldWindow t) (al_takeHeldWindow t)
  have taken := view_takeParts_between (view := State.batteryInputs) (change := driveInputs p.setpoint)
    (fun t part other => batteryInputs_takePart_of_ne p s.snapshotDue t part other)
    (fun t => batteryInputs_takePart_self t p s.snapshotDue) (keeps_held which window)
    (perm.nodup_iff.mpr boundaryParts_nodup) (perm.mem_iff.mpr setpoint_mem_boundaryParts) (s.meterBoundary.latch.applyPlan p)
  have ba : (s.meterBoundary.latch.applyPlan p).ba = s.ba := ba_latch s.meterBoundary
  have clock : (s.meterBoundary.latch.applyPlan p).clock = s.clock := clock_latch s.meterBoundary
  have round : (s.meterBoundary.latch.applyPlan p).al.round = s.al.round := by
    rw [al_applyPlan_latch]
    exact (afterLatch_keeps).2.1
  rw [run]
  refine (congrArg Prod.fst taken).trans ?_
  simp only [driveInputs, State.batteryInputs, ba, clock, round]

theorem unsilenced_boundary (ch : Fin 17) : ((s.boundary p order).channel ch).unsilenced = (s.channel ch).handOver.unsilenced := by
  obtain ⟨before, after, held, which, -, run⟩ := boundary_eq s p order
  have latched : (s.meterBoundary.latch.applyPlan p).channel ch = (s.channel ch).handOver :=
    (channel_congr (channels_latch s.meterBoundary) ch).trans (channel_meterBoundary s ch)
  rw [run, unsilenced_takeParts, keeps_held (view := fun t : State => (t.channel ch).unsilenced) which
    (fun t => congrArg Channel.unsilenced (channel_congr (channels_takeHeldWindow t) ch)), unsilenced_takeParts, latched]

theorem status_boundary {k : ErrorKind} (marked : inKindSet s.meterBoundary.latch.el.status k = true) :
    inKindSet (s.boundary p order).el.status k = true := by
  obtain ⟨before, after, held, which, -, run⟩ := boundary_eq s p order
  rw [run, el_takeParts]
  have parts : inKindSet ((s.meterBoundary.latch.applyPlan p).takeParts p s.snapshotDue before).el.status k = true := by
    rw [el_takeParts]
    exact marked
  rcases which with rfl | rfl
  · exact parts
  · exact status_takeHeldWindow parts

end

/-- Settles O39. -/
theorem boundaryAppliesTheStagedPlan : Obligations.BoundaryAppliesTheStagedPlan := by
  intro s order window p timer staged u grid l
  have row : exec (.roundBoundary ⟨order, window⟩) s = .next (u.boundary p ⟨order, window⟩) := by
    have due : s.boundaryDue = some p := (if_pos timer).trans staged
    change execRoundBoundary _ s = _
    unfold execRoundBoundary
    rw [due]
  have read : u.readInputs = s.readInputs := rfl
  have al : (u.boundary p ⟨order, window⟩).al = { u.al.afterLatch s.readInputs with
      applied := some p, staged := none, roundLength := some p.roundLength, boundaryTimer := some (1000 * p.roundLength) } := by
    rw [al_boundary, al_applyPlan_latch, read]
  obtain ⟨latched, round, limit, period, map⟩ := afterLatch_keeps (al := u.al) (l := s.readInputs)
  refine ⟨rfl, rfl, rfl, rfl, rfl, rfl, rfl, fun b => ?_, rfl, rfl, rfl, rfl, rfl, rfl, beq_iff_eq, rfl, beq_iff_eq,
    arrange_perm 14 order boundaryParts, u.boundary p ⟨order, window⟩, row, ?_⟩
  · rw [show l.bay b = (s.bay b).latched from bay_readInputs s b]
    exact ⟨latched_of_may, latched_of_not⟩
  · rw [al]
    refine ⟨round, rfl, rfl, rfl, rfl, latched, afterLatch_exceeded (l := s.readInputs), afterLatch_within (l := s.readInputs),
      fun exceeded third fresh => ⟨afterLatch_reports (l := s.readInputs) exceeded third fresh, ?_⟩, fun b => ?_, fun ch => ?_, ?_, limit, period, map⟩
    · refine status_boundary (status_latch ?_ third fresh)
      rw [estimate_meterBoundary]
      exact exceeded
    · exact (bay_boundary b).trans (bay_takePlan u b _).symm
    · have kept := unsilenced_boundary (s := u) (p := p) (order := ⟨order, window⟩) ch
      exact ⟨congrArg Channel.lastRound kept, congrArg Channel.round kept, congrArg Channel.noise kept,
        congrArg Channel.noiseReported kept, (congrArg Channel.total kept).trans rfl, (congrArg Channel.lastEdge kept).trans rfl,
        (congrArg Channel.lastPeriod kept).trans rfl⟩
    · exact ba_boundary.trans (ba_takeSetpoint u p.setpoint).symm

/-! ## The plan staged (R62, R65 to R68, R75) -/

/-- Settles O40. -/
theorem planIsStagedFromItsPots : Obligations.PlanIsStagedFromItsPots := by
  intro s l x
  refine ⟨fun latched none => ?_, ?_⟩
  · have computing : s.computing = some l := (if_pos (by rw [none]; rfl)).trans latched
    refine ⟨{ s with
        al := { s.al with staged := some (l.plan s.al.correction (s.al.round + 1)) }
        bays := Vector.ofFn fun b : Fin 12 => { s.bay b with waitCount := (l.waits s.al.correction)[b] } }, ?_, rfl, fun b => ?_⟩
    · change execPlanComputationEnd s = _
      unfold execPlanComputationEnd
      rw [computing]
    · simp [State.bay, Latched.waits, Latched.newWait, saturate]
  · intro d usable
    have usableIff : l.batteryUsable = true ↔ usable := by simp [Latched.batteryUsable, usable]
    refine ⟨fun within => ?_, fun short => ?_, rfl, rfl, fun can => if_pos (usableIff.mpr can), fun cannot => ?_, decide_eq_true_iff,
      fun can above => ?_, fun low => ?_, rfl, rfl, rfl⟩
    · have none : l.deficit x = 0 := Nat.sub_eq_zero_of_le within
      have solar : l.solarCover x = 0 := by rw [Latched.solarCover, none, Nat.min_zero]
      have battery : l.batteryCover x = 0 := by simp [Latched.batteryCover, none]
      refine ⟨solar, battery, rfl, ?_, ?_⟩
      · change l.solar - l.solarCover x = l.solar
        rw [solar, Nat.sub_zero]
      · simp [Latched.shopOver, none]
    · exact Nat.sub_eq_zero_of_le short
    · have off := mt usableIff.mp cannot
      exact ⟨if_neg off, if_neg fun both => off (Bool.and_eq_true_iff.mp both).1⟩
    · exact if_pos (by rw [usableIff.mpr can, decide_eq_true above]; rfl)
    · exact if_neg (by simp [Nat.not_lt.mpr low])

end Sys2Proof.Machine
end

section
/-! The portions of a plan: the watts of a class placed bay by bay, and the pots they come from. -/

namespace Sys2Proof.Machine

/-! ## Placing watts (R81 step 3) -/

/-- One of the three sources of a portion. -/
def Portions.isSource (f : Portions → Nat) : Prop := f = Portions.solar ∨ f = Portions.battery ∨ f = Portions.grid

theorem placeWatt_conserves {f : Portions → Nat} (source : Portions.isSource f) (room p : Portions) :
    f (placeWatt room p).1 + f (placeWatt room p).2 = f room + f p := by
  unfold placeWatt
  rcases source with rfl | rfl | rfl
  all_goals
    repeat' split
    all_goals dsimp only
    all_goals omega

theorem placeWatts_conserves {f : Portions → Nat} (source : Portions.isSource f) (n : Nat) (room p : Portions) :
    f (placeWatts n room p).1 + f (placeWatts n room p).2 = f room + f p := by
  induction n generalizing room p with
  | zero => rfl
  | succ n ih => exact (ih _ _).trans (placeWatt_conserves source room p)

/-- The watts placed while there is room: on grid as far as it has room, then on battery, the others on solar. -/
theorem placeWatts_eq {n : Nat} {room : Portions} (fits : n ≤ room.sum) (p : Portions) :
    (placeWatts n room p).1.sum + n = room.sum ∧ (placeWatts n room p).2 =
      { solar := p.solar + (n - min n room.grid - min (n - min n room.grid) room.battery)
        battery := p.battery + min (n - min n room.grid) room.battery, grid := p.grid + min n room.grid } := by
  induction n generalizing room p with
  | zero => simp [placeWatts]
  | succ n ih =>
    have placed : ∃ next watt, placeWatt room p = (next, watt) ∧ next.sum + 1 = room.sum ∧
        ((0 < room.grid ∧ next = { room with grid := room.grid - 1 } ∧ watt = { p with grid := p.grid + 1 }) ∨
        (room.grid = 0 ∧ 0 < room.battery ∧ next = { room with battery := room.battery - 1 } ∧ watt = { p with battery := p.battery + 1 }) ∨
        (room.grid = 0 ∧ room.battery = 0 ∧ next = { room with solar := room.solar - 1 } ∧ watt = { p with solar := p.solar + 1 })) := by
      unfold Portions.sum at fits
      unfold placeWatt Portions.sum
      split
      · next grid => exact ⟨_, _, rfl, by dsimp only; omega, .inl ⟨grid, rfl, rfl⟩⟩
      · next noGrid =>
        split
        · next battery => exact ⟨_, _, rfl, by dsimp only; omega, .inr (.inl ⟨by omega, battery, rfl, rfl⟩)⟩
        · next noBattery =>
          rw [if_pos (by omega)]
          exact ⟨_, _, rfl, by dsimp only; omega, .inr (.inr ⟨by omega, by omega, rfl, rfl⟩)⟩
    obtain ⟨next, watt, eq, sum, how⟩ := placed
    obtain ⟨left, portions⟩ := ih (room := next) (by omega) watt
    unfold placeWatts
    rw [eq]
    dsimp only
    refine ⟨by omega, portions.trans ?_⟩
    rcases how with ⟨grid, rfl, rfl⟩ | ⟨noGrid, battery, rfl, rfl⟩ | ⟨noGrid, noBattery, rfl, rfl⟩
    · simp only [Portions.mk.injEq]
      omega
    · simp only [Portions.mk.injEq]
      omega
    · simp only [Portions.mk.injEq]
      omega

/-! ## The bays of a class one after another -/

/-- The room left once the remainders of some bays are placed. -/
def roomLeft (d : Portions) : Portions → List (Fin 12 × Nat) → Portions
  | room, [] => room
  | room, (_, g) :: gs => roomLeft d (placeWatts (g - (basePortions d g).sum) room (basePortions d g)).1 gs

/-- What the base portions of a grant leave of it. -/
def remainderOf (d : Portions) (g : Nat) : Nat := g - (basePortions d g).sum

section
variable (d : Portions)

theorem placeClass_append (room : Portions) (gs hs : List (Fin 12 × Nat)) :
    placeClass d room (gs ++ hs) = placeClass d room gs ++ placeClass d (roomLeft d room gs) hs := by
  induction gs generalizing room with
  | nil => rfl
  | cons g gs ih => exact congrArg _ (ih _)

theorem fst_placeClass (room : Portions) (gs : List (Fin 12 × Nat)) : (placeClass d room gs).map Prod.fst = gs.map Prod.fst := by
  induction gs generalizing room with
  | nil => rfl
  | cons g gs ih => exact congrArg _ (ih _)

/-- No source is created or lost: what is placed comes out of the room. -/
theorem placeClass_conserves {f : Portions → Nat} (source : Portions.isSource f) (room : Portions) (gs : List (Fin 12 × Nat)) :
    f (roomLeft d room gs) + ((placeClass d room gs).map fun p => f p.2).sum = f room + (gs.map fun g => f (basePortions d g.2)).sum := by
  induction gs generalizing room with
  | nil => rfl
  | cons g gs ih =>
    obtain ⟨b, g⟩ := g
    have rest := ih (placeWatts (g - (basePortions d g).sum) room (basePortions d g)).1
    have this := placeWatts_conserves source (g - (basePortions d g).sum) room (basePortions d g)
    simp only [roomLeft, placeClass, List.map_cons, List.sum_cons]
    omega

theorem sum_roomLeft {room : Portions} {gs : List (Fin 12 × Nat)} (fits : (gs.map fun g => remainderOf d g.2).sum ≤ room.sum) :
    (roomLeft d room gs).sum + (gs.map fun g => remainderOf d g.2).sum = room.sum := by
  induction gs generalizing room with
  | nil => rfl
  | cons g gs ih =>
    obtain ⟨b, g⟩ := g
    simp only [List.map_cons, List.sum_cons] at fits
    obtain ⟨left, -⟩ := placeWatts_eq (n := remainderOf d g) (room := room) (by omega) (basePortions d g)
    have rest := ih (room := (placeWatts (remainderOf d g) room (basePortions d g)).1) (by omega)
    simp only [List.map_cons, List.sum_cons]
    change (roomLeft d (placeWatts (remainderOf d g) room (basePortions d g)).1 gs).sum + _ = _
    omega

end

/-! ## Base portions (R81 steps 1 and 2) -/

theorem base_source {f : Portions → Nat} (source : Portions.isSource f) (d : Portions) (g : Nat) :
    f (basePortions d g) = g * f d / d.sum := by
  rcases source with rfl | rfl | rfl <;> rfl

/-- The floors of a class take no more of a source than the class's deduction. -/
theorem sum_floors_le (a total : Nat) : ∀ gs : List (Fin 12 × Nat), (gs.map fun g => g.2 * a / total).sum ≤ grantSum gs * a / total
  | [] => Nat.zero_le _
  | g :: gs => by
    have rest := sum_floors_le a total gs
    have two : g.2 * a / total + grantSum gs * a / total ≤ (g.2 * a + grantSum gs * a) / total := Nat.div_add_div_le_add_div ..
    have whole : grantSum (g :: gs) * a = g.2 * a + grantSum gs * a := Nat.add_mul ..
    simp only [List.map_cons, List.sum_cons]
    rw [whole]
    omega

theorem sum_base_le {d : Portions} {gs : List (Fin 12 × Nat)} (within : grantSum gs ≤ d.sum) {f : Portions → Nat}
    (source : Portions.isSource f) : (gs.map fun g => f (basePortions d g.2)).sum ≤ f d := by
  have floors := sum_floors_le (f d) d.sum gs
  have cap : grantSum gs * f d / d.sum ≤ f d := by
    rcases Nat.eq_zero_or_pos d.sum with zero | positive
    · rw [zero, Nat.div_zero]
      exact Nat.zero_le _
    · exact Nat.div_le_of_le_mul (Nat.mul_le_mul_right _ within)
  simp only [base_source source]
  exact Nat.le_trans floors cap

/-- The base portions take a grant but for at most 2 W (R81 step 2). -/
theorem remainderOf_le {d : Portions} {g : Nat} (within : g ≤ d.sum) : remainderOf d g ≤ 2 ∧ (basePortions d g).sum ≤ g := by
  rcases Nat.eq_zero_or_pos d.sum with zero | positive
  · have none : g = 0 := by omega
    subst none
    simp [remainderOf, basePortions, Portions.sum]
  · have solar := Nat.div_mul_le_self (g * d.solar) d.sum
    have battery := Nat.div_mul_le_self (g * d.battery) d.sum
    have grid := Nat.div_mul_le_self (g * d.grid) d.sum
    have solar' := Nat.lt_div_mul_add positive (a := g * d.solar)
    have battery' := Nat.lt_div_mul_add positive (a := g * d.battery)
    have grid' := Nat.lt_div_mul_add positive (a := g * d.grid)
    have whole : g * d.solar + g * d.battery + g * d.grid = g * d.sum := by
      unfold Portions.sum
      rw [Nat.mul_add, Nat.mul_add]
    have sum : (basePortions d g).sum = g * d.solar / d.sum + g * d.battery / d.sum + g * d.grid / d.sum := rfl
    generalize g * d.solar / d.sum = a, g * d.battery / d.sum = b, g * d.grid / d.sum = c at *
    have below : (a + b + c) * d.sum ≤ g * d.sum := by
      rw [Nat.add_mul, Nat.add_mul]
      omega
    have above : g * d.sum < (a + b + c + 3) * d.sum := by
      rw [Nat.add_mul, Nat.add_mul, Nat.add_mul]
      omega
    have low := Nat.le_of_mul_le_mul_right below positive
    have high := Nat.lt_of_mul_lt_mul_right above
    unfold remainderOf
    omega

/-- The room once every base portion is placed. -/
theorem roomAfterBase_source {f : Portions → Nat} (source : Portions.isSource f) (d : Portions) (gs : List (Fin 12 × Nat))
    (start : Portions) : f (gs.foldl (fun room g => room.less (basePortions d g.2)) start) =
      f start - (gs.map fun g => f (basePortions d g.2)).sum := by
  induction gs generalizing start with
  | nil => rfl
  | cons g gs ih =>
    have less : f (start.less (basePortions d g.2)) = f start - f (basePortions d g.2) := by
      rcases source with rfl | rfl | rfl <;> rfl
    rw [List.foldl_cons, ih, less, List.map_cons, List.sum_cons, Nat.sub_sub]

section
variable {d : Portions} {gs : List (Fin 12 × Nat)} (within : grantSum gs ≤ d.sum)
include within

theorem room_add_base {f : Portions → Nat} (source : Portions.isSource f) :
    f (roomAfterBase d gs) + (gs.map fun g => f (basePortions d g.2)).sum = f d := by
  have base := sum_base_le within source
  unfold roomAfterBase
  rw [roomAfterBase_source source]
  omega

theorem grant_le_of_mem {g : Fin 12 × Nat} (mem : g ∈ gs) : g.2 ≤ d.sum :=
  Nat.le_trans (le_sum_of_mem (List.mem_map_of_mem mem)) within

/-- The room takes every remainder. -/
theorem sum_remainders_le : (gs.map fun g => remainderOf d g.2).sum ≤ (roomAfterBase d gs).sum := by
  have solar := room_add_base within (f := Portions.solar) (.inl rfl)
  have battery := room_add_base within (f := Portions.battery) (.inr (.inl rfl))
  have grid := room_add_base within (f := Portions.grid) (.inr (.inr rfl))
  have parts (hs : List (Fin 12 × Nat)) (all : ∀ g ∈ hs, g.2 ≤ d.sum) :
      (hs.map fun g => remainderOf d g.2).sum + ((hs.map fun g => (basePortions d g.2).solar).sum +
        (hs.map fun g => (basePortions d g.2).battery).sum + (hs.map fun g => (basePortions d g.2).grid).sum) = grantSum hs := by
    induction hs with
    | nil => rfl
    | cons g hs ih =>
      have rest := ih fun h mem => all h (List.mem_cons_of_mem _ mem)
      obtain ⟨-, base⟩ := remainderOf_le (all g List.mem_cons_self)
      unfold Portions.sum at base
      unfold remainderOf Portions.sum grantSum at *
      simp only [List.map_cons, List.sum_cons]
      omega
  have all := parts gs fun g mem => grant_le_of_mem within mem
  have sums : d.sum = d.solar + d.battery + d.grid := rfl
  change _ ≤ (roomAfterBase d gs).solar + (roomAfterBase d gs).battery + (roomAfterBase d gs).grid
  omega

end

end Sys2Proof.Machine
end

section
/-! The plan stays within the pots: classes within their deductions, deductions within the pots, and the setpoint. -/

namespace Sys2Proof.Machine

/-! ## The portions of a class by bay (R81) -/

theorem portionsIn_of_mem {ps : List (Fin 12 × Portions)} (nodup : (ps.map Prod.fst).Nodup) {b : Fin 12} {p : Portions}
    (mem : (b, p) ∈ ps) : portionsIn ps b = p := by
  induction ps with
  | nil => cases mem
  | cons a ps ih =>
    rw [List.map_cons, List.nodup_cons] at nodup
    obtain ⟨fresh, nodup⟩ := nodup
    rcases List.mem_cons.mp mem with rfl | later
    · simp [portionsIn]
    · have other : a.1 ≠ b := fun e => fresh (e ▸ List.mem_map_of_mem (f := Prod.fst) later)
      have rest := ih nodup later
      unfold portionsIn at rest ⊢
      rw [List.find?_cons_of_neg (by simpa using other)]
      exact rest

/-- The bays of a class with their grants. -/
def withGrants (bs : List (Fin 12)) (grant : Fin 12 → Nat) : List (Fin 12 × Nat) := bs.map fun b => (b, grant b)

theorem sum_withGrants (bs : List (Fin 12)) (grant : Fin 12 → Nat) (f : Nat → Nat) :
    ((withGrants bs grant).map fun g => f g.2).sum = (bs.map fun b => f (grant b)).sum := by
  rw [withGrants, List.map_map]
  rfl

/-- Some bays of a class with their portions, summed by what the whole class gives each of them. -/
theorem sum_portionsIn {all some : List (Fin 12 × Portions)} (nodup : (all.map Prod.fst).Nodup) (sub : ∀ p ∈ some, p ∈ all)
    (f : Portions → Nat) : (some.map fun p => f p.2).sum = ((some.map Prod.fst).map fun b => f (portionsIn all b)).sum := by
  rw [List.map_map]
  refine congrArg List.sum (List.map_congr_left fun p mem => ?_)
  exact congrArg f (portionsIn_of_mem nodup (sub p mem)).symm

theorem fst_withGrants (bs : List (Fin 12)) (grant : Fin 12 → Nat) : (withGrants bs grant).map Prod.fst = bs := by
  simp [withGrants, Function.comp_def]

section
variable {d room : Portions} {bs : List (Fin 12)} {grant : Fin 12 → Nat}

theorem nodup_placed (nodup : bs.Nodup) : ((placeClass d room (withGrants bs grant)).map Prod.fst).Nodup := by
  rw [fst_placeClass, fst_withGrants]
  exact nodup

/-- What the bays before one are given came out of the room, and their base portions with it. -/
theorem roomLeft_source {before after : List (Fin 12)} (nodup : (before ++ after).Nodup) {f : Portions → Nat}
    (source : Portions.isSource f) :
    f (roomLeft d room (withGrants before grant)) +
        (before.map fun b => f (portionsIn (placeClass d room (withGrants (before ++ after) grant)) b)).sum =
      f room + (before.map fun b => f (basePortions d (grant b))).sum := by
  have suffix : withGrants (before ++ after) grant = withGrants before grant ++ withGrants after grant := List.map_append ..
  have conserved := placeClass_conserves d source room (withGrants before grant)
  rw [sum_portionsIn (nodup_placed nodup) (fun p mem => by rw [suffix, placeClass_append]; exact List.mem_append_left _ mem) f,
    fst_placeClass, fst_withGrants, sum_withGrants before grant fun g => f (basePortions d g)] at conserved
  exact conserved

/-- The portions of a bay: its remainder placed in the room that the bays before it leave. -/
theorem portionsIn_placed {before after : List (Fin 12)} {b : Fin 12} (nodup : (before ++ b :: after).Nodup) :
    portionsIn (placeClass d room (withGrants (before ++ b :: after) grant)) b =
      (placeWatts (remainderOf d (grant b)) (roomLeft d room (withGrants before grant)) (basePortions d (grant b))).2 := by
  refine portionsIn_of_mem (nodup_placed nodup) ?_
  have suffix : withGrants (before ++ b :: after) grant = withGrants before grant ++ (b, grant b) :: withGrants after grant :=
    List.map_append ..
  rw [suffix, placeClass_append]
  exact List.mem_append_right _ List.mem_cons_self

end

/-! ## A class within its deductions -/

section
variable {d : Portions} {bs : List (Fin 12)} {grant : Fin 12 → Nat} (nodup : bs.Nodup) (within : (bs.map grant).sum ≤ d.sum)

include within in
theorem grantSum_withGrants_le : grantSum (withGrants bs grant) ≤ d.sum := by
  have sum : grantSum (withGrants bs grant) = (bs.map grant).sum := sum_withGrants bs grant id
  rw [sum]
  exact within

include nodup within

/-- No source gives a class more than its deduction. -/
theorem sum_portions_le {f : Portions → Nat} (source : Portions.isSource f) :
    (bs.map fun b => f (portionsIn (classPortions d (withGrants bs grant)) b)).sum ≤ f d := by
  have room := room_add_base (grantSum_withGrants_le within) source
  have left := roomLeft_source (d := d) (room := roomAfterBase d (withGrants bs grant)) (grant := grant) (before := bs) (after := [])
    (by rw [List.append_nil]; exact nodup) source
  rw [List.append_nil] at left
  rw [sum_withGrants bs grant fun g => f (basePortions d g)] at room
  unfold classPortions
  omega

/-- The portions of a bay (R81): its base portions, and its remainder on grid, then battery, then solar, as far as each has room:
the deduction less the portions of the bays before and the base portions of the others. -/
theorem portions_split {before after : List (Fin 12)} {b : Fin 12} (split : bs = before ++ b :: after) :
    let got := fun (source : Portions → Nat) b => source (portionsIn (classPortions d (withGrants bs grant)) b)
    let base := fun (source : Portions → Nat) b => source (basePortions d (grant b))
    let rest := remainderOf d (grant b)
    let room := fun (source : Portions → Nat) => source d - (before.map (got source)).sum - ((b :: after).map (base source)).sum
    let toGrid := min rest (room Portions.grid)
    let toBattery := min (rest - toGrid) (room Portions.battery)
    rest ≤ 2 ∧ (basePortions d (grant b)).sum + rest = grant b ∧
      portionsIn (classPortions d (withGrants bs grant)) b =
        { solar := base Portions.solar b + (rest - toGrid - toBattery), battery := base Portions.battery b + toBattery
          grid := base Portions.grid b + toGrid } := by
  subst split
  intro got base rest room toGrid toBattery
  have total := grantSum_withGrants_le within
  have mem : (b, grant b) ∈ withGrants (before ++ b :: after) grant := List.mem_map_of_mem (by simp)
  obtain ⟨small, below⟩ := remainderOf_le (grant_le_of_mem total mem)
  have whole : (basePortions d (grant b)).sum + rest = grant b := Nat.add_sub_cancel' below
  refine ⟨small, whole, ?_⟩
  have left {f : Portions → Nat} (source : Portions.isSource f) :
      f (roomLeft d (roomAfterBase d (withGrants (before ++ b :: after) grant)) (withGrants before grant)) = room f := by
    have all := room_add_base total source
    have conserved : f (roomLeft d (roomAfterBase d (withGrants (before ++ b :: after) grant)) (withGrants before grant)) +
        (before.map (got f)).sum = _ := roomLeft_source nodup source
    rw [sum_withGrants _ grant fun g => f (basePortions d g), List.map_append, List.sum_append] at all
    change _ = f d - (before.map (got f)).sum - ((b :: after).map fun b => f (basePortions d (grant b))).sum
    omega
  have fits : rest ≤ (roomLeft d (roomAfterBase d (withGrants (before ++ b :: after) grant)) (withGrants before grant)).sum := by
    have all := sum_remainders_le total
    have suffix : (withGrants (before ++ b :: after) grant).map (fun g => remainderOf d g.2) =
        (withGrants before grant).map (fun g => remainderOf d g.2) ++ rest :: (withGrants after grant).map fun g => remainderOf d g.2 := by
      simp [withGrants, rest]
    rw [suffix, List.sum_append, List.sum_cons] at all
    have placed := sum_roomLeft d (room := roomAfterBase d (withGrants (before ++ b :: after) grant)) (gs := withGrants before grant)
      (by omega)
    omega
  obtain ⟨-, portions⟩ := placeWatts_eq fits (basePortions d (grant b))
  rw [left (.inr (.inr rfl)), left (f := Portions.battery) (.inr (.inl rfl))] at portions
  unfold classPortions
  exact (portionsIn_placed nodup).trans portions

/-- The portions of a bay make up its grant. -/
theorem sum_portionsIn_eq {b : Fin 12} (mem : b ∈ bs) : (portionsIn (classPortions d (withGrants bs grant)) b).sum = grant b := by
  obtain ⟨before, after, split⟩ := List.append_of_mem mem
  obtain ⟨-, whole, portions⟩ := portions_split nodup within split
  rw [portions]
  unfold Portions.sum at whole ⊢
  dsimp only
  omega

end

end Sys2Proof.Machine
end

section
/-! The plan stays within the pots: the grants a class hands out, its deductions, and the plan's sums. -/

namespace Sys2Proof.Machine

/-! ## Caps only lower a grant (R77 to R80) -/

theorem capPair_le {cap pa pb ga gb : Nat} {lower : Bool} (a : ga = 0 ∨ pa ≤ ga) (b : gb = 0 ∨ pb ≤ gb) :
    (capPair cap pa pb lower ga gb).1 ≤ ga ∧ (capPair cap pa pb lower ga gb).2 ≤ gb := by
  unfold capPair sharedGrant
  split
  · exact ⟨Nat.le.refl, Nat.le.refl⟩
  · split
    · exact ⟨Nat.min_le_left .., Nat.min_le_left ..⟩
    · split
      · dsimp only
        omega
      · split
        · exact ⟨Nat.min_le_left .., Nat.zero_le _⟩
        · exact ⟨Nat.zero_le _, Nat.min_le_left ..⟩

theorem grantWithin.zero_or_pmin_le {pmin pmax g : Nat} (h : grantWithin pmin pmax g) : g = 0 ∨ pmin ≤ g :=
  h.imp_right fun h => h.2.1

theorem finalGrant_le {l : Latched} (round : Word) {g : Fin 12 → Nat}
    (legal : ∀ b, grantWithin (l.bay b).pmin (l.bay b).pmax (g b)) (b : Fin 12) : l.finalGrant round g b ≤ g b := by
  have pair (p : Fin 6) : (l.pairGrants round g p).1 ≤ g (lowerBay p) ∧ (l.pairGrants round g p).2 ≤ g (higherBay p) :=
    capPair_le (legal _).zero_or_pmin_le (legal _).zero_or_pmin_le
  have feeder : l.feederGrant round g b ≤ g b := by
    obtain ⟨lower, higher⟩ := pair (pairOf b)
    rcases bay_eq_lower_or_higher b with ⟨-, e⟩ | ⟨-, e⟩
    · rw [← feederGrant_lower, e] at lower
      exact lower
    · rw [← feederGrant_higher, e] at higher
      exact higher
  rw [finalGrant_eq]
  split
  · exact Nat.le_trans (Nat.min_le_left ..) feeder
  · exact feeder

/-! ## A class's grants and its deductions (R71, R76) -/

/-- What a class hands out goes to its members. -/
theorem sum_granted (l : Latched) (pots : Portions) (c : SessionClass) :
    ((l.members c).map (grantIn (l.serving pots).grants)).sum = grantSum ((l.serving pots).of c).grants := by
  obtain ⟨q, served, fills, sub, nodup, -⟩ := serving_fills l pots c
  have unserved (b : Fin 12) (inClass : b ∈ l.members c) (out : b ∉ served) : grantIn (l.serving pots).grants b = 0 := by
    refine grantIn_of_not_mem fun g mem => out ?_
    obtain ⟨c', inOther⟩ := mem_grants.mp mem
    have same : c' = c := by
      have other := (mem_members.mp (member_of_grant inOther)).2
      have this := (mem_members.mp inClass).2
      rw [other] at this
      exact Option.some.inj this
    exact mem_of_fills fills (same ▸ inOther)
  have counted : (served.map (grantIn (l.serving pots).grants)).sum = grantSum ((l.serving pots).of c).grants := by
    rw [← fills_fst fills, List.map_map]
    exact congrArg List.sum (List.map_congr_left fun g mem => granted_of_mem mem)
  rw [← counted]
  exact sum_map_of_subset (members_nodup l c) nodup sub unserved

theorem sum_deduct {p : Portions} {total : Nat} (covered : total ≤ p.sum) : (p.deduct total).sum = total := by
  unfold Portions.sum Portions.deduct at *
  dsimp only at *
  omega

/-- The class total comes out of the permitted pots. -/
theorem sum_deductions (l : Latched) (pots : Portions) (c : SessionClass) :
    ((l.serving pots).of c).deductions.sum = grantSum ((l.serving pots).of c).grants := by
  obtain ⟨q, served, fills, -, -, pot⟩ := serving_fills l pots c
  have taken := sum_of_fills fills
  rw [serving_of] at taken ⊢
  exact sum_deduct (Nat.le_trans taken (Nat.le_of_eq pot))

theorem deduct_source {f : Portions → Nat} (source : Portions.isSource f) (p : Portions) (total : Nat) : f (p.deduct total) ≤ f p := by
  rcases source with rfl | rfl | rfl <;> exact Nat.min_le_left ..

theorem permitted_source {f : Portions → Nat} (source : Portions.isSource f) (p : Portions) (set : BitVec 3) :
    f (p.permitted set) ≤ f p := by
  rcases source with rfl | rfl | rfl
  all_goals
    unfold Portions.permitted
    dsimp only
    split
    · exact Nat.le.refl
    · exact Nat.zero_le _

/-- A class takes no more of a source than is left to it. -/
theorem deductions_le_left (l : Latched) (pots : Portions) (c : SessionClass) {f : Portions → Nat} (source : Portions.isSource f) :
    f ((l.serving pots).of c).deductions ≤ f (l.left pots c) := by
  rw [serving_of]
  exact Nat.le_trans (deduct_source source ..) (permitted_source source ..)

/-- The classes together take no more of a source than its pot. -/
theorem deductions_le (l : Latched) (pots : Portions) {f : Portions → Nat} (source : Portions.isSource f) :
    f ((l.serving pots).of .priority).deductions + f ((l.serving pots).of .standard).deductions +
      f ((l.serving pots).of .economy).deductions ≤ f pots := by
  have less (p d : Portions) : f (p.less d) = f p - f d := by rcases source with rfl | rfl | rfl <;> rfl
  have priority := deductions_le_left l pots .priority source
  have standard := deductions_le_left l pots .standard source
  have economy := deductions_le_left l pots .economy source
  simp only [Latched.left, less] at priority standard economy
  simp only [Serving.of] at *
  omega

/-! ## The portions of the plan's bays -/

theorem Portions.eq_zero_of_sum {p : Portions} (none : p.sum = 0) : p = {} := by
  obtain ⟨solar, battery, grid⟩ := p
  unfold Portions.sum at none
  dsimp only at none
  obtain ⟨rfl, rfl, rfl⟩ : solar = 0 ∧ battery = 0 ∧ grid = 0 := by omega
  rfl

section
variable {l : Latched} (legal : l.legal) (x : Nat) (round : Word)
include legal

/-- The final grants of a class come out of its deductions. -/
theorem sum_finalGrants_le (c : SessionClass) :
    ((l.members c).map (l.finalGrant round (grantIn (l.serving (l.pots x)).grants))).sum ≤
      ((l.serving (l.pots x)).of c).deductions.sum := by
  rw [sum_deductions, ← sum_granted]
  exact sum_map_le fun b _ => finalGrant_le round (granted_within legal (l.pots x)) b

/-- The portions of a member of a class. -/
theorem portions_plan {c : SessionClass} {b : Fin 12} (mem : b ∈ l.members c) : ((l.plan x round).bays[b]).portions =
    portionsIn (classPortions ((l.serving (l.pots x)).of c).deductions
      (withGrants (l.members c) (l.finalGrant round (grantIn (l.serving (l.pots x)).grants)))) b := by
  obtain ⟨-, cls⟩ := mem_members.mp mem
  rw [bays_plan]
  by_cases none : l.finalGrant round (grantIn (l.serving (l.pots x)).grants) b = 0
  · rw [planBay_of_zero none]
    have zero := sum_portionsIn_eq (members_nodup l c) (sum_finalGrants_le legal x round c) mem
    rw [none] at zero
    exact (Portions.eq_zero_of_sum zero).symm
  · rw [planBay_cases cls none]
    rfl

/-- A bay of no class has nothing. -/
theorem portions_plan_of_not_mem {b : Fin 12} (out : ∀ c, b ∉ l.members c) : (l.plan x round).bays[b] = {} := by
  rw [bays_plan]
  refine planBay_of_zero (Classical.byContradiction fun positive => ?_)
  obtain ⟨eligible, c, cls⟩ := class_of_finalGrant x round legal positive
  exact out c (mem_members.mpr ⟨eligible, cls⟩)

theorem sum_portions_plan (b : Fin 12) : ((l.plan x round).bays[b]).portions.sum = ((l.plan x round).bays[b]).grant := by
  by_cases member : ∃ c, b ∈ l.members c
  · obtain ⟨c, mem⟩ := member
    rw [portions_plan legal x round mem, grant_plan x round legal]
    exact sum_portionsIn_eq (members_nodup l c) (sum_finalGrants_le legal x round c) mem
  · rw [portions_plan_of_not_mem legal x round (not_exists.mp member)]
    rfl

/-- No source gives a class more than the class's deduction. -/
theorem sum_class_le (c : SessionClass) {f : Portions → Nat} (source : Portions.isSource f) :
    ((l.members c).map fun b => f ((l.plan x round).bays[b]).portions).sum ≤ f ((l.serving (l.pots x)).of c).deductions := by
  rw [List.map_congr_left fun b mem => congrArg f (portions_plan legal x round mem)]
  exact sum_portions_le (members_nodup l c) (sum_finalGrants_le legal x round c) source

end

/-- A sum over the bays is the sums over the three classes, where the bays of no class give nothing. -/
theorem sum_by_class {l : Latched} {f : Fin 12 → Nat} (none : ∀ b, (∀ c, b ∉ l.members c) → f b = 0) :
    ((List.finRange 12).map f).sum =
      ((l.members .priority).map f).sum + ((l.members .standard).map f).sum + ((l.members .economy).map f).sum := by
  have inClass (c : SessionClass) : ((l.members c).map f).sum =
      ((List.finRange 12).map fun b => if b ∈ l.members c then f b else 0).sum := by
    rw [sum_map_if]
    refine congrArg (fun bs => (List.map f bs).sum) (List.filter_congr fun b _ => ?_)
    rw [Bool.eq_iff_iff, decide_eq_true_iff, mem_members]
    simp
  rw [inClass, inClass, inClass, ← sum_map_add, ← sum_map_add]
  refine congrArg List.sum (List.map_congr_left fun b _ => ?_)
  by_cases member : ∃ c, b ∈ l.members c
  · obtain ⟨c, mem⟩ := member
    have only (d : SessionClass) : b ∈ l.members d ↔ d = c := by
      rw [mem_members] at mem ⊢
      rw [mem.1, mem.2]
      simp [eq_comm]
    simp only [only]
    cases c <;> simp
  · rw [none b (not_exists.mp member)]
    simp

theorem sumBays_eq (bays : Vector PlanBay 12) (f : PlanBay → Nat) :
    sumBays bays f = ((List.finRange 12).map fun b => f bays[b]).sum := by
  have list : bays.toList = (List.finRange 12).map fun b => bays[b] := by
    apply List.ext_getElem <;> simp
  rw [sumBays, list, List.map_map]
  rfl

/-- No source gives the bays more than its pot. -/
theorem sumBays_le {l : Latched} (legal : l.legal) (x : Nat) (round : Word) {f : Portions → Nat} (source : Portions.isSource f) :
    (sumBays (l.plan x round).bays fun b => f b.portions) ≤ f (l.pots x) := by
  rw [sumBays_eq, sum_by_class (l := l) fun b out => ?_]
  · have priority := sum_class_le legal x round .priority source
    have standard := sum_class_le legal x round .standard source
    have economy := sum_class_le legal x round .economy source
    have all := deductions_le l (l.pots x) source
    omega
  · rw [portions_plan_of_not_mem legal x round out]
    rcases source with rfl | rfl | rfl <;> rfl

/-! ## The plan -/

/-- A source that a class's set omits gives it nothing (R69). -/
theorem deductions_omitted (l : Latched) (pots : Portions) (c : SessionClass) :
    ((l.map.set c).getLsbD 0 = false → ((l.serving pots).of c).deductions.solar = 0) ∧
    ((l.map.set c).getLsbD 1 = false → ((l.serving pots).of c).deductions.battery = 0) ∧
    ((l.map.set c).getLsbD 2 = false → ((l.serving pots).of c).deductions.grid = 0) := by
  rw [serving_of]
  refine ⟨fun omitted => ?_, fun omitted => ?_, fun omitted => ?_⟩
  all_goals simp only [Latched.serve, Portions.deduct, Portions.permitted, omitted, Bool.false_eq_true, if_false, Nat.zero_min]

/-- The portions of a member of a class, by the plan's own grants and portions (R81). -/
theorem portions_of_member {l : Latched} (legal : l.legal) (x : Nat) (round : Word) {c : SessionClass} {before after : List (Fin 12)}
    {b : Fin 12} (split : l.members c = before ++ b :: after) :
    let p := l.plan x round
    let d := ((l.serving (l.pots x)).of c).deductions
    let base := fun (source : Portions → Nat) (b : Fin 12) => (p.bays[b]).grant * source d / d.sum
    let got := fun (source : Portions → Nat) (b : Fin 12) => source (p.bays[b]).portions
    let rest := (p.bays[b]).grant - base Portions.solar b - base Portions.battery b - base Portions.grid b
    let room := fun (source : Portions → Nat) => source d - (before.map (got source)).sum - ((b :: after).map (base source)).sum
    let toGrid := min rest (room Portions.grid)
    let toBattery := min (rest - toGrid) (room Portions.battery)
    rest ≤ 2 ∧ (p.bays[b]).portions =
      { solar := base Portions.solar b + (rest - toGrid - toBattery), battery := base Portions.battery b + toBattery
        grid := base Portions.grid b + toGrid } := by
  intro p d base got
  have inClass {a : Fin 12} (mem : a ∈ before ++ b :: after) : a ∈ l.members c := by rw [split]; exact mem
  obtain ⟨small, -, portions⟩ := portions_split (members_nodup l c) (sum_finalGrants_le legal x round c) split
  have gotEq (f : Portions → Nat) : before.map (got f) = _ :=
    List.map_congr_left fun a mem => congrArg f (portions_plan legal x round (inClass (List.mem_append_left _ mem)))
  have baseEq {f : Portions → Nat} (source : Portions.isSource f) (a : Fin 12) :
      base f a = f (basePortions d (l.finalGrant round (grantIn (l.serving (l.pots x)).grants) a)) := by
    rw [base_source source, ← grant_plan x round legal]
  have basesEq {f : Portions → Nat} (source : Portions.isSource f) : (b :: after).map (base f) = _ :=
    List.map_congr_left fun a _ => baseEq source a
  have restEq : (p.bays[b]).grant - base Portions.solar b - base Portions.battery b - base Portions.grid b =
      remainderOf d (l.finalGrant round (grantIn (l.serving (l.pots x)).grants) b) := by
    rw [baseEq (.inl rfl), baseEq (f := Portions.battery) (.inr (.inl rfl)), baseEq (f := Portions.grid) (.inr (.inr rfl)),
      Nat.sub_sub, Nat.sub_sub, ← Nat.add_assoc, show (p.bays[b]).grant = _ from grant_plan x round legal b]
    rfl
  dsimp only
  rw [restEq, gotEq Portions.grid, gotEq Portions.battery, basesEq (f := Portions.grid) (.inr (.inr rfl)),
    basesEq (f := Portions.battery) (.inr (.inl rfl)), baseEq (.inl rfl), baseEq (f := Portions.battery) (.inr (.inl rfl)),
    baseEq (f := Portions.grid) (.inr (.inr rfl))]
  exact ⟨small, (portions_plan legal x round (inClass (by simp))).trans portions⟩

/-- Settles O41. -/
theorem planStaysWithinThePots : Obligations.PlanStaysWithinThePots := by
  intro l x round legal p solar battery grid charge
  have solarPot : solar ≤ (l.pots x).solar := sumBays_le legal x round (.inl rfl)
  have batteryPot : battery ≤ (l.pots x).battery := sumBays_le legal x round (f := Portions.battery) (.inr (.inl rfl))
  have gridPot : grid ≤ (l.pots x).grid := sumBays_le legal x round (f := Portions.grid) (.inr (.inr rfl))
  have cover : l.batteryCover x ≤ l.dmax := by
    unfold Latched.batteryCover
    split <;> omega
  have leftover : (l.pots x).battery ≤ l.dmax - l.batteryCover x := by
    unfold Latched.pots
    dsimp only
    split <;> omega
  have charged : charge ≤ l.cmax := by
    simp only [charge]
    split <;> omega
  have setpoint : p.setpoint = (charge : Int) - l.batteryCover x - battery := rfl
  refine ⟨solarPot, batteryPot, gridPot, sum_portions_plan legal x round, fun covered => ?_, setpoint, by omega, by omega, rfl, rfl,
    rfl, rfl, rfl, fun c => ?_⟩
  · have flag : ¬ l.solarCover x + l.batteryCover x < l.deficit x := of_decide_eq_false covered
    have pot : (l.pots x).grid = l.limit - (l.shop + x) := rfl
    have deficit : l.deficit x = l.shop + x - l.limit := rfl
    change l.shop + x + grid ≤ l.limit + l.solarCover x + l.batteryCover x
    omega
  · intro d total set bs base got within
    have setOf : set = l.map.set c := by cases c <;> rfl
    obtain ⟨noSolar, noBattery, noGrid⟩ := deductions_omitted l (l.pots x) c
    have bounded {f : Portions → Nat} (source : Portions.isSource f) : (bs.map (got f)).sum ≤ f d ∧ (f d = 0 → ∀ b ∈ bs, got f b = 0) := by
      have sum : (bs.map (got f)).sum ≤ f d := sum_class_le legal x round c source
      refine ⟨sum, fun zero b mem => ?_⟩
      exact Nat.le_zero.mp (Nat.le_trans (le_sum_of_mem (List.mem_map_of_mem mem)) (Nat.le_trans sum (Nat.le_of_eq zero)))
    rw [← setOf] at noSolar noBattery noGrid
    refine ⟨(bounded (.inl rfl)).imp_right fun h omitted => h (noSolar omitted),
      (bounded (f := Portions.battery) (.inr (.inl rfl))).imp_right fun h omitted => h (noBattery omitted),
      (bounded (f := Portions.grid) (.inr (.inr rfl))).imp_right fun h omitted => h (noGrid omitted), fun before b after => portions_of_member legal x round⟩
end Sys2Proof.Machine
end

section
/-! Site configuration, the site time and the Battery Account. -/

namespace Sys2Proof.Machine

/-! ## The event of the account (R91, R94, R100) -/

/-- One event changes the account to the one judged, but for its last event record. -/
theorem afterEvent_eq (old b : BatteryAccount) (time round : Word) :
    ∃ e, old.afterEvent b time round = { b with atReserve := b.calibrated && decide (b.eb ≤ b.reserve), lastEvent := e } := by
  unfold BatteryAccount.afterEvent
  dsimp only
  split
  · exact ⟨_, rfl⟩
  · exact ⟨b.lastEvent, rfl⟩

theorem drive_offline {b : BatteryAccount} (offline : b.state = .offline) (w : Int) : b.drive w = b := if_pos offline

theorem drive_online {b : BatteryAccount} (online : b.state ≠ .offline) (w : Int) :
    b.drive w = { b with setpoint := b.bounded w, state := batteryStateOf (b.bounded w) } := if_neg online

/-- SET_BATTERY's account drives the setpoint it had, under the new limits (R93). -/
theorem limited_eq (b : BatteryAccount) (cap reserve cmax dmax : Nat) :
    let n := { b with cap := cap, reserve := reserve, cmax := cmax, dmax := dmax, eb := min cap b.eb }
    let driven := max (-(dmax : Int)) (min cmax b.setpoint)
    (b.state = .offline → b.limited cap reserve cmax dmax = n) ∧
    (b.state ≠ .offline → b.limited cap reserve cmax dmax = { n with setpoint := driven, state := batteryStateOf driven }) := by
  intro n driven
  exact ⟨fun offline => drive_offline (b := n) offline b.setpoint, fun online => drive_online (b := n) online b.setpoint⟩

/-! ## Settings commands (R57, R70, R93, R165) -/

theorem sourceSetOf_eq_none {n : Nat} (bad : n = 0 ∨ 7 < n) : sourceSetOf n = none := by
  refine if_pos ?_
  rcases bad with rfl | high
  · rfl
  · simp only [Bool.or_eq_true, decide_eq_true_eq]
    omega

theorem sourceSetOf_eq_some {n : Nat} (positive : n ≠ 0) (low : n ≤ 7) : sourceSetOf n = some (BitVec.ofNat 3 n) := by
  refine if_neg ?_
  simp only [Bool.or_eq_true, decide_eq_true_eq]
  omega

theorem toNat_ne_zero {a : Word} (h : a ≠ 0) : a.toNat ≠ 0 := fun zero => h (BitVec.eq_of_toNat_eq zero)

theorem supplyMapOf_eq_none {p q e : Nat} (bad : sourceSetOf p = none ∨ sourceSetOf q = none ∨ sourceSetOf e = none) :
    supplyMapOf p q e = none := by
  unfold supplyMapOf
  split
  · next hp hq he => simp [hp, hq, he] at bad
  all_goals rfl

theorem supplyMapOf_eq_some {p q e : Nat} {a b c : BitVec 3} (hp : sourceSetOf p = some a) (hq : sourceSetOf q = some b)
    (he : sourceSetOf e = some c) : supplyMapOf p q e = some { priority := a, standard := b, economy := c } := by
  rw [supplyMapOf, hp, hq, he]

theorem batteryInRanges_iff (cap reserve cmax dmax : Nat) : batteryInRanges cap reserve cmax dmax = true ↔
    1000 ≤ cap ∧ cap ≤ 2000000 ∧ reserve ≤ cap ∧ cmax ≤ 250000 ∧ dmax ≤ 250000 := by
  simp [batteryInRanges, inRange, and_assoc]

/-- The nibbles of a CAUSE_MAP argument (R165). -/
theorem causeMapOf_cases (n : Nat) :
    ((∃ k : Fin 8, 7 < n / 16 ^ k.val % 16) → causeMapOf n = none) ∧
    ((∀ k : Fin 8, n / 16 ^ k.val % 16 ≤ 7) → ∃ m : Vector (Fin 8) 8, causeMapOf n = some m ∧
      ∀ k : Fin 8, (m[k]).val = n / 16 ^ k.val % 16) := by
  refine ⟨fun ⟨k, high⟩ => if_neg fun all => ?_, fun low => ⟨Vector.ofFn fun c => Fin.ofNat 8 (n / 16 ^ c.val % 16), if_pos ?_, fun k => ?_⟩⟩
  · have := of_decide_eq_true (List.all_eq_true.mp all k.val (List.mem_range.mpr k.isLt))
    omega
  · refine List.all_eq_true.mpr fun c mem => decide_eq_true ?_
    have := low ⟨c, List.mem_range.mp mem⟩
    dsimp only at this
    omega
  · have := low k
    simp only [Fin.getElem_fin, Vector.getElem_ofFn, Fin.ofNat]
    omega

section
variable {s : State} {a b c d : Word}

theorem setSite_answers : (1000000 < a.toNat ∨ b = 0 ∨ 10 < b.toNat → s.refuses (.setSite a b) .badArgument) ∧
    (a.toNat ≤ 1000000 → b ≠ 0 → b.toNat ≤ 10 →
      s.answers (.setSite a b) { s with al := { s.al with limit := a.toNat, period := b.toNat } } (.done 0 0)) := by
  refine ⟨fun bad => answers_of_effect (setSiteEffect a b) rfl (if_neg ?_), fun low positive short =>
    answers_of_effect (setSiteEffect a b) rfl (if_pos ?_)⟩
  · rw [siteInRanges_iff]
    rcases bad with high | zero | high
    · omega
    · rw [zero]; simp
    · omega
  · rw [siteInRanges_iff]
    have := toNat_ne_zero positive
    omega

theorem setSupplyMap_answers :
    (a = 0 ∨ 7 < a.toNat ∨ b = 0 ∨ 7 < b.toNat ∨ c = 0 ∨ 7 < c.toNat → s.refuses (.setSupplyMap a b c) .badArgument) ∧
    (a ≠ 0 → a.toNat ≤ 7 → b ≠ 0 → b.toNat ≤ 7 → c ≠ 0 → c.toNat ≤ 7 → s.answers (.setSupplyMap a b c)
      { s with al := { s.al with map := {
        priority := a.setWidth 3, standard := b.setWidth 3, economy := c.setWidth 3 } } } (.done 0 0)) := by
  have none (w : Word) (bad : w = 0 ∨ 7 < w.toNat) : sourceSetOf w.toNat = Option.none :=
    sourceSetOf_eq_none (bad.imp_left fun zero => by rw [zero]; rfl)
  have set (w : Word) (positive : w ≠ 0) (low : w.toNat ≤ 7) : sourceSetOf w.toNat = some (w.setWidth 3) := by
    rw [sourceSetOf_eq_some (toNat_ne_zero positive) low]
    exact congrArg some (BitVec.eq_of_toNat_eq (by simp))
  refine ⟨fun bad => answers_of_effect (setSupplyMapEffect a b c) rfl ?_, fun pa la pb lb pc lc =>
    answers_of_effect (setSupplyMapEffect a b c) rfl ?_⟩
  · have unmapped : supplyMapOf a.toNat b.toNat c.toNat = Option.none := by
      refine supplyMapOf_eq_none ?_
      rcases bad with h | h | h | h | h | h
      · exact .inl (none a (.inl h))
      · exact .inl (none a (.inr h))
      · exact .inr (.inl (none b (.inl h)))
      · exact .inr (.inl (none b (.inr h)))
      · exact .inr (.inr (none c (.inl h)))
      · exact .inr (.inr (none c (.inr h)))
    rw [setSupplyMapEffect, unmapped]
    rfl
  · rw [setSupplyMapEffect, supplyMapOf_eq_some (set a pa la) (set b pb lb) (set c pc lc)]
    rfl

theorem causeMap_answers :
    ((∃ k : Fin 8, 7 < a.toNat / 16 ^ k.val % 16) → s.refuses (.causeMap a) .badArgument) ∧
    ((∀ k : Fin 8, a.toNat / 16 ^ k.val % 16 ≤ 7) → ∃ m : Vector (Fin 8) 8,
      s.answers (.causeMap a) { s with nu := { s.nu with causeMap := m } } (.done 0 0) ∧
      ∀ k : Fin 8, (m[k]).val = a.toNat / 16 ^ k.val % 16) := by
  obtain ⟨refused, mapped⟩ := causeMapOf_cases a.toNat
  refine ⟨fun high => answers_of_effect (causeMapEffect a) rfl ?_, fun low => ?_⟩
  · rw [causeMapEffect, refused high]
    rfl
  · obtain ⟨m, eq, nibbles⟩ := mapped low
    refine ⟨m, answers_of_effect (causeMapEffect a) rfl ?_, nibbles⟩
    rw [causeMapEffect, eq]
    rfl

theorem setBattery_refuses
    (bad : a.toNat < 1000 ∨ 2000000 < a.toNat ∨ 250000 < c.toNat ∨ 250000 < d.toNat ∨ a.toNat < b.toNat) :
    s.refuses (.setBattery a b c d) .badArgument := by
  have out : batteryInRanges a.toNat b.toNat c.toNat d.toNat = false := by
    rw [← Bool.not_eq_true, batteryInRanges_iff]
    omega
  exact answers_of_effect (setBatteryEffect a b c d) rfl (if_pos (by rw [out]; rfl))

theorem setBattery_answers (legal : batteryInRanges a.toNat b.toNat c.toNat d.toNat = true) :
    let t := s.batteryEvent (s.ba.limited a.toNat b.toNat c.toNat d.toNat)
    s.answers (.setBattery a b c d) t (.done (field t.ba.eb) 0) :=
  answers_of_effect (setBatteryEffect a b c d) rfl (if_neg (by rw [legal]; decide))

end

/-- Settles O44. -/
theorem siteSettingsAreReplaced : Obligations.SiteSettingsAreReplaced := by
  intro s a b c d
  refine ⟨fun due => if_pos (secondDue_iff.mpr due), answers_of_effect (setTimeEffect a) rfl rfl, setSite_answers.1,
    setSite_answers.2, setSupplyMap_answers.1, setSupplyMap_answers.2, setBattery_refuses, fun low high charge discharge reserve => ?_,
    causeMap_answers.1, causeMap_answers.2⟩
  have legal := (batteryInRanges_iff a.toNat b.toNat c.toNat d.toNat).mpr ⟨low, high, reserve, charge, discharge⟩
  obtain ⟨e, after⟩ := afterEvent_eq s.ba (s.ba.limited a.toNat b.toNat c.toNat d.toNat) s.clock.siteTime s.al.round
  rw [← ba_batteryEvent] at after
  obtain ⟨offline, online⟩ := limited_eq s.ba a.toNat b.toNat c.toNat d.toNat
  have frame := batteryEvent_frame s (s.ba.limited a.toNat b.toNat c.toNat d.toNat)
  have answers := setBattery_answers (s := s) legal
  dsimp only at answers
  by_cases off : s.ba.state = .offline
  · rw [offline off] at after answers frame
    rw [after] at answers
    refine ⟨_, answers, ?_⟩
    rw [after]
    exact ⟨rfl, rfl, rfl, rfl, rfl, rfl, by simp, fun _ => ⟨rfl, off⟩, fun on => absurd off on, frame⟩
  · rw [online off] at after answers frame
    rw [after] at answers
    refine ⟨_, answers, ?_⟩
    rw [after]
    exact ⟨rfl, rfl, rfl, rfl, rfl, rfl, by simp, fun on => absurd on off, fun _ => ⟨rfl, rfl⟩, frame⟩

/-! ## The battery lines (R87, R90, R96, R97, R98) -/

theorem battLineFilterExpiry_quiet {s : State} {l : BattLine} (due : (s.ba.line l).timer = some 0)
    (quiet : s.pu.link = .starting ∨ (s.ba.line l).taken = (s.ba.line l).line) : exec (.battLineFilterExpiry l) s =
      .next (s.setLine l { s.ba.line l with timer := none, taken := (s.ba.line l).line }) := by
  refine (if_pos due).trans (if_pos ?_)
  rcases quiet with starting | same
  · simp [State.started, starting]
  · simp [same]

/-- A level that differs from the taken one is an edge once STARTING is over. -/
theorem battLineFilterExpiry_edge {s : State} {l : BattLine} (due : (s.ba.line l).timer = some 0)
    (running : s.pu.link ≠ .starting) (edge : (s.ba.line l).taken = !(s.ba.line l).line) : exec (.battLineFilterExpiry l) s =
      .next ((s.setLine l { s.ba.line l with timer := none, taken := (s.ba.line l).line }).battEdge l (s.ba.line l).line) := by
  refine (if_pos due).trans (if_neg ?_)
  simp [State.started, running, edge]

theorem battReadyFall_resting {t : State} (resting : t.ba.setpoint = 0) :
    t.battReadyFall = t.batteryEvent { t.ba with setpoint := 0, state := .offline } := by
  unfold State.battReadyFall
  dsimp only
  rw [if_pos resting]

theorem battReadyFall_driven {t : State} (driven : t.ba.setpoint ≠ 0) : t.battReadyFall =
    (t.record { kind := .batteryLost, data := some (BitVec.ofInt 32 t.ba.setpoint)
                detail := if t.ba.state = .charging then 1 else 2 }).batteryEvent { t.ba with setpoint := 0, state := .offline } := by
  unfold State.battReadyFall
  dsimp only
  rw [if_neg driven, ba_record]
  rfl

theorem battFullRise_eq (t : State) : t.battFullRise =
    t.batteryEvent { (if 0 < t.ba.setpoint then t.ba.rest else t.ba) with eb := t.ba.cap, calibrated := true } := by
  unfold State.battFullRise
  dsimp only
  split <;> rfl

theorem battEmptyRise_eq (t : State) : t.battEmptyRise =
    t.batteryEvent { (if t.ba.setpoint < 0 then t.ba.rest else t.ba) with eb := 0, calibrated := true } := by
  unfold State.battEmptyRise
  dsimp only
  split <;> rfl

theorem BatteryReasons.any_iff (r : BatteryReasons) : (r.state || r.reserve || r.calibrated) = true ↔
    r ≠ { state := false, reserve := false, calibrated := false } := by
  obtain ⟨state, reserve, calibrated⟩ := r
  revert state reserve calibrated
  decide

/-- Settles O45. -/
theorem batteryLinesAndEvents : Obligations.BatteryLinesAndEvents := by
  intro s l b w x t a rest
  refine ⟨battLineFilterExpiry_quiet, fun due running high low => ?_, fun due running low high => ?_,
    ⟨fun offline => congrArg s.batteryEvent (drive_offline offline w), fun online => congrArg s.batteryEvent (drive_online online w)⟩, ?_⟩
  · have row : exec (.battLineFilterExpiry l) s = .next (t.battEdge l false) := by
      rw [battLineFilterExpiry_edge due running (by rw [high, low]; rfl)]
      exact congrArg (fun v => Host.Outcome.next (t.battEdge l v)) low
    refine ⟨fun other => row.trans ?_, fun ready resting => row.trans ?_, fun ready driven => row.trans ?_⟩
    · cases l
      · exact absurd rfl other
      all_goals rfl
    · subst ready
      exact congrArg _ (battReadyFall_resting resting)
    · subst ready
      exact congrArg _ (battReadyFall_driven driven)
  · have row : exec (.battLineFilterExpiry l) s = .next (t.battEdge l true) := by
      rw [battLineFilterExpiry_edge due running (by rw [high, low]; rfl)]
      exact congrArg (fun v => Host.Outcome.next (t.battEdge l v)) high
    refine ⟨fun ready => row.trans ?_, fun full => row.trans ?_, fun empty => row.trans ?_⟩
    · subst ready
      rfl
    · subst full
      exact congrArg _ (battFullRise_eq t)
    · subst empty
      exact congrArg _ (battEmptyRise_eq t)
  · intro low r
    exact ⟨fun none => if_neg fun reason => (BatteryReasons.any_iff r).mp reason none, fun reason => if_pos ((BatteryReasons.any_iff r).mpr reason)⟩

end Sys2Proof.Machine
end

section
/-! The commands of the bays: AUTHORISE, the commands that name a session, CLEAR_BAY and SET_BAY. -/

namespace Sys2Proof.Machine

/-! ## AUTHORISE (R29, R30) -/

theorem SessionClass.ofCode_code (c : SessionClass) : SessionClass.ofCode c.code = some c := by
  cases c <;> rfl

theorem SessionClass.ofCode_eq_none {n : Nat} (bad : n = 0 ∨ 3 < n) : SessionClass.ofCode n = none := by
  unfold SessionClass.ofCode
  split
  case h_4 => rfl
  all_goals omega

section
variable {s : State} {bay : Byte} {cls quota : Word} {reference : BitVec 128}

theorem authorise_badArgument (bad : 11 < bay.toNat ∨ cls = 0 ∨ 3 < cls.toNat ∨ 1000000 < quota.toNat) :
    s.refuses (.authorise bay cls quota reference) .badArgument := by
  refine answers_of_effect (authoriseEffect bay cls quota reference) rfl ?_
  unfold authoriseEffect
  split
  · next b c hb hc =>
    refine if_pos ?_
    rcases bad with high | zero | high | large
    · rw [bayOf_eq_none high] at hb; cases hb
    · rw [SessionClass.ofCode_eq_none (.inl (by rw [zero]; rfl))] at hc; cases hc
    · rw [SessionClass.ofCode_eq_none (.inr high)] at hc; cases hc
    · exact large
  all_goals rfl

variable {b : Fin 12} {k : SessionClass} (named : bay.toNat = b.val) (known : cls.toNat = k.code) (low : quota.toNat ≤ 1000000)
include named known low

theorem authoriseEffect_eq : authoriseEffect bay cls quota reference s = match s.authoriseRefusal b with
    | some r => refuse r s
    | none => (s.authorised b k quota.toNat reference, some (.done s.nextSession 0)) := by
  rw [authoriseEffect, bayOf_eq_some named, known, SessionClass.ofCode_code]
  exact if_neg (Nat.not_lt.mpr low)

theorem authorise_refuses {r : Reason} (refused : s.authoriseRefusal b = some r) :
    s.refuses (.authorise bay cls quota reference) r := by
  refine answers_of_effect (authoriseEffect bay cls quota reference) rfl ?_
  rw [authoriseEffect_eq named known low, refused]
  rfl

theorem authorise_opens (allowed : s.authoriseRefusal b = none) : s.answers (.authorise bay cls quota reference)
    (s.authorised b k quota.toNat reference) (.done s.nextSession 0) := by
  refine answers_of_effect (authoriseEffect bay cls quota reference) rfl ?_
  rw [authoriseEffect_eq named known low, allowed]

end

theorem canReserve_iff (r : ReceiptWriter) : r.canReserve = true ↔
    0 < r.geometry.slots - r.reserved - r.uncollected ∧ r.lastIssued + r.reserved ≠ wordMax := by
  rw [Nat.pos_iff_ne_zero, ReceiptWriter.canReserve, ReceiptWriter.freeCount, Bool.and_eq_true, bne_iff_ne, bne_iff_ne]

section
variable {s : State} {b : Fin 12}

/-- The checks of R29 one by one. -/
theorem authoriseRefusal_held (held : s.el.hold = true) : s.authoriseRefusal b = some .held := if_pos held

theorem authoriseRefusal_maintained (free : s.el.hold = false) (maintained : (s.bay b).maintenance ≠ none) :
    s.authoriseRefusal b = some .wrongState := by
  rw [State.authoriseRefusal, if_neg (by rw [free]; decide), if_pos (Option.isSome_iff_ne_none.mpr maintained)]

variable (free : s.el.hold = false) (unmaintained : (s.bay b).maintenance = none)
include free unmaintained

theorem authoriseRefusal_vacant (vacant : (s.bay b).state = .vacant) : s.authoriseRefusal b = some .notPlugged := by
  rw [State.authoriseRefusal, if_neg (by rw [free]; decide), if_neg (by rw [unmaintained]; decide), if_pos vacant]

theorem authoriseRefusal_state (occupied : (s.bay b).state ≠ .vacant) (used : (s.bay b).state ≠ .plugged ∧ (s.bay b).state ≠ .ended) :
    s.authoriseRefusal b = some .wrongState := by
  rw [State.authoriseRefusal, if_neg (by rw [free]; decide), if_neg (by rw [unmaintained]; decide), if_neg occupied, if_pos used]

theorem authoriseRefusal_slot (ready : (s.bay b).state = .plugged ∨ (s.bay b).state = .ended) :
    s.authoriseRefusal b = if !s.rw.canReserve then some .noSlot else none := by
  have occupied : (s.bay b).state ≠ .vacant := by rcases ready with h | h <;> rw [h] <;> decide
  rw [State.authoriseRefusal, if_neg (by rw [free]; decide), if_neg (by rw [unmaintained]; decide), if_neg occupied,
    if_neg (Classical.not_and_iff_not_or_not.mpr (ready.imp not_not_intro not_not_intro))]

end

/-- The mark is disarmed where the free count has fallen to it (R137). -/
theorem rw_judgeFall (s : State) : s.judgeFall.rw = { s.rw with
    armed := s.rw.armed && decide (s.rw.geometry.lowWater < s.rw.freeCount) } := by
  unfold State.judgeFall
  split
  · next falls =>
    obtain ⟨-, reached⟩ := Bool.and_eq_true_iff.mp falls
    rw [rw_fire, decide_eq_false (Nat.not_lt.mpr (of_decide_eq_true reached)), Bool.and_false]
  · next stays =>
    rw [Bool.and_eq_true, decide_eq_true_iff, not_and, Nat.not_le] at stays
    have same : (s.rw.armed && decide (s.rw.geometry.lowWater < s.rw.freeCount)) = s.rw.armed := by
      cases armed : s.rw.armed
      · rfl
      · rw [decide_eq_true (stays armed)]; rfl
    rw [same]

/-- A reservation takes one slot, and the mark goes where the free count falls to it (R120, R137). -/
theorem rw_reserve (s : State) : s.reserve.rw = { s.rw with
    reserved := s.rw.reserved + 1
    armed := s.rw.armed && decide (s.rw.geometry.lowWater < s.rw.geometry.slots - s.rw.reserved - s.rw.uncollected - 1) } := by
  have fall : s.rw.geometry.slots - (s.rw.reserved + 1) - s.rw.uncollected = s.rw.geometry.slots - s.rw.reserved - s.rw.uncollected - 1 := by
    omega
  rw [State.reserve, rw_judgeFall]
  simp only [ReceiptWriter.freeCount, fall]

/-- The bay when AUTHORISE opens its session, the feedback watch apart (R30). -/
theorem open_eq (x : Bay) (n : Session) : x.open n = { x with
    session := n, lastSession := some n.number, roundOverQuota := 0
    state := if x.ready then .paused else .authorised, drive := x.ready, allowance := 0, releaseTimer := none
    idleTimer := if x.ready = true ∨ x.config.idleTimeout = 0 then none else some (1000 * x.config.idleTimeout) } := by
  unfold Bay.open
  cases ready : x.ready
  · simp [Bay.toAuthorised, BayConfig.idleStart]
  · simp [Bay.toPaused]

theorem bay_authorised (s : State) (b : Fin 12) (c : SessionClass) (quota : Nat) (reference : BitVec 128) : ∃ timer found,
    (s.authorised b c quota reference).bay b = { (s.bay b).open (s.newSession c quota reference) with
      events := ((s.bay b).open (s.newSession c quota reference)).events ||| EventFlag.authorised.bit
      feedbackTimer := timer, feedbackFound := found } := by
  have same : ({ s.reserve with nextSession := sessionAfter s.nextSession } : State).bay b = s.bay b := bay_reserve s b
  unfold State.authorised
  dsimp only
  rw [bay_watchFeedback_self, bay_raise_self, bay_onBay_self, same]
  exact watch_eq _ _

theorem otherBaysSame_authorised (s : State) (b : Fin 12) (c : SessionClass) (quota : Nat) (reference : BitVec 128) :
    State.otherBaysSame b s (s.authorised b c quota reference) := by
  have reserved : State.otherBaysSame b s { s.reserve with nextSession := sessionAfter s.nextSession } :=
    otherBaysSame_trans (otherBaysSame_of_frame b (reserve_frame s) (by decide) (by decide)) fun _ _ => ⟨rfl, rfl⟩
  exact otherBaysSame_trans (otherBaysSame_trans (otherBaysSame_trans reserved (otherBaysSame_onBay _ b _)) (otherBaysSame_raise _ b _))
    (otherBaysSame_watchFeedback _ b)

/-- Settles O30. -/
theorem authoriseOpensASession : Obligations.AuthoriseOpensASession := by
  intro s bay cls quota reference c
  refine ⟨authorise_badArgument, fun b k named known low => ?_⟩
  intro x freeCount
  refine ⟨fun held => authorise_refuses named known low (authoriseRefusal_held held),
    fun free maintained => authorise_refuses named known low (authoriseRefusal_maintained free maintained),
    fun free unmaintained vacant => authorise_refuses named known low (authoriseRefusal_vacant free unmaintained vacant),
    fun free unmaintained occupied plugged ended =>
      authorise_refuses named known low (authoriseRefusal_state free unmaintained occupied ⟨plugged, ended⟩),
    fun free unmaintained ready => ?_⟩
  have slot := authoriseRefusal_slot free unmaintained ready
  refine ⟨fun full => ?_, fun left unexhausted => ?_⟩
  · refine authorise_refuses named known low (slot.trans (if_pos ?_))
    rw [Bool.not_eq_true', ← Bool.not_eq_true, canReserve_iff]
    rintro ⟨left, unexhausted⟩
    rcases full with none | exhausted
    · exact absurd none (Nat.pos_iff_ne_zero.mp left)
    · exact unexhausted exhausted
  · have can := (canReserve_iff s.rw).mpr ⟨left, unexhausted⟩
    have allowed : s.authoriseRefusal b = none := slot.trans (if_neg (by rw [can]; decide))
    obtain ⟨timer, found, bayAfter⟩ := bay_authorised s b k quota.toNat reference
    rw [open_eq] at bayAfter
    refine ⟨_, authorise_opens named known low allowed, ?_⟩
    intro y
    have bayAfter : y = _ := bayAfter
    rw [bayAfter]
    refine ⟨rfl, rfl, rfl, rfl, rfl, rfl, rfl, rfl, ?_, ?_, authorised_frame ..,
      otherBaysSame_authorised s b k quota.toNat reference⟩
    · rw [State.authorised, nextSession_watchFeedback, nextSession_raise]
      rfl
    · rw [State.authorised, rw_watchFeedback, rw_raise]
      exact rw_reserve s

/-! ## Commands that name a session (R35, R36, R37, R41) -/

theorem sessionCommand_badArgument {s : State} {bay : Byte} (high : 11 < bay.toNat) (session : Word) (act : Fin 12 → State × Option Reply) :
    sessionCommand bay session act s = refuse .badArgument s := by
  rw [sessionCommand, bayOf_eq_none high]

section
variable {s : State} {bay : Byte} {session : Word} {b : Fin 12} (named : bay.toNat = b.val)
include named

theorem sessionCommand_stale (stale : (s.bay b).lastSession ≠ some session) (act : Fin 12 → State × Option Reply) :
    sessionCommand bay session act s = refuse .staleSession s := by
  rw [sessionCommand, bayOf_eq_some named]
  exact if_pos stale

theorem sessionCommand_late (same : (s.bay b).lastSession = some session) (late : (s.bay b).state.isActive = false)
    (act : Fin 12 → State × Option Reply) :
    sessionCommand bay session act s = (s, some (.refused .tooLate (field (stopCode (s.bay b).session.stopCause)))) := by
  rw [sessionCommand, bayOf_eq_some named]
  exact (if_neg (not_not_intro same)).trans (if_neg (by rw [late]; decide))

end

/-- A command that names a session has an effect that makes the shared checks first. -/
theorem effect_of_named {bay : Byte} {session amount : Word} {c : Instr}
    (named : c ∈ [Instr.stop bay session, .releaseConfirm bay session, .releaseCancel bay session] ++
      (if amount = 0 then [] else [.extendQuota bay session amount])) (s : State) :
    ∃ (effect : State → State × Option Reply) (act : Fin 12 → State × Option Reply),
      exec c s = .next (s.ringCommand c effect) ∧ effect s = sessionCommand bay session act s := by
  rcases List.mem_append.mp named with plain | extend
  · rcases List.mem_cons.mp plain with rfl | later
    · exact ⟨_, _, rfl, rfl⟩
    · rcases List.mem_cons.mp later with rfl | last
      · exact ⟨_, _, rfl, rfl⟩
      · obtain rfl := List.mem_singleton.mp last
        exact ⟨_, _, rfl, rfl⟩
  · split at extend
    · cases extend
    · next some =>
      obtain rfl := List.mem_singleton.mp extend
      exact ⟨_, _, rfl, if_neg some⟩

/-- Settles O31. -/
theorem sessionCommandsAreCheckedAndAct : Obligations.SessionCommandsAreCheckedAndAct := by
  intro s bay session amount named
  have shared {t : State} {r : Reply} (eq : ∀ act, sessionCommand bay session act s = (t, some r)) (c : Instr) (mem : c ∈ named) :
      s.answers c t r := by
    obtain ⟨effect, act, row, same⟩ := effect_of_named mem s
    exact answers_of_effect effect row (same.trans (eq act))
  refine ⟨fun none => answers_of_effect (extendQuotaEffect bay session amount) rfl (if_pos none),
    fun high => shared (sessionCommand_badArgument high session), fun b named => ?_⟩
  intro x n
  refine ⟨fun stale => shared (sessionCommand_stale named stale), fun same late => shared (sessionCommand_late named same late),
    fun same active => ?_⟩
  have acts (act : Fin 12 → State × Option Reply) : sessionCommand bay session act s = act b := sessionCommand_acts named same active act
  have extended (some : amount ≠ 0) : extendQuotaEffect bay session amount s = s.extendQuota b amount.toNat := (if_neg some).trans (acts _)
  refine ⟨answers_of_effect (stopEffect bay session) rfl (acts _), fun some unlimited => ?_, fun some limited beyond => ?_,
    fun some limited within => ?_, fun other => ?_, fun pending => ?_⟩
  · exact answers_of_effect (extendQuotaEffect bay session amount) rfl ((extended some).trans (if_pos unlimited))
  · exact answers_of_effect (extendQuotaEffect bay session amount) rfl
      ((extended some).trans ((if_neg limited).trans (if_pos beyond)))
  · exact answers_of_effect (extendQuotaEffect bay session amount) rfl
      ((extended some).trans ((if_neg limited).trans (if_neg (Nat.not_lt.mpr within))))
  · exact answers_of_effect (releaseCancelEffect bay session) rfl ((acts _).trans (if_neg other))
  · refine answers_of_effect (releaseCancelEffect bay session) rfl ((acts _).trans ((if_pos pending).trans ?_))
    have cancelled : (if (s.bay b).ready then (s.bay b).toPaused else (s.bay b).toAuthorised) = { s.bay b with
        state := if (s.bay b).ready then .paused else .authorised, drive := (s.bay b).ready, allowance := 0, releaseTimer := none
        idleTimer := if (s.bay b).ready = true ∨ (s.bay b).config.idleTimeout = 0 then none
          else some (1000 * (s.bay b).config.idleTimeout) } := by
      cases ready : (s.bay b).ready <;> simp [Bay.toPaused, Bay.toAuthorised, BayConfig.idleStart, ready]
    exact congrArg (fun t : State => finish (t.watchFeedback b)) (onBay_congr cancelled)

/-! ## CLEAR_BAY and SET_BAY (R24, R25, R52) -/

theorem capInRange_iff (cap : Nat) : capInRange cap = true ↔ cap ≤ 44000 ∧ cap % 100 = 0 := by
  rw [capInRange, Bool.or_eq_true, beq_iff_eq, inRange100_iff]
  omega

theorem bayConfig_inRanges_iff (c : BayConfig) : c.inRanges = true ↔
    1400 ≤ c.pmin ∧ c.pmin ≤ 11000 ∧ c.pmin % 100 = 0 ∧ c.pmin ≤ c.pmax ∧ c.pmax ≤ 22000 ∧ c.pmax % 100 = 0 ∧
    1 ≤ c.stopDelay ∧ c.stopDelay ≤ 10 ∧ 2 ≤ c.releaseWindow ∧ c.releaseWindow ≤ 60 ∧
    (c.idleTimeout = 0 ∨ 60 ≤ c.idleTimeout ∧ c.idleTimeout ≤ 3600) := by
  simp only [BayConfig.inRanges, Bool.and_eq_true, inRange100_iff, inRange, Bool.or_eq_true, decide_eq_true_eq, beq_iff_eq,
    and_assoc]

/-- The values of SET_BAY are refused outside the ranges of R24 (R25). -/
theorem setBayBad_eq_false_iff (s : State) (b : Fin 12) (c : BayConfig) (cap pairWord : Word) :
    s.setBayBad b c cap pairWord = false ↔ c.inRanges = true ∧
      (pairWord.getLsbD 31 = true → capInRange cap.toNat = true ∧ pairWord.toNat % 16 / 2 = b.val / 2) ∧
      ((s.pairAfter b cap pairWord).cap = 0 ∨ max c.pmin (s.bay (partnerOf b)).config.pmin ≤ (s.pairAfter b cap pairWord).cap) := by
  unfold State.setBayBad
  simp only [Bool.or_eq_false_iff, Bool.not_eq_false', Bool.and_eq_false_iff, pairPresent, pairMember, pairOf, bne_eq_false_iff_eq,
    Bool.or_eq_true, beq_iff_eq, decide_eq_true_eq, and_assoc]
  refine and_congr_right fun _ => and_congr_left fun _ => ?_
  cases pairWord.getLsbD 31 <;> simp

theorem setBayOpen_iff (s : State) (b : Fin 12) (pairWord : Word) : s.setBayOpen b pairWord = true ↔
    (s.bay b).state.isOpen = true ∨ pairWord.getLsbD 31 = true ∧ (s.bay (partnerOf b)).state.isOpen = true := by
  simp [State.setBayOpen, pairPresent]

theorem pairAfter_cap (s : State) (b : Fin 12) (cap pairWord : Word) : (s.pairAfter b cap pairWord).cap =
    if pairWord.getLsbD 31 then cap.toNat else (s.pair (pairOf b)).cap := by
  unfold State.pairAfter pairPresent
  split <;> rfl

section
variable {s : State} {bay : Byte} {b : Fin 12} (named : bay.toNat = b.val)
include named

theorem clearBayEffect_eq : clearBayEffect bay s =
    if (s.bay b).state ≠ .faulted ∨ (s.bay b).feedback then refuse .wrongState s
    else finish ((s.onBay b fun x => { x with state := if x.plug = some true then .plugged else .vacant }).watchFeedback b) := by
  rw [clearBayEffect, bayOf_eq_some named]

theorem setBayEffect_eq (pmin pmax stopDelay releaseWindow idleTimeout cap pairWord : Word) :
    let c : BayConfig := { pmin := pmin.toNat, pmax := pmax.toNat, stopDelay := stopDelay.toNat,
                           releaseWindow := releaseWindow.toNat, idleTimeout := idleTimeout.toNat }
    setBayEffect bay pmin pmax stopDelay releaseWindow idleTimeout cap pairWord s =
      if s.setBayBad b c cap pairWord then refuse .badArgument s
      else if s.setBayOpen b pairWord then refuse .wrongState s
      else finish ((s.onBay b fun x => { x with config := c }).setPair (pairOf b) (s.pairAfter b cap pairWord)) := by
  rw [setBayEffect, bayOf_eq_some named]

end

/-- Settles O35. -/
theorem clearBayAndSetBay : Obligations.ClearBayAndSetBay := by
  intro s bay pmin pmax stopDelay releaseWindow idleTimeout cap pairWord c
  let effect := setBayEffect bay pmin pmax stopDelay releaseWindow idleTimeout cap pairWord
  refine ⟨fun high => ⟨answers_of_effect (clearBayEffect bay) rfl ?_, answers_of_effect effect rfl ?_⟩, fun b named => ?_⟩
  · rw [clearBayEffect, bayOf_eq_none high]
    rfl
  · simp only [effect, setBayEffect, bayOf_eq_none high]
    rfl
  · intro x present member fp legal inUse
    have clear := clearBayEffect_eq named (s := s)
    have set : effect s = _ := setBayEffect_eq named pmin pmax stopDelay releaseWindow idleTimeout cap pairWord (s := s)
    have legalIff : s.setBayBad b ⟨pmin.toNat, pmax.toNat, stopDelay.toNat, releaseWindow.toNat, idleTimeout.toNat⟩ cap pairWord = false ↔
        legal := by
      rw [setBayBad_eq_false_iff, bayConfig_inRanges_iff, pairAfter_cap, capInRange_iff]
      have idle : idleTimeout.toNat = 0 ↔ idleTimeout = 0 := by
        rw [← BitVec.toNat_inj]
        rfl
      dsimp only
      rw [idle]
      simp only [legal, present, member, fp, and_assoc]
    have inUseIff : s.setBayOpen b pairWord = true ↔ inUse := setBayOpen_iff s b pairWord
    refine ⟨fun bad => answers_of_effect (clearBayEffect bay) rfl (clear.trans (if_pos bad)), fun faulted opened =>
      answers_of_effect (clearBayEffect bay) rfl (clear.trans (if_neg ?_)), fun illegal => answers_of_effect effect rfl
      (set.trans (if_pos ?_)), fun ok busy => answers_of_effect effect rfl (set.trans ((if_neg ?_).trans (if_pos (inUseIff.mpr busy)))),
      fun ok idle => answers_of_effect effect rfl (set.trans ((if_neg ?_).trans (if_neg (mt inUseIff.mp idle))))⟩
    · rintro (other | closed)
      · exact other faulted
      · rw [show (s.bay b).feedback = false from opened] at closed
        cases closed
    · rw [← Bool.not_eq_false]
      exact mt legalIff.mp illegal
    · rw [Bool.not_eq_true]
      exact legalIff.mpr ok
    · rw [Bool.not_eq_true]
      exact legalIff.mpr ok

end Sys2Proof.Machine
end

section
/-! The Error Log's commands, and the causes that notices take. -/

namespace Sys2Proof.Machine

/-! ## The Error Log's commands (R174, R175) -/

theorem kindSetOf_eq_some {a : Word} (low : a.toNat < 4096) : kindSetOf a.toNat = some (a.setWidth 12) := by
  rw [kindSetOf, if_pos low]
  exact congrArg some (BitVec.eq_of_toNat_eq (by simp))

theorem kindSetOf_eq_none {a : Word} (high : 4096 ≤ a.toNat) : kindSetOf a.toNat = none := if_neg (Nat.not_lt.mpr high)

theorem withoutEpoch_eq (set : BitVec 12) : withoutEpoch set = set &&& 0xBFF := rfl

section
variable {s : State} {a b : Word}

theorem setErrorPolicyEffect_eq (low : a.toNat < 4096) (lowHolds : b.toNat < 4096) : setErrorPolicyEffect a b s =
    let el : ErrorLog := { s.el with masked := a.setWidth 12 &&& 0xBFF, holds := b.setWidth 12 ||| 0x400 }
    let t := if el.mustHold && !el.hold then { s with el := { el with hold := true } }.fire .holdChanged else { s with el := el }
    (t, some (.done (field (bit t.el.hold)) 0)) := by
  rw [setErrorPolicyEffect, kindSetOf_eq_some low, kindSetOf_eq_some lowHolds]
  rfl

theorem setErrorPolicy_refuses (bad : 4096 ≤ a.toNat ∨ 4096 ≤ b.toNat) : s.refuses (.setErrorPolicy a b) .badArgument := by
  refine answers_of_effect (setErrorPolicyEffect a b) rfl ?_
  unfold setErrorPolicyEffect
  split
  · next ha hb =>
    rcases bad with high | high
    · rw [kindSetOf_eq_none high] at ha; cases ha
    · rw [kindSetOf_eq_none high] at hb; cases hb
  all_goals rfl

end

/-- Settles O54. -/
theorem errorCommands : Obligations.ErrorCommands := by
  intro s a b set holds status el
  refine ⟨fun high => answers_of_effect (clearErrorsEffect a b) rfl ?_, fun low => answers_of_effect (clearErrorsEffect a b) rfl ?_,
    fun none => answers_of_effect ackErrorEffect rfl ?_, fun r rest records => answers_of_effect ackErrorEffect rfl ?_,
    setErrorPolicy_refuses, fun low lowHolds => ?_, ?_⟩
  · rw [clearErrorsEffect, kindSetOf_eq_none high]
    rfl
  · rw [clearErrorsEffect, kindSetOf_eq_some low]
    rfl
  · rw [ackErrorEffect, none]
    rfl
  · rw [ackErrorEffect, records]
  · have effect := setErrorPolicyEffect_eq (s := s) low lowHolds
    have kept (same : ¬ (el.mustHold && !el.hold) = true) {h : Bool} (hold : s.el.hold = h) :
        setErrorPolicyEffect a b s = ({ s with el := el }, some (.done (field (bit h)) 0)) :=
      effect.trans ((congrArg (fun u : State => (u, some (Reply.done (field (bit u.el.hold)) 0))) (if_neg same)).trans
        (congrArg (fun h => (({ s with el := el } : State), some (Reply.done (field (bit h)) 0))) hold))
    refine ⟨fun must unheld => answers_of_effect (setErrorPolicyEffect a b) rfl (effect.trans ?_),
      fun free unheld => answers_of_effect (setErrorPolicyEffect a b) rfl (kept ?_ unheld),
      fun held => answers_of_effect (setErrorPolicyEffect a b) rfl (kept ?_ held)⟩
    · dsimp only
      rw [if_pos (by rw [show _ = true from must, show s.el.hold = false from unheld]; rfl), el_fire]
      rfl
    · rw [free]
      exact Bool.false_ne_true
    · rw [show el.hold = true from held, Bool.not_true, Bool.and_false]
      exact Bool.false_ne_true
  · exact el.mustHold_iff

/-! ## A cause taken (R164, R167, R169) -/

section
variable {s : State} {c : Cause}

theorem fire_unheard (unheard : ¬ (s.nu.enable = true ∧ s.pu.link = .attached)) : s.fire c = s := by
  refine if_pos ?_
  rw [Bool.or_eq_true, Bool.not_eq_true', bne_iff_ne, ← Bool.not_eq_true]
  exact Classical.not_and_iff_not_or_not.mp unheard

variable (heard : s.nu.enable = true ∧ s.pu.link = .attached)
include heard

theorem fire_heard : s.fire c =
    if s.deliverable s.nu.causeMap[c.number] then
      (if (s.vector s.nu.causeMap[c.number]).queued then s else s.queueNotice s.nu.causeMap[c.number])
    else s.setVector s.nu.causeMap[c.number] { s.vector s.nu.causeMap[c.number] with pending := true } := by
  refine if_neg ?_
  rw [Bool.or_eq_true, Bool.not_eq_true', bne_iff_ne, ← Bool.not_eq_true]
  exact fun quiet => Classical.not_and_iff_not_or_not.mpr quiet heard

theorem deliverable_iff_of_heard (v : Fin 8) : s.deliverable v = true ↔
    s.nu.allMask = false ∧ (s.vector v).masked = false ∧ (s.vector v).usable = true := by
  simp [State.deliverable, heard.1, and_assoc]

end

/-! ## A recording (R170, R171, R172, R173) -/

section
variable {el : ErrorLog} {r : ErrorRecord}

theorem take_masked (masked : inKindSet el.masked r.recording.kind = true) :
    el.take r = { el with status := el.status ||| r.recording.kind.bit } := if_pos masked

variable (unmasked : ¬ inKindSet el.masked r.recording.kind = true)
include unmasked

theorem take_unmasked : el.take r =
    let listed := ErrorLog.append { el with status := el.status ||| r.recording.kind.bit } r
    { listed with first := listed.first.or (some r.recording.kind), hold := listed.hold || inKindSet el.holds r.recording.kind } :=
  if_neg unmasked

theorem records_take : (el.records.length < 4 → (el.take r).records = el.records ++ [r] ∧ (el.take r).overflow = el.overflow) ∧
    (4 ≤ el.records.length → (el.take r).records = el.records ∧ (el.take r).overflow = true) := by
  rw [take_unmasked unmasked]
  unfold ErrorLog.append
  refine ⟨fun room => ?_, fun full => ?_⟩
  · dsimp only
    rw [if_pos room]
    exact ⟨rfl, rfl⟩
  · dsimp only
    rw [if_neg (Nat.not_lt.mpr full)]
    exact ⟨rfl, rfl⟩

theorem first_take : (el.take r).first = (match el.first with | some k => some k | none => some r.recording.kind) ∧
    (el.take r).hold = (el.hold || inKindSet el.holds r.recording.kind) := by
  rw [take_unmasked unmasked]
  obtain ⟨records, overflow, listed⟩ := append_eq { el with status := el.status ||| r.recording.kind.bit } r
  rw [listed]
  refine ⟨?_, rfl⟩
  dsimp only
  cases el.first <;> rfl

end

end Sys2Proof.Machine
end

section
/-! The shadows of the notice vectors: the words taken lane by lane, the addresses judged, and the faults recorded. -/

namespace Sys2Proof.Machine

/-! ## Lanes (R166) -/

/-- A bit of a word is a bit of one of its bytes. -/
theorem getLsbD_eq_byte (w : Word) (k : Nat) : w.getLsbD k = (w.toNat / 256 ^ (k / 8) % 256).testBit (k % 8) := by
  have power : 256 ^ (k / 8) = 2 ^ (8 * (k / 8)) := by rw [Nat.pow_mul]
  rw [power, show (256 : Nat) = 2 ^ 8 from rfl, Nat.testBit_mod_two_pow, Nat.testBit_div_two_pow]
  have low : k % 8 < 8 := Nat.mod_lt _ (by decide)
  rw [decide_eq_true low, Bool.true_and, BitVec.getLsbD]
  congr 1
  omega

theorem toNat_byteFields {a b c d : Nat} (ha : a < 256) (hb : b < 256) (hc : c < 256) (hd : d < 256) :
    (byteFields a b c d).toNat = a + 256 * b + 65536 * c + 16777216 * d := by
  simp only [byteFields, BitVec.toNat_ofNat]
  omega

/-- A byte of a merged word is the written one where its lane is written, and otherwise the old one. -/
theorem byte_mergeLanes (old : Word) (w : WriteWord) {i : Nat} (h : i < 4) : (mergeLanes old w).toNat / 256 ^ i % 256 =
    if w.lanes.getLsbD i then w.data.toNat / 256 ^ i % 256 else old.toNat / 256 ^ i % 256 := by
  have oldHigh := old.isLt
  have dataHigh := w.data.isLt
  have byte (c : Bool) {x y : Nat} (hx : x < 256) (hy : y < 256) : (if c then x else y) < 256 := by split <;> assumption
  have zero := byte (w.lanes.getLsbD 0) (x := w.data.toNat % 256) (y := old.toNat % 256) (by omega) (by omega)
  have one := byte (w.lanes.getLsbD 1) (x := w.data.toNat / 256 % 256) (y := old.toNat / 256 % 256) (by omega) (by omega)
  have two := byte (w.lanes.getLsbD 2) (x := w.data.toNat / 65536 % 256) (y := old.toNat / 65536 % 256) (by omega) (by omega)
  have three := byte (w.lanes.getLsbD 3) (x := w.data.toNat / 16777216) (y := old.toNat / 16777216) (by omega) (by omega)
  rw [mergeLanes, toNat_byteFields zero one two three]
  have last (x : Nat) (hx : x < 4294967296) : x / 16777216 % 256 = x / 16777216 := Nat.mod_eq_of_lt (by omega)
  obtain rfl | rfl | rfl | rfl : i = 0 ∨ i = 1 ∨ i = 2 ∨ i = 3 := by omega
  · simp only [Nat.pow_zero, Nat.div_one]
    omega
  · simp only [Nat.pow_one]
    omega
  · simp only [show 256 ^ 2 = 65536 from rfl]
    omega
  · simp only [show 256 ^ 3 = 16777216 from rfl, last _ dataHigh, last _ oldHigh]
    omega

theorem getLsbD_mergeLanes (old : Word) (w : WriteWord) {k : Nat} (h : k < 32) :
    (mergeLanes old w).getLsbD k = if w.lanes.getLsbD (k / 8) then w.data.getLsbD k else old.getLsbD k := by
  rw [getLsbD_eq_byte, getLsbD_eq_byte w.data, getLsbD_eq_byte old, byte_mergeLanes old w (by omega)]
  split <;> rfl

/-! ## Usable addresses (R166) -/

theorem addrUsable_iff (s : State) (a : Word) :
    let m := a.toNat % 0x4000000 / 4 * 4
    s.addrUsable a = true ↔ m < 0x3FFF000 ∧
      (∀ b, s.rw.geometry.base = some b → m < b ∨ b + 64 * s.rw.geometry.slots ≤ m) ∧
      (∀ b, s.sw.base = some b → m < b ∨ b + 13 * s.sw.stride ≤ m) := by
  intro m
  have anchor : inAnchor m = false ↔ m < 0x3FFF000 := by
    have inSpace : m < 0x4000000 := by omega
    rw [inAnchor, ← Bool.not_eq_true, Bool.and_eq_true, decide_eq_true_iff, decide_eq_true_iff]
    change ¬ (0x3FFF000 ≤ m ∧ m < 0x3FFF000 + 0x1000) ↔ _
    omega
  have receipts : s.rw.geometry.holds m = false ↔ ∀ b, s.rw.geometry.base = some b → m < b ∨ b + 64 * s.rw.geometry.slots ≤ m := by
    unfold ReceiptGeometry.holds ReceiptGeometry.len
    cases s.rw.geometry.base with
    | none => simp
    | some b =>
      simp only [← Bool.not_eq_true, Bool.and_eq_true, decide_eq_true_iff, Option.some.injEq, forall_eq']
      omega
  have snapshots : s.sw.holds m = false ↔ ∀ b, s.sw.base = some b → m < b ∨ b + 13 * s.sw.stride ≤ m := by
    unfold SnapshotWriter.holds SnapshotWriter.len
    cases s.sw.base with
    | none => simp
    | some b =>
      simp only [← Bool.not_eq_true, Bool.and_eq_true, decide_eq_true_iff, Option.some.injEq, forall_eq']
      omega
  rw [← anchor, ← receipts, ← snapshots]
  unfold State.addrUsable
  simp only [Bool.and_eq_true, Bool.not_eq_true', and_assoc]
  rfl

/-! ## Words of a transaction by address -/

theorem wordOffset_succ (addr i : Nat) : wordOffset addr (i + 1) = wordOffset (addr + 4) i := by
  unfold wordOffset
  rw [show wordAddr addr (i + 1) = wordAddr (addr + 4) i from by unfold wordAddr; omega]

section
variable {addr : Nat} {w : WriteWord} {words : List WriteWord} {a : Nat}

theorem wordFor_cons_self : wordFor addr (w :: words) addr = some w := by
  simp [wordFor]

theorem wordFor_of_lt (before : a < addr) : wordFor addr words a = none := if_neg fun h => absurd h.1 (Nat.not_le.mpr before)

theorem wordFor_cons_of_ne (other : a ≠ addr) (aligned : addr % 4 = 0) (alignedPlace : a % 4 = 0) :
    wordFor addr (w :: words) a = wordFor (addr + 4) words a := by
  unfold wordFor
  by_cases after : addr ≤ a
  · obtain ⟨d, rfl⟩ : ∃ d, a = addr + 4 + 4 * d := ⟨(a - addr - 4) / 4, by omega⟩
    rw [if_pos (by omega), if_pos (by omega), show (addr + 4 + 4 * d - addr) / 4 = d + 1 by omega,
      show (addr + 4 + 4 * d - (addr + 4)) / 4 = d by omega, List.getElem?_cons_succ]
  · rw [if_neg (by omega), if_neg (by omega)]

theorem atOffsets_cons : atOffsets addr (w :: words) = (wordOffset addr 0, w) :: atOffsets (addr + 4) words := by
  unfold atOffsets
  rw [List.zipIdx_cons, List.map_cons, Nat.zero_add, List.zipIdx_succ, List.map_map]
  exact congrArg (List.cons _) (List.map_congr_left fun p _ => congrArg (·, p.1) (wordOffset_succ addr p.2))

end

theorem offset_aligned {addr : Nat} (aligned : addr % 4 = 0) : wordOffset addr 0 % 4 = 0 := by
  unfold wordOffset wordAddr Config.anchorBase
  omega

theorem offset_ne {addr a : Nat} (inPage : 0x3FFF000 < a) (other : a ≠ addr) : wordOffset addr 0 ≠ wordOffset a 0 := by
  unfold wordOffset wordAddr Config.anchorBase
  omega

/-- A fold over the words of a transaction changes what is seen at one place by the word for that place, if there is one. -/
theorem view_takeWatchedWords {β : Type} {view : State → β} {act : β → WriteWord → β} {a : Nat} (inPage : 0x3FFF000 < a) (alignedPlace : a % 4 = 0)
    (here : ∀ s w, view (s.takeWatchedWord (wordOffset a 0) w) = act (view s) w)
    (other : ∀ s o w, o % 4 = 0 → o ≠ wordOffset a 0 → view (s.takeWatchedWord o w) = view s)
    (words : List WriteWord) {addr : Nat} (aligned : addr % 4 = 0) (s : State) :
    view ((atOffsets addr words).foldl (fun u w => u.takeWatchedWord w.1 w.2) s) =
      match wordFor addr words a with
      | some w => act (view s) w
      | none => view s := by
  induction words generalizing addr s with
  | nil => simp [atOffsets, wordFor]
  | cons w words ih =>
    rw [atOffsets_cons, List.foldl_cons, ih (by omega)]
    dsimp only
    by_cases same : a = addr
    · subst same
      rw [wordFor_of_lt (by omega), wordFor_cons_self]
      exact here s w
    · rw [wordFor_cons_of_ne same aligned alignedPlace, other s _ w (offset_aligned aligned) (offset_ne inPage same)]

/-! ## One word taken into the shadows -/

theorem vectorOf_eq_some_iff (o : Nat) (v : Fin 8) : vectorOf o = some v ↔ 256 + 16 * v.val ≤ o ∧ o < 256 + 16 * v.val + 16 := by
  have bound := v.isLt
  unfold vectorOf Config.vectorOffset
  split
  · next inTable =>
    rw [Option.some.injEq, Fin.ext_iff]
    change (o - 256) / 16 % 8 = v.val ↔ _
    omega
  · next out =>
    refine iff_of_false nofun ?_
    omega

/-- A vector's shadow takes a word of its own entry (R166). -/
theorem vector_takeWatchedWord (s : State) (o : Nat) (w : WriteWord) (v : Fin 8) : (s.takeWatchedWord o w).vector v =
    if 256 + 16 * v.val ≤ o ∧ o < 256 + 16 * v.val + 16 then (s.vector v).takeWord (o % 16 / 4) w else s.vector v := by
  unfold State.takeWatchedWord
  split
  · next u entry =>
    rw [vector_setVector]
    by_cases same : v = u
    · subst same
      rw [if_pos rfl, if_pos ((vectorOf_eq_some_iff o v).mp entry)]
    · rw [if_neg same, if_neg]
      intro inEntry
      rw [(vectorOf_eq_some_iff o v).mpr inEntry] at entry
      exact same (Option.some.inj entry)
  · next none =>
    have out : ¬ (256 + 16 * v.val ≤ o ∧ o < 256 + 16 * v.val + 16) := fun inEntry => by
      rw [(vectorOf_eq_some_iff o v).mpr inEntry] at none
      cases none
    rw [if_neg out]
    split
    · unfold NoticeUnit.takeControl
      split <;> rfl
    · rfl

/-- What a word of an entry does to a shadow. -/
theorem takeWord_eq (x : NoticeVector) (place : Nat) (w : WriteWord) : x.takeWord place w = { x with
    addr := if place = 0 then mergeLanes x.addr w else x.addr
    data := if place = 1 then mergeLanes x.data w else x.data
    masked := if place = 2 then (if w.lanes.getLsbD 0 then w.data.getLsbD 0 else x.masked) else x.masked } := by
  unfold NoticeVector.takeWord
  split
  · next first => subst first; rfl
  · next first =>
    split
    · next second => subst second; rfl
    · next second =>
      split
      · next third => subst third; rfl
      · rfl

/-- The offset in the anchor page of a word of a vector's entry. -/
theorem entryOffset (v : Fin 8) (j : Nat) : wordOffset (0x3FFF100 + 16 * v.val + 4 * j) 0 = 256 + 16 * v.val + 4 * j := by
  unfold wordOffset wordAddr Config.anchorBase
  omega

theorem firstOffset (v : Fin 8) : wordOffset (0x3FFF100 + 16 * v.val) 0 = 256 + 16 * v.val := by
  unfold wordOffset wordAddr Config.anchorBase
  omega

section
variable (words : List WriteWord) {addr : Nat} (aligned : addr % 4 = 0) (s : State)
include aligned

/-- The shadows once every word is taken, nothing judged. -/
theorem addr_takenWords (v : Fin 8) :
    (((atOffsets addr words).foldl (fun u w => u.takeWatchedWord w.1 w.2) s).vector v).addr =
      match wordFor addr words (0x3FFF100 + 16 * v.val) with
      | some w => mergeLanes (s.vector v).addr w
      | none => (s.vector v).addr := by
  refine view_takeWatchedWords (view := fun u : State => (u.vector v).addr) (act := mergeLanes) (by omega) (by omega)
    (fun u w => ?_) (fun u o w alignedWord other => ?_) words aligned s
  · rw [firstOffset v, vector_takeWatchedWord, if_pos (by omega), takeWord_eq]
    exact if_pos (by omega)
  · rw [firstOffset v] at other
    rw [vector_takeWatchedWord]
    split
    · rw [takeWord_eq]
      exact if_neg (by omega)
    · rfl

theorem data_takenWords (v : Fin 8) :
    (((atOffsets addr words).foldl (fun u w => u.takeWatchedWord w.1 w.2) s).vector v).data =
      match wordFor addr words (0x3FFF100 + 16 * v.val + 4) with
      | some w => mergeLanes (s.vector v).data w
      | none => (s.vector v).data := by
  refine view_takeWatchedWords (view := fun u : State => (u.vector v).data) (act := mergeLanes) (by omega) (by omega)
    (fun u w => ?_) (fun u o w alignedWord other => ?_) words aligned s
  · rw [entryOffset v 1, vector_takeWatchedWord, if_pos (by omega), takeWord_eq]
    exact if_pos (by omega)
  · rw [entryOffset v 1] at other
    rw [vector_takeWatchedWord]
    split
    · rw [takeWord_eq]
      exact if_neg (by omega)
    · rfl

theorem masked_takenWords (v : Fin 8) :
    (((atOffsets addr words).foldl (fun u w => u.takeWatchedWord w.1 w.2) s).vector v).masked =
      match wordFor addr words (0x3FFF100 + 16 * v.val + 8) with
      | some w => if w.lanes.getLsbD 0 then w.data.getLsbD 0 else (s.vector v).masked
      | none => (s.vector v).masked := by
  refine view_takeWatchedWords (view := fun u : State => (u.vector v).masked)
    (act := fun old w => if w.lanes.getLsbD 0 then w.data.getLsbD 0 else old) (by omega) (by omega)
    (fun u w => ?_) (fun u o w alignedWord other => ?_) words aligned s
  · rw [entryOffset v 2, vector_takeWatchedWord, if_pos (by omega), takeWord_eq]
    exact if_pos (by omega)
  · rw [entryOffset v 2] at other
    rw [vector_takeWatchedWord]
    split
    · rw [takeWord_eq]
      exact if_neg (by omega)
    · rfl

end

/-- What no word changes of a shadow. -/
theorem marks_takenWords (ws : List (Nat × WriteWord)) (s : State) (v : Fin 8) :
    let x := (ws.foldl (fun u w => u.takeWatchedWord w.1 w.2) s).vector v
    x.usable = (s.vector v).usable ∧ x.pending = (s.vector v).pending ∧ x.queued = (s.vector v).queued := by
  induction ws generalizing s with
  | nil => exact ⟨rfl, rfl, rfl⟩
  | cons w ws ih =>
    obtain ⟨usable, pending, queued⟩ := ih (s.takeWatchedWord w.1 w.2)
    have one : ((s.takeWatchedWord w.1 w.2).vector v).usable = (s.vector v).usable ∧
        ((s.takeWatchedWord w.1 w.2).vector v).pending = (s.vector v).pending ∧
        ((s.takeWatchedWord w.1 w.2).vector v).queued = (s.vector v).queued := by
      rw [vector_takeWatchedWord]
      split
      · rw [takeWord_eq]
        exact ⟨rfl, rfl, rfl⟩
      · exact ⟨rfl, rfl, rfl⟩
    exact ⟨usable.trans one.1, pending.trans one.2.1, queued.trans one.2.2⟩

/-! ## The control word -/

theorem vectorOf_control : vectorOf Config.controlOffset = none := by decide

theorem nu_takeWatchedWord_of_ne (s : State) {o : Nat} (other : o ≠ Config.controlOffset) (w : WriteWord) :
    (s.takeWatchedWord o w).nu.enable = s.nu.enable ∧ (s.takeWatchedWord o w).nu.allMask = s.nu.allMask := by
  unfold State.takeWatchedWord
  split
  · exact ⟨rfl, rfl⟩
  · rw [if_neg other]
    exact ⟨rfl, rfl⟩

theorem nu_takeWatchedWord_control (s : State) (w : WriteWord) :
    (s.takeWatchedWord Config.controlOffset w).nu.enable = (if w.lanes.getLsbD 0 then w.data.getLsbD 0 else s.nu.enable) ∧
    (s.takeWatchedWord Config.controlOffset w).nu.allMask = (if w.lanes.getLsbD 0 then w.data.getLsbD 1 else s.nu.allMask) := by
  unfold State.takeWatchedWord
  rw [vectorOf_control]
  dsimp only
  rw [if_pos rfl]
  unfold NoticeUnit.takeControl
  split <;> exact ⟨rfl, rfl⟩

theorem control_takenWords (words : List WriteWord) {addr : Nat} (aligned : addr % 4 = 0) (s : State) :
    let n := ((atOffsets addr words).foldl (fun u w => u.takeWatchedWord w.1 w.2) s).nu
    (n.enable = match wordFor addr words 0x3FFF04C with
      | some w => if w.lanes.getLsbD 0 then w.data.getLsbD 0 else s.nu.enable
      | none => s.nu.enable) ∧
    n.allMask = match wordFor addr words 0x3FFF04C with
      | some w => if w.lanes.getLsbD 0 then w.data.getLsbD 1 else s.nu.allMask
      | none => s.nu.allMask := by
  have place : wordOffset 0x3FFF04C 0 = Config.controlOffset := by decide
  refine ⟨view_takeWatchedWords (view := fun u : State => u.nu.enable)
      (act := fun old w => if w.lanes.getLsbD 0 then w.data.getLsbD 0 else old) (by omega) (by omega) (fun u w => ?_)
      (fun u o w _ other => ?_) words aligned s,
    view_takeWatchedWords (view := fun u : State => u.nu.allMask)
      (act := fun old w => if w.lanes.getLsbD 0 then w.data.getLsbD 1 else old) (by omega) (by omega) (fun u w => ?_)
      (fun u o w _ other => ?_) words aligned s⟩
  · rw [place]
    exact (nu_takeWatchedWord_control u w).1
  · rw [place] at other
    exact (nu_takeWatchedWord_of_ne u other w).1
  · rw [place]
    exact (nu_takeWatchedWord_control u w).2
  · rw [place] at other
    exact (nu_takeWatchedWord_of_ne u other w).2

theorem causeMap_takeWatchedWord (s : State) (o : Nat) (w : WriteWord) : (s.takeWatchedWord o w).nu.causeMap = s.nu.causeMap := by
  unfold State.takeWatchedWord
  split
  · rfl
  · split
    · unfold NoticeUnit.takeControl
      split <;> rfl
    · rfl

/-! ## The addresses judged -/

theorem addrUsable_congr {s t : State} (receipts : t.rw = s.rw) (sw : t.sw = s.sw) (a : Word) : t.addrUsable a = s.addrUsable a := by
  rw [State.addrUsable, State.addrUsable, receipts, sw]

theorem foldl_judgeVector (vs : List (Fin 8)) (s : State) (v : Fin 8) :
    (vs.foldl State.judgeVector s).vector v =
      { s.vector v with usable := if v ∈ vs then s.addrUsable (s.vector v).addr else (s.vector v).usable } := by
  induction vs generalizing s with
  | nil => simp
  | cons w vs ih =>
    have usable (a : Word) : (s.judgeVector w).addrUsable a = s.addrUsable a := rfl
    rw [List.foldl_cons, ih, usable]
    unfold State.judgeVector
    rw [vector_setVector]
    by_cases same : v = w
    · subst same
      simp
    · simp [same]

theorem nu_judgeVector (vs : List (Fin 8)) (s : State) : (vs.foldl State.judgeVector s).nu.enable = s.nu.enable ∧
    (vs.foldl State.judgeVector s).nu.allMask = s.nu.allMask ∧ (vs.foldl State.judgeVector s).nu.causeMap = s.nu.causeMap := by
  induction vs generalizing s with
  | nil => exact ⟨rfl, rfl, rfl⟩
  | cons w vs ih => exact ih (s.judgeVector w)

/-! ## The vectors whose addresses some words take -/

/-- A word of the transaction writes some lane of a vector's address. -/
def addressWritten (addr : Nat) (words : List WriteWord) (v : Fin 8) : Bool :=
  match wordFor addr words (0x3FFF100 + 16 * v.val) with
  | some w => w.lanes != 0
  | none => false

theorem addressTaken_eq_some_iff (o : Nat) (w : WriteWord) (v : Fin 8) :
    addressTaken o w = some v ↔ o = 256 + 16 * v.val ∧ w.lanes ≠ 0 := by
  unfold addressTaken
  split
  · next taken =>
    obtain ⟨aligned, lanes⟩ := taken
    rw [vectorOf_eq_some_iff]
    refine ⟨fun entry => ⟨by omega, lanes⟩, fun place => by omega⟩
  · next not =>
    refine ⟨nofun, fun h => absurd ⟨?_, h.2⟩ not⟩
    omega

theorem offset_eq_iff (addr : Nat) (v : Fin 8) : wordOffset addr 0 = 256 + 16 * v.val ↔ 0x3FFF100 + 16 * v.val = addr := by
  unfold wordOffset wordAddr Config.anchorBase
  omega

theorem filterMap_addressTaken_cons (o : Nat) (w : WriteWord) (ws : List (Nat × WriteWord)) :
    ((o, w) :: ws).filterMap (fun w => addressTaken w.1 w.2) =
      (addressTaken o w).toList ++ ws.filterMap fun w => addressTaken w.1 w.2 := by
  rw [List.filterMap_cons]
  dsimp only
  cases addressTaken o w <;> rfl

theorem takenVectors_cons (addr : Nat) (w : WriteWord) (words : List WriteWord) :
    takenVectors addr (w :: words) = (addressTaken (wordOffset addr 0) w).toList ++ takenVectors (addr + 4) words := by
  unfold takenVectors
  rw [atOffsets_cons, filterMap_addressTaken_cons]

theorem mem_takenVectors (words : List WriteWord) {addr : Nat} (aligned : addr % 4 = 0) (v : Fin 8) :
    v ∈ takenVectors addr words ↔ addressWritten addr words v = true := by
  induction words generalizing addr with
  | nil => simp [takenVectors, atOffsets, addressWritten, wordFor]
  | cons w words ih =>
    rw [takenVectors_cons, List.mem_append, ih (by omega), Option.mem_toList, addressTaken_eq_some_iff, offset_eq_iff]
    unfold addressWritten
    by_cases here : 0x3FFF100 + 16 * v.val = addr
    · rw [here, wordFor_cons_self, wordFor_of_lt (by omega)]
      simp
    · rw [wordFor_cons_of_ne here aligned (by omega)]
      simp [here]

/-- The vectors are taken in ascending order. -/
theorem takenVectors_ascending (words : List WriteWord) {addr : Nat} (aligned : addr % 4 = 0) :
    (takenVectors addr words).Pairwise (· < ·) := by
  induction words generalizing addr with
  | nil => exact .nil
  | cons w words ih =>
    rw [takenVectors_cons]
    refine List.pairwise_append.mpr ⟨?_, ih (by omega), fun u first v later => ?_⟩
    · cases addressTaken (wordOffset addr 0) w <;> simp
    · rw [Option.mem_toList, addressTaken_eq_some_iff] at first
      have written := (mem_takenVectors words (by omega) v).mp later
      have after : addr + 4 ≤ 0x3FFF100 + 16 * v.val := by
        refine Classical.byContradiction fun before => ?_
        rw [addressWritten, wordFor_of_lt (by omega)] at written
        cases written
      have place := (offset_eq_iff addr u).mp first.1
      change u.val < v.val
      omega

theorem takenVectors_eq (words : List WriteWord) {addr : Nat} (aligned : addr % 4 = 0) :
    takenVectors addr words = (List.finRange 8).filter (addressWritten addr words) := by
  have ascending := takenVectors_ascending words aligned
  have listed : ((List.finRange 8).filter (addressWritten addr words)).Pairwise (· < ·) := (List.pairwise_lt_finRange 8).filter _
  refine List.Perm.eq_of_pairwise (le := (· < ·)) (fun a b _ _ ab ba => absurd ab (Nat.lt_asymm ba)) ascending listed ?_
  refine (List.perm_ext_iff_of_nodup (ascending.imp fun h => Fin.ne_of_lt h) (listed.imp fun h => Fin.ne_of_lt h)).mpr fun v => ?_
  rw [mem_takenVectors words aligned]
  simp

/-! ## The shadows after some words (R166) -/

section
variable (words : List WriteWord) {addr : Nat} (aligned : addr % 4 = 0) (s : State)
include aligned

theorem control_takeWords :
    (s.takeWords addr words).nu.causeMap = s.nu.causeMap ∧
    ((s.takeWords addr words).nu.enable = match wordFor addr words 0x3FFF04C with
      | some w => if w.lanes.getLsbD 0 then w.data.getLsbD 0 else s.nu.enable
      | none => s.nu.enable) ∧
    (s.takeWords addr words).nu.allMask = match wordFor addr words 0x3FFF04C with
      | some w => if w.lanes.getLsbD 0 then w.data.getLsbD 1 else s.nu.allMask
      | none => s.nu.allMask := by
  obtain ⟨enable, allMask⟩ := control_takenWords words aligned s
  obtain ⟨judgedEnable, judgedMask, judgedMap⟩ := nu_judgeVector (takenVectors addr words)
    ((atOffsets addr words).foldl (fun u w => u.takeWatchedWord w.1 w.2) s)
  refine ⟨judgedMap.trans ?_, judgedEnable.trans enable, judgedMask.trans allMask⟩
  exact List.foldlRecOn (motive := fun t : State => t.nu.causeMap = s.nu.causeMap) _ _ rfl
    fun t same w _ => (causeMap_takeWatchedWord t w.1 w.2).trans same

theorem vector_takeWords (v : Fin 8) :
    let merged := fun old : Word => match wordFor addr words (0x3FFF100 + 16 * v.val) with
      | some w => mergeLanes old w
      | none => old
    (s.takeWords addr words).vector v = { s.vector v with
      addr := merged (s.vector v).addr
      data := match wordFor addr words (0x3FFF100 + 16 * v.val + 4) with
        | some w => mergeLanes (s.vector v).data w
        | none => (s.vector v).data
      masked := match wordFor addr words (0x3FFF100 + 16 * v.val + 8) with
        | some w => if w.lanes.getLsbD 0 then w.data.getLsbD 0 else (s.vector v).masked
        | none => (s.vector v).masked
      usable := if addressWritten addr words v then s.addrUsable (merged (s.vector v).addr) else (s.vector v).usable } := by
  intro merged
  have frame : State.changesOnly [.nu] s ((atOffsets addr words).foldl (fun u w => u.takeWatchedWord w.1 w.2) s) :=
    changesOnly_foldl _ (fun _ _ => takeWatchedWord_frame ..) _ _
  have usableSame := addrUsable_congr (frame.same .rw (by decide)).symm (frame.same .sw (by decide)).symm
  obtain ⟨usable, pending, queued⟩ := marks_takenWords (atOffsets addr words) s v
  unfold State.takeWords
  rw [foldl_judgeVector, usableSame, addr_takenWords words aligned]
  simp only [NoticeVector.mk.injEq]
  refine ⟨addr_takenWords words aligned s v, data_takenWords words aligned s v, masked_takenWords words aligned s v, ?_, pending, queued⟩
  rw [usable]
  simp only [mem_takenVectors words aligned]
  rfl

end

/-! ## Faults of vectors (R166, R168) -/

/-- The Notice Unit keeps each vector's address, and whether it is usable. -/
def State.sameShadows (s t : State) : Prop := ∀ v, (t.vector v).addr = (s.vector v).addr ∧ (t.vector v).usable = (s.vector v).usable

theorem sameShadows_setVector {s : State} {v : Fin 8} {x : NoticeVector} (addr : x.addr = (s.vector v).addr)
    (usable : x.usable = (s.vector v).usable) : s.sameShadows (s.setVector v x) :=
  forall_vector_setVector (Q := fun w y => y.addr = (s.vector w).addr ∧ y.usable = (s.vector w).usable) ⟨addr, usable⟩ fun _ _ => ⟨rfl, rfl⟩

theorem State.sameShadows.trans {s t u : State} (h : s.sameShadows t) (g : t.sameShadows u) : s.sameShadows u := fun v =>
  ⟨(g v).1.trans (h v).1, (g v).2.trans (h v).2⟩

theorem sameShadows_fire (s : State) (c : Cause) : s.sameShadows (s.fire c) := by
  rcases fire_cases s c with e | ⟨-, e⟩ | e
  · rw [e]
    exact fun _ => ⟨rfl, rfl⟩
  · rw [e]
    exact sameShadows_setVector (s := s.enqueue _) rfl rfl
  · rw [e]
    exact sameShadows_setVector rfl rfl

theorem sameShadows_record (s : State) (r : Recording) : s.sameShadows (s.record r) :=
  keeps_record (P := s.sameShadows) (fun _ same => same) (fun c same => same.trans (sameShadows_fire _ c)) r fun _ => ⟨rfl, rfl⟩

/-- The recording of a vector's fault (R166). -/
def faultOf (s : State) (v : Fin 8) : Recording :=
  { kind := .vectorFault, addr := some (BitVec.ofNat 32 ((s.vector v).addr.toNat % 0x4000000 / 4 * 4)), detail := BitVec.ofNat 32 v.val }

theorem vectorFault_eq {s t : State} (same : s.sameShadows t) (v : Fin 8) : t.vectorFault v = t.record (faultOf s v) := by
  have addr : field (noticeAddr (t.vector v).addr) = BitVec.ofNat 32 ((s.vector v).addr.toNat % 0x4000000 / 4 * 4) := by
    rw [(same v).1]
    exact congrArg (BitVec.ofNat 32) (Nat.min_eq_left (by unfold noticeAddr Config.spaceBytes wordMax; omega))
  have detail : field v.val = BitVec.ofNat 32 v.val := congrArg (BitVec.ofNat 32) (Nat.min_eq_left (by unfold wordMax; omega))
  rw [State.vectorFault, addr, detail]
  rfl

/-- Faults recorded one after another where a condition on the shadows holds. -/
theorem foldl_vectorFault {s : State} {bad : State → Fin 8 → Bool} (stable : ∀ t v, s.sameShadows t → bad t v = bad s v)
    (vs : List (Fin 8)) {t : State} (same : s.sameShadows t) :
    vs.foldl (fun u v => if bad u v then u.vectorFault v else u) t = (vs.filter (bad s)).foldl (fun u v => u.record (faultOf s v)) t := by
  induction vs generalizing t with
  | nil => rfl
  | cons v vs ih =>
    rw [List.foldl_cons, stable t v same, List.filter_cons]
    by_cases fails : bad s v = true
    · rw [if_pos fails, if_pos fails, List.foldl_cons, vectorFault_eq same]
      exact ih (same.trans (sameShadows_record t _))
    · rw [if_neg fails, if_neg fails]
      exact ih same

end Sys2Proof.Machine
end

section
/-! Causes, recordings and shadows together. -/

namespace Sys2Proof.Machine

/-- What a disabled Notice Unit owes its pending vectors: nothing (R168). -/
theorem dropPending_eq (s : State) : (s.nu.enable = true → s.dropPending = s) ∧
    (s.nu.enable = false → s.dropPending =
      { s with nu := { s.nu with vectors := s.nu.vectors.map fun x => { x with pending := false } } }) :=
  ⟨fun enabled => if_pos enabled, fun disabled => if_neg (by rw [disabled]; decide)⟩

/-- The faults of the words taken are recorded in ascending vector number (R166). -/
theorem foldl_reportVector (words : List WriteWord) {addr : Nat} (aligned : addr % 4 = 0) (s : State) :
    (takenVectors addr words).foldl State.reportVector s =
      ((List.finRange 8).filter fun v => addressWritten addr words v && !(s.vector v).usable).foldl
        (fun u v => u.record (faultOf s v)) s := by
  have report : State.reportVector = fun u v => if !(u.vector v).usable then u.vectorFault v else u := by
    funext u v
    rw [State.reportVector]
    cases (u.vector v).usable <;> rfl
  rw [report, foldl_vectorFault (s := s) (bad := fun u v => !(u.vector v).usable) (fun t v same => by rw [(same v).2]) _ fun _ => ⟨rfl, rfl⟩,
    takenVectors_eq words aligned, List.filter_filter]
  refine congrArg (fun vs => List.foldl _ s vs) (List.filter_congr fun v _ => ?_)
  rw [Bool.and_comm]

/-- The vectors that a window change makes unusable (R166). -/
theorem windowsChanged_eq (s : State) : s.windowsChanged =
    (((List.finRange 8).filter fun v => (s.vector v).usable && !(s.judgeUsable.vector v).usable).foldl
      (fun u v => u.record (faultOf s.judgeUsable v)) s.judgeUsable).releaseVectors := by
  unfold State.windowsChanged
  rw [foldl_vectorFault (s := s.judgeUsable) (bad := fun u v => (s.vector v).usable && !(u.vector v).usable)
    (fun t v same => by rw [(same v).2]) _ fun _ => ⟨rfl, rfl⟩]

theorem setVector_setVector (s : State) (v : Fin 8) (x y : NoticeVector) : (s.setVector v x).setVector v y = s.setVector v y := by
  simp [State.setVector]

/-- A pending vector is released where it is deliverable, with a notice unless it has one (R168). -/
theorem releaseVector_eq (s : State) (v : Fin 8) :
    let x := s.vector v
    let due := x.pending = true ∧ s.nu.enable = true ∧ s.nu.allMask = false ∧ x.masked = false ∧ x.usable = true
    (¬ due → s.releaseVector v = s) ∧
    (due → x.queued = true → s.releaseVector v = s.setVector v { x with pending := false }) ∧
    (due → x.queued = false → s.releaseVector v =
      (s.enqueue { kind := .notice v, addr := noticeAddr x.addr, bytes := wordBytes x.data }).setVector v
        { x with pending := false, queued := true }) := by
  intro x due
  have dueIff : ((s.vector v).pending && s.deliverable v) = true ↔ due := by
    simp [State.deliverable, due, x, and_assoc]
  refine ⟨fun not => if_neg (mt dueIff.mp not), fun is queued => (if_pos (dueIff.mpr is)).trans (if_pos queued), fun is unqueued =>
    (if_pos (dueIff.mpr is)).trans ((if_neg (by rw [show (s.vector v).queued = false from unqueued]; decide)).trans ?_)⟩
  unfold State.queueNotice
  rw [vector_setVector_self]
  exact setVector_setVector (s.enqueue _) v _ _

/-- Settles O53. -/
theorem causesAndRecordingsAreTaken : Obligations.CausesAndRecordingsAreTaken := by
  intro s c r v x heard deliverable masked el entry
  have taken : el = s.el.take entry := el_record s r
  refine ⟨fire_unheard, fun hears delivers queued => ?_, fun hears delivers fresh => ?_, fun hears kept => ?_,
    by rw [taken]; exact status_take .., by rw [taken]; exact masked_take .., by rw [taken]; exact holds_take ..,
    fun isMasked => ?_, fun unmasked => ?_, ?_⟩
  · exact (fire_heard hears).trans ((if_pos ((deliverable_iff_of_heard hears _).mpr delivers)).trans (if_pos queued))
  · refine (fire_heard hears).trans ((if_pos ((deliverable_iff_of_heard hears _).mpr delivers)).trans ((if_neg ?_).trans rfl))
    rw [show (s.vector _).queued = false from fresh]
    decide
  · exact (fire_heard hears).trans ((if_neg (mt (deliverable_iff_of_heard hears _).mp kept)).trans rfl)
  · refine (if_pos isMasked).trans ?_
    rw [take_masked (r := entry) isMasked]
  · rw [taken]
    refine ⟨(records_take (r := entry) unmasked).1, (records_take (r := entry) unmasked).2, (first_take (r := entry) unmasked).1,
      (first_take (r := entry) unmasked).2, fun unheld severe => ?_, fun quiet => ?_⟩
    · have enters := record_entersHold (Bool.eq_false_iff.mpr unmasked) severe unheld
      rw [el_record] at enters
      exact enters
    · refine (if_neg unmasked).trans (if_neg ?_)
      have hold : (s.el.take entry).hold = (s.el.hold || inKindSet s.el.holds r.kind) := (first_take (r := entry) unmasked).2
      dsimp only
      rw [show (ErrorLog.take _ _).hold = _ from hold]
      rcases quiet with held | mild
      · simp [held]
      · simp [mild]
  · intro faulty
    refine ⟨addrUsable_iff s, fun old w k => getLsbD_mergeLanes old w, fun addr words aligned => ?_, ?_, rfl, releaseVector_eq s⟩
    · intro word place t taken merged lowBit u
      obtain ⟨causeMap, enable, allMask⟩ := control_takeWords words aligned s
      have reported : (takenVectors addr words).foldl State.reportVector t = u := foldl_reportVector words aligned t
      have watched : s.takeWatched addr words = u.dropPending.releaseVectors :=
        congrArg (fun u : State => u.dropPending.releaseVectors) reported
      refine ⟨takeWords_frame .., causeMap, enable, allMask, vector_takeWords words aligned s,
        fun enabled => watched.trans ?_, fun disabled => watched.trans ?_⟩
      · rw [(dropPending_eq u).1 enabled]
      · rw [(dropPending_eq u).2 disabled]
    · exact windowsChanged_eq s

end Sys2Proof.Machine
end

section
/-! The arbiter, the completions it waits for, and the reads and replies of the part. -/

namespace Sys2Proof.Machine

/-! ## The arbiter (R151) -/

section
variable {s : State}

theorem waitingAccess_eq_none (idle : ∀ a, s.pu.cport ≠ .waiting a) : s.pu.waitingAccess = none := by
  unfold PathUnit.waitingAccess
  split
  · next a waiting => exact absurd waiting (idle a)
  all_goals rfl

theorem partWaits_iff (p : PathUnit) : p.partWaits = true ↔ ¬ (p.queue = [] ∧ p.partRead = none) := by
  unfold PathUnit.partWaits
  cases p.queue <;> cases p.partRead <;> simp

theorem grantDue_of {s : State} (free : s.pu.mport = .free) (some : s.pu.waitingAccess.isSome = true ∨ s.pu.partWaits = true) :
    s.grantDue = true := by
  rw [State.grantDue, free]
  simpa using some

theorem mPortGrant_controller {a : Access} (free : s.pu.mport = .free) (waiting : s.pu.cport = .waiting a)
    (first : s.pu.waitCount < 4 ∨ ¬ s.pu.partWaits = true) : exec .mPortGrant s = .next (s.grantController a) := by
  have access : s.pu.waitingAccess = some a := by rw [PathUnit.waitingAccess, waiting]
  refine (if_pos (grantDue_of free (.inl (by rw [access]; rfl)))).trans ?_
  rw [access]
  exact if_pos first

theorem mPortGrant_part (free : s.pu.mport = .free) (waits : s.pu.partWaits = true)
    (turn : (∀ a, s.pu.cport ≠ .waiting a) ∨ 4 ≤ s.pu.waitCount) : exec .mPortGrant s = .next s.grantPart := by
  refine (if_pos (grantDue_of free (.inr waits))).trans ?_
  cases access : s.pu.waitingAccess with
  | none => rfl
  | some a =>
    dsimp only
    refine if_neg ?_
    rintro (early | alone)
    · rcases turn with idle | late
      · rw [waitingAccess_eq_none idle] at access
        cases access
      · omega
    · exact alone waits

end

/-- A notice's queued mark clears when its performance begins (R167). -/
theorem beginEntry_vector (s : State) (e : Entry) (v : Fin 8) :
    (e.kind = .notice v → e.begun = false → (s.beginEntry e).vector v = { s.vector v with queued := false }) ∧
    (e.kind ≠ .notice v ∨ e.begun = true → (s.beginEntry e).vector v = s.vector v) := by
  refine ⟨fun notice fresh => ?_, fun other => ?_⟩
  · rw [State.beginEntry, notice, fresh]
    exact vector_setVector_self ..
  · unfold State.beginEntry
    split
    · next u notice fresh =>
      rw [vector_setVector]
      refine if_neg fun same => ?_
      subst same
      rcases other with different | begun
      · exact different notice
      · rw [begun] at fresh
        cases fresh
    all_goals rfl

theorem pu_beginEntry (s : State) (e : Entry) : (s.beginEntry e).pu = s.pu := by
  unfold State.beginEntry
  split <;> rfl

/-! ## Completions (R143, R147, R150, R153) -/

theorem readData_spec (owned : List (Option Word)) (data : List Word) :
    (readData owned data).length = owned.length ∧ ∀ i : Nat,
      (∀ v, owned[i]? = some (some v) → (readData owned data)[i]? = some v) ∧
      (owned[i]? = some none → (readData owned data)[i]? = some (data.getD i 0)) := by
  have entry (i : Nat) : (readData owned data)[i]? = (owned[i]?).map fun o => o.getD (data.getD i 0) := by
    unfold readData wordAt
    rw [List.getElem?_map, List.getElem?_zipIdx]
    cases owned[i]? <;> simp
  refine ⟨by simp [readData], fun i => ⟨fun v taken => ?_, fun memory => ?_⟩⟩
  · rw [entry, taken]
    rfl
  · rw [entry, memory]
    rfl

theorem all_id_iff (bursts : List Bool) : (bursts.all id = true ↔ ∀ x ∈ bursts, x = true) ∧ (false ∈ bursts → bursts.all id = false) := by
  refine ⟨by simp, fun failed => ?_⟩
  rw [← Bool.not_eq_true, List.all_eq_true]
  exact fun all => Bool.false_ne_true (all false failed)

section
variable {s : State} {e : Entry} {rest : List Entry} {bursts : List Bool} (performing : s.pu.mport = .entry)
  (head : s.pu.queue = e :: rest) (count : bursts.length = e.kind.bursts)
include performing head count

theorem ownWriteAttemptComplete_eq : exec (.ownWriteAttemptComplete bursts) s = .next (s.freePort.attemptDone e rest (bursts.all id)) := by
  change execOwnWriteAttemptComplete bursts s = _
  unfold execOwnWriteAttemptComplete
  rw [performing, head]
  exact if_pos count

end

/-- Settles O51. -/
theorem mPortIsGrantedAndFreed : Obligations.MPortIsGrantedAndFreed := by
  intro s ok data bursts e rest freed quiet
  have partWaits : s.pu.partWaits = true ↔ ¬ quiet := partWaits_iff s.pu
  refine ⟨fun a free waiting first => ?_, fun free head turn => ?_, fun r free empty read turn => ?_, fun addr owned granted held => ?_,
    fun addr words copied granted held => ?_, fun performing head => ?_, fun b q k => rfl, fun i => rfl, fun v => rfl,
    fun owned => readData_spec owned data⟩
  · rw [mPortGrant_controller free waiting (first.imp_right fun h => by rw [partWaits]; exact not_not_intro h)]
    unfold State.grantController
    by_cases h : quiet
    · rw [if_neg (by rw [partWaits]; exact not_not_intro h), if_pos h]
    · rw [if_pos (partWaits.mpr h), if_neg h]
  · have waits : s.pu.partWaits = true := partWaits.mpr fun h => by rw [h.1] at head; cases head
    refine ⟨_, mPortGrant_part free waits turn, ?_⟩
    have granted : s.grantPart = State.beginEntry { s with pu := { s.pu with
        mport := .entry, waitCount := 0, queue := { e with begun := true } :: rest } } e := by
      unfold State.grantPart
      rw [head]
    rw [granted]
    exact ⟨changesOnly_comp (pu_frame s _) (beginEntry_frame _ e) rfl, pu_beginEntry _ e, fun v => (beginEntry_vector _ e v).1,
      fun v => (beginEntry_vector _ e v).2⟩
  · have waits : s.pu.partWaits = true := partWaits.mpr fun h => by rw [h.2] at read; cases read
    rw [mPortGrant_part free waits turn]
    unfold State.grantPart
    rw [empty, read]
  · change execForwardedTransactionComplete ok data s = _
    unfold execForwardedTransactionComplete
    rw [granted, held]
    rfl
  · have row : exec (.forwardedTransactionComplete ok data) s = .next
        (if ok && copied && inAnchor addr then (freed.completeC ok []).takeWatched addr words else freed.completeC ok []) := by
      change execForwardedTransactionComplete ok data s = _
      unfold execForwardedTransactionComplete
      rw [granted, held]
      rfl
    refine ⟨fun done taken anchor => row.trans ?_, fun not => row.trans ?_⟩
    · rw [done, taken, anchor]
      rfl
    · refine congrArg _ (if_neg ?_)
      rcases not with h | h | h <;> rw [h] <;> simp
  · intro popped count
    have bursty : bursts.length = e.kind.bursts := by
      rw [count]
      cases e.kind <;> rfl
    have row := ownWriteAttemptComplete_eq performing head bursty
    refine ⟨fun all => ?_, fun failed again => ?_, fun failed last => ?_⟩
    · rw [row, (all_id_iff bursts).1.mpr all]
      rfl
    · rw [row, (all_id_iff bursts).2 failed]
      exact congrArg _ ((if_neg Bool.false_ne_true).trans ((if_pos (by unfold Config.attempts; omega)).trans rfl))
    · rw [row, (all_id_iff bursts).2 failed]
      refine congrArg _ ((if_neg Bool.false_ne_true).trans ((if_neg (by unfold Config.attempts; omega)).trans ?_))
      unfold State.memoryFault
      have detail : field e.kind.faultDetail = (match e.kind with
          | .receipt .. => 1 | .snapshot _ => 2 | .reply _ => 3 | .notice _ => 4 : Word) := by
        cases e.kind <;> rfl
      rw [detail]
      rfl

/-! ## Part-side reads and replies (R149, R153, R159, R161, R162) -/

theorem readWords_eq (n : Nat) (data : List Word) : readWords n data = (List.range n).map fun j => data.getD j 0 := rfl

section
variable {s : State} {k a n m : Nat} {data : List Word} {ok : Bool}

theorem sweepReadComplete_eq {discard : Bool} (reading : s.pu.mport = .read { kind := .sweep k, addr := a, count := n, attempts := m } discard) :
    exec (.sweepReadComplete ok data) s =
      if discard then .next s.freePort
      else if ok then .next ((s.freePort.takeWatched a ((readWords n data).map fullWord)).nextSweep k)
      else if m + 1 < 3 then .next (s.freePort.requestRead { kind := .sweep k, addr := a, count := n, attempts := m + 1 })
      else .next ((s.freePort.memoryFault a 6).nextSweep k) := by
  change execSweepReadComplete ok data s = _
  unfold execSweepReadComplete
  rw [reading]

theorem fetchReadComplete_eq {discard : Bool} (reading : s.pu.mport = .read { kind := .fetch k, addr := a, count := n, attempts := m } discard) :
    exec (.fetchReadComplete ok data) s =
      if discard then .next s.freePort
      else if ok then .next (s.freePort.takeFetched k data)
      else if m + 1 < 3 then .next (s.freePort.requestRead { kind := .fetch k, addr := a, count := n, attempts := m + 1 })
      else .next ((s.freePort.memoryFault a 5).skipFetch) := by
  change execFetchReadComplete ok data s = _
  unfold execFetchReadComplete
  rw [reading]

end

theorem skipFetch_eq {s : State} {position : BitVec 4} {words : List Word} (fetching : s.cu.step = .fetching position words) :
    s.skipFetch = s.queueReply position 0 .fetchFault := by
  unfold State.skipFetch
  rw [fetching]

/-- The fields of a reply's sixteen bytes (R161, spec/11 11.3). -/
theorem replyBytes_fields (tag : BitVec 16) (r : Reply) :
    (replyBytes tag r).length = 16 ∧ leNat (replyBytes tag r) 0 1 = min r.status 255 ∧
    leNat (replyBytes tag r) 1 1 = min r.reasonCode 255 ∧ leNat (replyBytes tag r) 2 2 = tag.toNat ∧
    leNat (replyBytes tag r) 4 4 = r.first.toNat ∧ leNat (replyBytes tag r) 8 4 = r.second.toNat ∧
    leNat (replyBytes tag r) 12 4 = 0 := by
  have form : replyBytes tag r = leBytes 1 r.status ++ (leBytes 1 r.reasonCode ++ (leBytes 2 tag.toNat ++
      (wordBytes r.first ++ (wordBytes r.second ++ leBytes 4 0)))) := by
    simp only [replyBytes, List.append_assoc]
  have tagLow := tag.isLt
  refine ⟨?_, ?_, ?_, ?_, ?_, ?_, ?_⟩
  · simp [form]
  all_goals simp [form, leNat_leBytes, leNat_leBytes_skip, leNat_wordBytes, leNat_wordBytes_skip, leNat_leBytes_last]
  omega

/-- Settles O52. -/
theorem sweepFetchAndReply : Obligations.SweepFetchAndReply := by
  intro s data ok k a n m position words code freed slot first slot8
  refine ⟨rfl, fun reading => (sweepReadComplete_eq reading).trans (if_pos rfl), fun reading => ?_, fun more => ?_, fun last => if_neg (Nat.not_lt.mpr last),
    fun r held => ?_, fun none => ?_, fun reading => (fetchReadComplete_eq reading).trans (if_pos rfl), fun reading fetching => ?_,
    fun tag r => ?_, rfl, ⟨rfl, rfl, rfl⟩, answers_of_effect unknownEffect rfl rfl⟩
  · have row (ok : Bool) := (sweepReadComplete_eq (ok := ok) (data := data) reading).trans (if_neg Bool.false_ne_true)
    refine ⟨(row true).trans ((if_pos rfl).trans ?_), fun again => (row false).trans ((if_neg Bool.false_ne_true).trans (if_pos (by omega))),
      fun failed => (row false).trans ((if_neg Bool.false_ne_true).trans (if_neg (by omega)))⟩
    rw [readWords_eq, List.map_map]
    rfl
  · refine (if_pos more).trans ?_
    rw [sweepRead, if_neg (Nat.succ_ne_zero k)]
    rfl
  · unfold State.acceptHeld
    rw [held]
  · unfold State.acceptHeld
    split
    · next r held => exact absurd held (none r)
    all_goals rfl
  · have row (ok : Bool) := (fetchReadComplete_eq (ok := ok) (data := data) reading).trans (if_neg Bool.false_ne_true)
    have step : freed.cu.step = .fetching position words := fetching
    refine ⟨fun zero => (row true).trans ((if_pos rfl).trans (congrArg _ ?_)), fun second => (row true).trans ((if_pos rfl).trans (congrArg _ ?_)),
      fun again => (row false).trans ((if_neg Bool.false_ne_true).trans (if_pos (by omega))),
      fun failed => (row false).trans ((if_neg Bool.false_ne_true).trans ((if_neg (by omega)).trans (congrArg _ ?_)))⟩
    · change freed.takeFetched k data = _
      unfold State.takeFetched
      rw [step]
      exact (if_pos zero).trans rfl
    · change freed.takeFetched k data = _
      unfold State.takeFetched
      rw [step]
      exact (if_neg (Nat.pos_iff_ne_zero.mp second)).trans rfl
    · refine skipFetch_eq (words := words) ?_
      rw [State.memoryFault, cu_record]
      exact fetching
  · obtain ⟨length, status, reason, tagField, one, two, zero⟩ := replyBytes_fields tag r
    refine ⟨replyBytes tag r, rfl, length, tagField, zero, fun x y done => ?_, fun why x refused => ?_, fun fault => ?_⟩
    · subst done
      exact ⟨status, reason, one, two⟩
    · subst refused
      refine ⟨status, reason.trans ?_, one, two⟩
      cases why <;> rfl
    · subst fault
      exact ⟨status, reason, one, two⟩

end Sys2Proof.Machine
end

section
/-! The settings line, the epoch's retries, and SETTINGS_READ and SETTINGS_WRITE. -/

namespace Sys2Proof.Machine

/-! ## The settings line (R179, R182) -/

theorem epochRecord_eq (e : Word) : epochRecord e = (wordBytes e ++ wordBytes (crc32 (wordBytes e))).zipIdx.map fun b =>
    ({ offset := 1000 + b.2, value := b.1 } : SettingsByte) := rfl

theorem settingsOperationStart_eq (s : State) : exec .settingsOperationStart s =
    if s.settingsDue then .next { s with sp := { s.sp with inFlight := s.nextSettings, requests := s.sp.requests.tail } }
    else .next s := rfl

theorem settingsDue_of {s : State} {op : SettingsOp} (free : s.sp.inFlight = none) (next : s.nextSettings = some op) :
    s.settingsDue = true := by
  rw [State.settingsDue, free, next]
  rfl

theorem nextSettings_cons {s : State} {op : SettingsOp} {rest : List SettingsOp} (requests : s.sp.requests = op :: rest) :
    s.nextSettings = some op := by
  rw [State.nextSettings, requests]

theorem nextSettings_preload {s : State} (empty : s.sp.requests = []) (starting : s.pu.link = .starting) :
    s.nextSettings = some .preload := by
  rw [State.nextSettings, empty]
  exact if_pos starting

theorem first_clear_bit (el : ErrorLog) (k : ErrorKind) (only : ∀ j, inKindSet k.bit j = true ↔ j = k) :
    (el.clear k.bit).first = if el.first = some k then none else el.first := by
  unfold ErrorLog.clear
  cases first : el.first with
  | none => rfl
  | some j =>
    by_cases same : j = k
    · simp [same, (only k).mpr rfl]
    · simp [same, mt (only j).mp same]

/-- Settles O12. -/
theorem settingsLineOperations : Obligations.SettingsLineOperations := by
  intro s e epochBytes
  refine ⟨fun op rest free requests => ?_, fun free empty starting => ?_, fun op busy => ?_, fun ended => if_pos ended,
    fun bytes retrying => ⟨?_, ?_⟩⟩
  · have next := nextSettings_cons requests
    rw [settingsOperationStart_eq, if_pos (settingsDue_of free next), next, requests]
    rfl
  · have next := nextSettings_preload empty starting
    rw [settingsOperationStart_eq, if_pos (settingsDue_of free next), next]
    have kept : s.sp.requests.tail = s.sp.requests := by rw [empty]; rfl
    rw [kept]
  · refine if_neg ?_
    rw [State.settingsDue, busy]
    exact Bool.false_ne_true
  · have first := first_clear_bit s.el .epochUnsaved fun j => by cases j <;> decide
    change execEpochRetryEnd true s = _
    unfold execEpochRetryEnd
    rw [retrying, ← first]
    rfl
  · change execEpochRetryEnd false s = _
    unfold execEpochRetryEnd
    rw [retrying]
    rfl

/-! ## SETTINGS_READ and SETTINGS_WRITE (R180) -/

theorem toNat_append_byte {n : Nat} (x : BitVec n) (y : Byte) : (x ++ y).toNat = 256 * x.toNat + y.toNat := by
  rw [BitVec.toNat_append, ← Nat.shiftLeft_add_eq_or_of_lt y.isLt, Nat.shiftLeft_eq]
  omega

theorem readResult_eq (a b c d : Byte) : readResult [a, b, c, d] = d ++ c ++ b ++ a := by
  refine BitVec.eq_of_toNat_eq ?_
  rw [toNat_append_byte, toNat_append_byte, toNat_append_byte]
  simp [readResult, leNat]
  omega

theorem wordBytes_eq (w : Word) : wordBytes w = [0, 1, 2, 3].map fun i => w.extractLsb' (8 * i) 8 := by
  refine List.map_congr_left fun i _ => BitVec.eq_of_toNat_eq ?_
  have low := w.isLt
  rw [BitVec.toNat_ofNat, BitVec.extractLsb'_toNat, Nat.shiftRight_eq_div_pow, Nat.pow_mul, Nat.min_eq_left (by omega)]

theorem writtenBytes_eq (n : Nat) (data : Word) : writtenBytes n data =
    ([0, 1, 2, 3].filter fun i => decide (n + i < 2048)).map fun i =>
      ({ offset := n + i, value := data.extractLsb' (8 * i) 8 } : SettingsByte) := by
  have placed : placeBytes n (wordBytes data) = [0, 1, 2, 3].map fun i =>
      ({ offset := n + i, value := data.extractLsb' (8 * i) 8 } : SettingsByte) := by
    rw [wordBytes_eq]
    rfl
  rw [writtenBytes, placed, List.filter_map]
  rfl

/-- The four offsets of which those below 2048 are kept. -/
theorem length_writtenBytes {n : Nat} (within : n ≤ 2047) (data : Word) : (writtenBytes n data).length = min 4 (2048 - n) := by
  rw [writtenBytes_eq, List.length_map]
  simp only [List.filter_cons, List.filter_nil, decide_eq_true_eq]
  repeat' split
  all_goals
    simp only [List.length_cons, List.length_nil]
    omega

theorem readOffsets_eq {n : Nat} (within : n ≤ 2047) :
    readOffsets n = [n, (n + 1) % 2048, (n + 2) % 2048, (n + 3) % 2048] :=
  congrArg (· :: _) (Nat.mod_eq_of_lt (Nat.lt_succ_of_le within))

/-- A command whose effect gives no reply is still executing, its operation requested. -/
theorem requested_of_effect {s t : State} {c : Instr} {position : BitVec 4} {words : List Word} (held : s.executes c position words)
    (effect : State → State × Option Reply) (row : exec c s = .next (s.ringCommand c effect)) (requested : effect s = (t, none)) :
    exec c s = .next { t with cu := { t.cu with step := .executing position words true } } := by
  rw [row, ringCommand_executes held, requested]
  rfl

theorem replySettings_eq {s : State} {position : BitVec 4} {words : List Word} (waits : s.cu.step = .executing position words true)
    (r : Reply) : s.replySettings r = s.queueReply position (slotTag words) r := by
  rw [State.replySettings, waits]

section
variable {s : State} {ok : Bool} {bytes : List Byte} {discarded : Bool}

theorem settingsCommandEnd_read {offsets : List Nat} (reading : s.sp.inFlight = some (.commandRead offsets discarded)) :
    exec (.settingsCommandEnd ok bytes) s =
      .next (if discarded then s.endSettings else s.endSettings.replySettings (settingsReply ok (readResult bytes))) := by
  change execSettingsCommandEnd ok bytes s = _
  unfold execSettingsCommandEnd
  rw [reading]

theorem settingsCommandEnd_write {w : List SettingsByte} (writing : s.sp.inFlight = some (.commandWrite w discarded)) :
    exec (.settingsCommandEnd ok bytes) s =
      .next (if discarded then s.endSettings else s.endSettings.replySettings (settingsReply ok (field w.length))) := by
  change execSettingsCommandEnd ok bytes s = _
  unfold execSettingsCommandEnd
  rw [writing]

end

/-- Settles O15. -/
theorem settingsCommands : Obligations.SettingsCommands := by
  intro s offset data position words bytes n written
  have wrote : writtenBytes n data = written := writtenBytes_eq n data
  refine ⟨fun high => ⟨answers_of_effect (settingsReadEffect offset) rfl (if_pos high),
      answers_of_effect (settingsWriteEffect offset data) rfl (if_pos high)⟩,
    fun low => answers_of_effect (settingsWriteEffect offset data) rfl ((if_neg (by omega)).trans (if_pos low)),
    fun within held => ?_, fun low within => ⟨?_, fun held => ?_⟩, fun waits => ⟨fun offsets reading => ⟨fun a b c d => ?_, ?_⟩,
      fun w writing => ⟨?_, ?_⟩⟩, fun offsets w discarded => ?_, rfl⟩
  · rw [← readOffsets_eq within]
    exact requested_of_effect held (settingsReadEffect offset) rfl (if_neg (by omega))
  · rw [← wrote]
    exact length_writtenBytes within data
  · rw [← wrote]
    exact requested_of_effect held (settingsWriteEffect offset data) rfl ((if_neg (by omega)).trans (if_neg (by omega)))
  · rw [settingsCommandEnd_read reading, ← readResult_eq]
    exact congrArg _ (replySettings_eq (s := s.endSettings) waits _)
  · exact (settingsCommandEnd_read reading).trans (congrArg _ (replySettings_eq (s := s.endSettings) waits _))
  · exact (settingsCommandEnd_write writing).trans (congrArg _ (replySettings_eq (s := s.endSettings) waits _))
  · exact (settingsCommandEnd_write writing).trans (congrArg _ (replySettings_eq (s := s.endSettings) waits _))
  · rcases discarded with reading | writing
    · exact ⟨settingsCommandEnd_read reading, settingsCommandEnd_read reading⟩
    · exact ⟨settingsCommandEnd_write writing, settingsCommandEnd_write writing⟩

end Sys2Proof.Machine
end

section
/-! The preload's judgement of the image (R181): the walk, the records of each tag, and the checks across records. -/

namespace Sys2Proof.Machine

/-! ## The image as bytes -/

theorem imageValid_iff (bytes : List Byte) : imageValid bytes = true ↔
    let n := leNat bytes 4 2
    leNat bytes 0 2 = 0x564C ∧ leNat bytes 2 1 = 1 ∧ 9 + n ≤ 999 ∧
      (crc32 (bytesAt bytes 0 (6 + n))).toNat = leNat bytes (6 + n) 4 := by
  simp only [imageValid, imageLength, crcMatches, Bool.and_eq_true, beq_iff_eq, and_assoc]
  exact and_congr_right fun _ => and_congr_right fun _ => and_congr_left fun _ => decide_eq_true_iff

theorem judgeImage_invalid {bytes : List Byte} (invalid : imageValid bytes = false) :
    judgeImage bytes = { image := {}, bad := [0] } := if_neg (Bool.eq_false_iff.mp invalid)

/-- A walk that ended early adds detail code 0 to what is bad. -/
theorem ended_eq (early : Bool) (j : Judged) : (if early then { j with bad := j.bad ++ [0] } else j) =
    ({ image := j.image, bad := if early then j.bad ++ [0] else j.bad } : Judged) := by
  cases early <;> rfl

theorem judgeImage_valid {bytes : List Byte} (valid : imageValid bytes = true) : judgeImage bytes =
    let walk := walkRecords (leNat bytes 4 2) (bytesAt bytes 6 (leNat bytes 4 2))
    let taken := walk.1.foldl Judged.take { image := {}, bad := [] }
    ((List.finRange 6).foldl Judged.checkPair
      { image := taken.image, bad := if walk.2 then taken.bad ++ [0] else taken.bad }).checkSnapshot := by
  unfold judgeImage
  rw [if_pos valid]
  exact congrArg (fun k => ((List.finRange 6).foldl Judged.checkPair k).checkSnapshot) (ended_eq _ _)

theorem storedEpoch_of_match {bytes : List Byte} (whole : (crc32 (bytesAt bytes 1000 4)).toNat = leNat bytes 1004 4) :
    storedEpoch bytes = some (BitVec.ofNat 32 (leNat bytes 1000 4)) := if_pos (beq_iff_eq.mpr whole)

theorem storedEpoch_of_mismatch {bytes : List Byte} (broken : (crc32 (bytesAt bytes 1000 4)).toNat ≠ leNat bytes 1004 4) :
    storedEpoch bytes = none := if_neg (mt beq_iff_eq.mp broken)

theorem walkRecords_cons (k : Nat) (tag len : Byte) (rest : List Byte) : walkRecords (k + 1) (tag :: len :: rest) =
    if rest.length < len.toNat then ([], true)
    else
      let r := walkRecords k (rest.drop len.toNat)
      ({ tag := tag.toNat, value := rest.take len.toNat } :: r.1, r.2) := rfl

/-! ## The checks across records (R24, R110) -/

theorem checkSnapshot_eq (j : Judged) : j.checkSnapshot =
    if windowsMeet j.image.receipt j.image.snapshot then
      { image := { j.image with snapshot := { base := none, stride := 32, decimation := 1 } }, bad := j.bad ++ [7] }
    else j := rfl

theorem checkPair_eq (j : Judged) (p : Fin 6) : j.checkPair p =
    if (j.image.pairs[p]).cap = 0 ∨
      max (j.image.bays[lowerBay p]).pmin (j.image.bays[higherBay p]).pmin ≤ (j.image.pairs[p]).cap then j
    else { image := { j.image with pairs := j.image.pairs.set p { cap := 0, evenIsOdd := false } }, bad := j.bad ++ [3] } := rfl

/-! ## A record of a known tag -/

section
variable {j : Judged} {r : Record} {k : Nat} {good : Prop} {accepted : Option Image} {new old : Image}

/-- A record judged as its tag says: taken when it is good, and otherwise its tag noted and the defaults put back. -/
theorem take_judged (tag : r.tag = k) (judged : judgeRecord j.image r = some (accepted, old)) (yes : good → accepted = some new)
    (no : ¬ good → accepted = none) :
    (good → j.take r = { j with image := new }) ∧ (¬ good → j.take r = { image := old, bad := j.bad ++ [k] }) := by
  refine ⟨fun right => ?_, fun wrong => ?_⟩
  · rw [Judged.take, judged, yes right]
  · rw [Judged.take, judged, no wrong, tag]

theorem take_judged_if {c : Prop} [Decidable c] (tag : r.tag = k)
    (judged : judgeRecord j.image r = some (if c then some new else none, old)) (iff : c ↔ good) :
    (good → j.take r = { j with image := new }) ∧ (¬ good → j.take r = { image := old, bad := j.bad ++ [k] }) :=
  take_judged tag judged (fun right => if_pos (iff.mpr right)) fun wrong => if_neg (mt iff.mp wrong)

end

theorem take_unknown (j : Judged) {r : Record} (unknown : r.tag = 0 ∨ 10 < r.tag) : j.take r = j := by
  have none : judgeRecord j.image r = none := by
    unfold judgeRecord
    dsimp only
    split
    case h_11 => rfl
    all_goals omega
  rw [Judged.take, none]

theorem inRange_iff (lo hi n : Nat) : inRange lo hi n = true ↔ lo ≤ n ∧ n ≤ hi := by
  simp [inRange]

theorem snapshotFits_iff (base stride decimation : Nat) :
    snapshotFits { base := baseOf base, stride := stride, decimation := decimation } = true ↔
    (32 ≤ stride ∧ stride ≤ 256 ∧ stride % 32 = 0) ∧ (1 ≤ decimation ∧ decimation ≤ 16) ∧
      (base = 0xFFFFFFFF ∨ base % 32 = 0 ∧ base + 13 * stride ≤ 0x3FFF000) := by
  have placed (rows : 32 ≤ stride) : (match baseOf base with
      | none => true
      | Option.some b => b % 32 == 0 && windowFits b (SnapshotWriter.len { base := baseOf base, stride := stride, decimation := decimation }))
        = true ↔ base = 0xFFFFFFFF ∨ base % 32 = 0 ∧ base + 13 * stride ≤ 0x3FFF000 := by
    by_cases absent : base = wordMax
    · rw [show baseOf base = none from if_pos absent]
      exact ⟨fun _ => .inl absent, fun _ => rfl⟩
    · rw [show baseOf base = some base from if_neg absent, or_iff_right (show ¬ base = 0xFFFFFFFF from absent)]
      simp only [Bool.and_eq_true, beq_iff_eq]
      exact and_congr_right fun _ => windowFits_iff (show 0 < 13 * stride by omega)
  constructor
  · intro fits
    obtain ⟨⟨⟨strides, rows⟩, rounds⟩, place⟩ : (((inRange 32 256 stride = true ∧ (stride % 32 == 0) = true) ∧
      inRange 1 16 decimation = true) ∧ _ = true) := by
        simpa only [snapshotFits, Bool.and_eq_true] using fits
    rw [inRange_iff] at strides rounds
    exact ⟨⟨strides.1, strides.2, beq_iff_eq.mp rows⟩, rounds, (placed strides.1).mp place⟩
  · rintro ⟨⟨low, high, rows⟩, rounds, place⟩
    simp only [snapshotFits, Bool.and_eq_true, inRange_iff, beq_iff_eq]
    exact ⟨⟨⟨⟨low, high⟩, rows⟩, rounds⟩, (placed low).mpr place⟩

theorem channelsRecord_inRanges_iff (v : List Byte) : (channelsRecord v).inRanges = true ↔
    let f := leNat v
    (1 ≤ f 0 2 ∧ f 0 2 ≤ 1000) ∧ (f 0 2 ≤ f 2 2 ∧ f 2 2 ≤ 5000) ∧ (10 ≤ f 4 2 ∧ f 4 2 ≤ 600) ∧ (1 ≤ f 6 2 ∧ f 6 2 ≤ 1000) ∧
      (f 6 2 ≤ f 8 2 ∧ f 8 2 ≤ 5000) ∧ ∀ k : Fin 5, 1 ≤ f (10 + k.val) 1 ∧ f (10 + k.val) 1 ≤ 100 := by
  simp only [ChannelConfig.inRanges, channelsRecord, Bool.and_eq_true, inRange_iff, Vector.toList_ofFn, List.all_eq_true,
    List.mem_ofFn, forall_exists_index, forall_apply_eq_imp_iff, and_assoc]

theorem bayRecord_inRanges_iff (v : List Byte) : (bayRecordConfig v).inRanges = true ↔
    let f := leNat v
    (1400 ≤ f 1 4 ∧ f 1 4 ≤ 11000 ∧ f 1 4 % 100 = 0) ∧ (f 1 4 ≤ f 5 4 ∧ f 5 4 ≤ 22000 ∧ f 5 4 % 100 = 0) ∧
      (1 ≤ f 9 1 ∧ f 9 1 ≤ 10) ∧ (2 ≤ f 10 1 ∧ f 10 1 ≤ 60) ∧ (f 11 2 = 0 ∨ 60 ≤ f 11 2 ∧ f 11 2 ≤ 3600) := by
  simp only [bayConfig_inRanges_iff, bayRecordConfig, and_assoc]

section
variable {j : Judged} {r : Record}

theorem take_site (tag : r.tag = 1) :
    let i := j.image
    let f := leNat r.value
    let good := r.value.length = 5 ∧ f 0 4 ≤ 1000000 ∧ 1 ≤ f 4 1 ∧ f 4 1 ≤ 10
    (good → j.take r = { j with image := { i with limit := f 0 4, period := f 4 1 } }) ∧
    (¬ good → j.take r = { image := { i with limit := 0, period := 2 }, bad := j.bad ++ [1] }) :=
  take_judged_if tag (by rw [judgeRecord, tag]; rfl) (by rw [siteInRanges_iff])

theorem judgeRecord_bay {i : Image} (tag : r.tag = 2) : judgeRecord i r = some (takeBay r.value i, dropBay r.value i) := by
  rw [judgeRecord, tag]
  rfl

theorem judgeRecord_pair {i : Image} (tag : r.tag = 3) : judgeRecord i r = some (takePair r.value i, dropPair r.value i) := by
  rw [judgeRecord, tag]
  rfl

theorem take_bay {b : Fin 12} (named : r.value ≠ [] ∧ leNat r.value 0 1 = b.val) (tag : r.tag = 2) :
    let i := j.image
    let v := r.value
    let f := leNat v
    let good := v.length = 13 ∧ (1400 ≤ f 1 4 ∧ f 1 4 ≤ 11000 ∧ f 1 4 % 100 = 0) ∧
      (f 1 4 ≤ f 5 4 ∧ f 5 4 ≤ 22000 ∧ f 5 4 % 100 = 0) ∧ (1 ≤ f 9 1 ∧ f 9 1 ≤ 10) ∧ (2 ≤ f 10 1 ∧ f 10 1 ≤ 60) ∧
      (f 11 2 = 0 ∨ 60 ≤ f 11 2 ∧ f 11 2 ≤ 3600)
    let c : BayConfig := { pmin := f 1 4, pmax := f 5 4, stopDelay := f 9 1, releaseWindow := f 10 1, idleTimeout := f 11 2 }
    let d : BayConfig := { pmin := 1400, pmax := 7400, stopDelay := 3, releaseWindow := 10, idleTimeout := 900 }
    (good → j.take r = { j with image := { i with bays := i.bays.set b c } }) ∧
    (¬ good → j.take r = { image := { i with bays := i.bays.set b d }, bad := j.bad ++ [2] }) := by
  obtain ⟨some, first⟩ := named
  have bay : bayOf (leNat r.value 0 1) = Option.some b := first ▸ dif_pos b.isLt
  have taken : takeBay r.value j.image = if r.value.length = 13 ∧ (bayRecordConfig r.value).inRanges then
      Option.some { j.image with bays := j.image.bays.set b (bayRecordConfig r.value) } else none := by
    rw [takeBay, bay]
  have dropped : dropBay r.value j.image = { j.image with bays := j.image.bays.set b {} } := by
    rw [dropBay, if_neg (mt List.length_eq_zero_iff.mp some), bay]
  exact take_judged_if tag ((judgeRecord_bay tag).trans (by rw [taken, dropped]; rfl)) (and_congr_right fun _ => bayRecord_inRanges_iff _)

theorem take_noBay (unnamed : r.value = [] ∨ 11 < leNat r.value 0 1) (tag : r.tag = 2) :
    j.take r = { j with bad := j.bad ++ [2] } := by
  have kept : takeBay r.value j.image = none ∧ dropBay r.value j.image = j.image := by
    rcases unnamed with empty | high
    · rw [empty]
      exact ⟨rfl, rfl⟩
    · have bay : bayOf (leNat r.value 0 1) = none := dif_neg (by omega)
      rw [takeBay, dropBay, bay]
      exact ⟨rfl, ite_self _⟩
  have judged : judgeRecord j.image r = some (none, j.image) :=
    (judgeRecord_bay tag).trans (by rw [kept.1, kept.2])
  rw [Judged.take, judged, tag]

theorem take_pair {p : Fin 6} (named : r.value ≠ [] ∧ leNat r.value 0 1 = p.val) (tag : r.tag = 3) :
    let i := j.image
    let v := r.value
    let f := leNat v
    let good := v.length = 6 ∧ (f 1 4 = 0 ∨ 1 ≤ f 1 4 ∧ f 1 4 ≤ 44000 ∧ f 1 4 % 100 = 0) ∧
      (f 5 1 = 2 * p.val ∨ f 5 1 = 2 * p.val + 1)
    (good → j.take r = { j with image := { i with pairs := i.pairs.set p { cap := f 1 4, evenIsOdd := f 5 1 % 2 == 1 } } }) ∧
    (¬ good → j.take r = { image := { i with pairs := i.pairs.set p { cap := 0, evenIsOdd := false } }, bad := j.bad ++ [3] }) := by
  obtain ⟨some, first⟩ := named
  have pair : pairOfNat (leNat r.value 0 1) = Option.some p := first ▸ dif_pos p.isLt
  have taken : takePair r.value j.image =
      if r.value.length = 6 ∧ capInRange (leNat r.value 1 4) ∧ leNat r.value 5 1 / 2 = p.val then
        Option.some { j.image with pairs := j.image.pairs.set p { cap := leNat r.value 1 4, evenIsOdd := leNat r.value 5 1 % 2 == 1 } }
      else none := by
    rw [takePair, pair]
  have dropped : dropPair r.value j.image = { j.image with pairs := j.image.pairs.set p {} } := by
    rw [dropPair, if_neg (mt List.length_eq_zero_iff.mp some), pair]
  refine take_judged_if tag ((judgeRecord_pair tag).trans (by rw [taken, dropped])) (and_congr_right fun _ => ?_)
  rw [capInRange_iff]
  omega

theorem take_noPair (unnamed : r.value = [] ∨ 5 < leNat r.value 0 1) (tag : r.tag = 3) :
    j.take r = { j with bad := j.bad ++ [3] } := by
  have kept : takePair r.value j.image = none ∧ dropPair r.value j.image = j.image := by
    rcases unnamed with empty | high
    · rw [empty]
      exact ⟨rfl, rfl⟩
    · have pair : pairOfNat (leNat r.value 0 1) = none := dif_neg (by omega)
      rw [takePair, dropPair, pair]
      exact ⟨rfl, ite_self _⟩
  have judged : judgeRecord j.image r = some (none, j.image) :=
    (judgeRecord_pair tag).trans (by rw [kept.1, kept.2])
  rw [Judged.take, judged, tag]

theorem take_channels (tag : r.tag = 4) :
    let i := j.image
    let v := r.value
    let f := leNat v
    let good := v.length = 15 ∧ (1 ≤ f 0 2 ∧ f 0 2 ≤ 1000) ∧ (f 0 2 ≤ f 2 2 ∧ f 2 2 ≤ 5000) ∧ (10 ≤ f 4 2 ∧ f 4 2 ≤ 600) ∧
      (1 ≤ f 6 2 ∧ f 6 2 ≤ 1000) ∧ (f 6 2 ≤ f 8 2 ∧ f 8 2 ≤ 5000) ∧ ∀ k : Fin 5, 1 ≤ f (10 + k.val) 1 ∧ f (10 + k.val) 1 ≤ 100
    (good → j.take r = { j with image := { i with channels := {
      bayWmin := f 0 2, bayWmax := f 2 2, silenceLimit := f 4 2, siteWmin := f 6 2, siteWmax := f 8 2,
      energies := Vector.ofFn fun k => f (10 + k.val) 1 } } }) ∧
    (¬ good → j.take r = { image := { i with channels := {
      bayWmin := 10, bayWmax := 200, silenceLimit := 60, siteWmin := 10, siteWmax := 200,
      energies := Vector.replicate 5 10 } }, bad := j.bad ++ [4] }) :=
  take_judged_if tag (by rw [judgeRecord, tag]; rfl) (and_congr_right fun _ => channelsRecord_inRanges_iff _)

theorem take_battery (tag : r.tag = 5) :
    let i := j.image
    let v := r.value
    let f := leNat v
    let good := v.length = 16 ∧ (1000 ≤ f 0 4 ∧ f 0 4 ≤ 2000000) ∧ f 4 4 ≤ f 0 4 ∧ f 8 4 ≤ 250000 ∧ f 12 4 ≤ 250000
    (good → j.take r = { j with image := { i with cap := f 0 4, reserve := f 4 4, cmax := f 8 4, dmax := f 12 4 } }) ∧
    (¬ good → j.take r =
      { image := { i with cap := 100000, reserve := 20000, cmax := 10000, dmax := 10000 }, bad := j.bad ++ [5] }) :=
  take_judged_if tag (by rw [judgeRecord, tag]; rfl) (by rw [batteryInRanges_iff, and_assoc])

theorem take_receiptWindow (tag : r.tag = 6) :
    let i := j.image
    let v := r.value
    let f := leNat v
    let good := v.length = 8 ∧ (16 ≤ f 4 2 ∧ f 4 2 ≤ 512) ∧ f 6 2 ≤ f 4 2 ∧ f 0 4 % 64 = 0 ∧ f 0 4 + 64 * f 4 2 ≤ 0x3FFF000
    (good → j.take r = { j with image := { i with receipt := { base := some (f 0 4), slots := f 4 2, lowWater := f 6 2 } } }) ∧
    (¬ good → j.take r = { image := { i with receipt := { base := none, slots := 0, lowWater := 0 } }, bad := j.bad ++ [6] }) :=
  take_judged_if tag (by rw [judgeRecord, tag]; rfl) (and_congr_right fun _ => (receiptFits_iff ..).trans and_assoc.symm)

theorem take_snapshotWindow (tag : r.tag = 7) :
    let i := j.image
    let v := r.value
    let f := leNat v
    let good := v.length = 7 ∧ (32 ≤ f 4 2 ∧ f 4 2 ≤ 256 ∧ f 4 2 % 32 = 0) ∧ (1 ≤ f 6 1 ∧ f 6 1 ≤ 16) ∧
      (f 0 4 = 0xFFFFFFFF ∨ f 0 4 % 32 = 0 ∧ f 0 4 + 13 * f 4 2 ≤ 0x3FFF000)
    (good → j.take r = { j with image := { i with snapshot := {
      base := if f 0 4 = 0xFFFFFFFF then none else some (f 0 4), stride := f 4 2, decimation := f 6 1 } } }) ∧
    (¬ good → j.take r = { image := { i with snapshot := { base := none, stride := 32, decimation := 1 } }, bad := j.bad ++ [7] }) :=
  take_judged_if tag (by rw [judgeRecord, tag]; rfl) (and_congr_right fun _ => snapshotFits_iff ..)

theorem take_errorPolicy (tag : r.tag = 8) :
    let i := j.image
    let v := r.value
    let f := leNat v
    let good := v.length = 4 ∧ f 0 2 < 4096 ∧ f 2 2 < 4096
    (good → j.take r = { j with image := { i with masked := BitVec.ofNat 12 (f 0 2), holds := BitVec.ofNat 12 (f 2 2) } }) ∧
    (¬ good → j.take r = { image := { i with masked := 0x010, holds := 0x520 }, bad := j.bad ++ [8] }) := by
  refine take_judged tag (by rw [judgeRecord, tag]; rfl) ?_ fun bad => ?_
  · rintro ⟨length, masks, holds⟩
    rw [takeErrorPolicy, kindSetOf, kindSetOf, if_pos masks, if_pos holds]
    exact if_pos length
  · unfold takeErrorPolicy
    split
    · next m h masks holds =>
      refine if_neg fun length => bad ⟨length, ?_, ?_⟩
      · exact Decidable.of_not_not fun high => by rw [kindSetOf, if_neg high] at masks; cases masks
      · exact Decidable.of_not_not fun high => by rw [kindSetOf, if_neg high] at holds; cases holds
    all_goals rfl

theorem causeMapOf_eq (n : Nat) : causeMapOf n =
    if ∀ k : Fin 8, n / 16 ^ k.val % 16 ≤ 7 then some (Vector.ofFn fun k : Fin 8 => Fin.ofNat 8 (n / 16 ^ k.val % 16)) else none := by
  unfold causeMapOf
  refine ite_congr_iff ?_ rfl rfl
  simp only [List.all_eq_true, List.mem_range, decide_eq_true_eq]
  exact ⟨fun all k => Nat.le_of_lt_succ (all k.val k.isLt), fun all k low => Nat.lt_succ_of_le (all ⟨k, low⟩)⟩

theorem take_causeMap (tag : r.tag = 9) :
    let i := j.image
    let v := r.value
    let f := leNat v
    let good := v.length = 4 ∧ ∀ k : Fin 8, f 0 4 / 16 ^ k.val % 16 ≤ 7
    (good → j.take r = { j with image := { i with causeMap := Vector.ofFn fun k => Fin.ofNat 8 (f 0 4 / 16 ^ k.val % 16) } }) ∧
    (¬ good → j.take r = { image := { i with causeMap := Vector.replicate 8 0 }, bad := j.bad ++ [9] }) := by
  refine take_judged tag (by rw [judgeRecord, tag]; rfl) ?_ fun bad => ?_
  · rintro ⟨length, vectors⟩
    rw [takeCauseMap, causeMapOf_eq, if_pos vectors]
    exact if_pos length
  · unfold takeCauseMap
    split
    · next m map =>
      refine if_neg fun length => bad ⟨length, Decidable.of_not_not fun high => ?_⟩
      rw [causeMapOf_eq, if_neg high] at map
      cases map
    · rfl

theorem take_supplyMap (tag : r.tag = 10) :
    let i := j.image
    let v := r.value
    let f := leNat v
    let good := v.length = 3 ∧ (1 ≤ f 0 1 ∧ f 0 1 ≤ 7) ∧ (1 ≤ f 1 1 ∧ f 1 1 ≤ 7) ∧ (1 ≤ f 2 1 ∧ f 2 1 ≤ 7)
    (good → j.take r = { j with image := { i with map := {
      priority := BitVec.ofNat 3 (f 0 1), standard := BitVec.ofNat 3 (f 1 1), economy := BitVec.ofNat 3 (f 2 1) } } }) ∧
    (¬ good → j.take r = { image := { i with map := { priority := 7, standard := 7, economy := 3 } }, bad := j.bad ++ [10] }) := by
  have named {n : Nat} (within : 1 ≤ n ∧ n ≤ 7) := sourceSetOf_eq_some (Nat.one_le_iff_ne_zero.mp within.1) within.2
  have unnamed {n : Nat} (out : ¬ (1 ≤ n ∧ n ≤ 7)) : sourceSetOf n = none := sourceSetOf_eq_none (by omega)
  refine take_judged tag (by rw [judgeRecord, tag]; rfl) ?_ fun bad => ?_
  · rintro ⟨length, p, q, e⟩
    rw [takeSupplyMap, supplyMapOf_eq_some (named p) (named q) (named e)]
    exact if_pos length
  · by_cases sets : sourceSetOf (leNat r.value 0 1) = none ∨ sourceSetOf (leNat r.value 1 1) = none ∨
        sourceSetOf (leNat r.value 2 1) = none
    · rw [takeSupplyMap, supplyMapOf_eq_none sets]
    · obtain ⟨p, q, e⟩ := (not_or.mp sets).imp_right not_or.mp
      unfold takeSupplyMap
      split
      · refine if_neg fun length => bad ⟨length, ?_, ?_, ?_⟩
        · exact Decidable.of_not_not fun out => p (unnamed out)
        · exact Decidable.of_not_not fun out => q (unnamed out)
        · exact Decidable.of_not_not fun out => e (unnamed out)
      · rfl

end

/-- Settles O13. -/
theorem preloadIsJudged : Obligations.PreloadIsJudged := by
  intro s ok bytes e epochBytes n
  refine ⟨fun reading => if_pos reading, rfl, fun whole => ?_, fun broken => ?_, imageValid_iff bytes, judgeImage_invalid,
    judgeImage_valid, fun k tag len rest => ⟨?_, rfl, fun past => if_pos past, fun fits => if_neg (Nat.not_lt.mpr fits)⟩,
    fun j p => ⟨fun fits => if_pos fits, fun beyond => if_neg beyond, fun apart => if_neg (Bool.eq_false_iff.mp apart), fun meet => if_pos meet⟩,
    fun j r => ⟨take_unknown j, take_site, fun b some first => take_bay ⟨some, first⟩, take_noBay,
      fun p some first => take_pair ⟨some, first⟩, take_noPair, take_channels, take_battery, take_receiptWindow,
      take_snapshotWindow, take_errorPolicy, take_causeMap, take_supplyMap⟩⟩
  · unfold preloaded
    simp only [if_true, storedEpoch_of_match whole]
  · unfold preloaded
    simp only [if_true, storedEpoch_of_mismatch broken]
    rfl
  · cases k <;> rfl

end Sys2Proof.Machine
end

section
/-! The C-port: what an accepted access waits for, what its words do, and the class that each address has. -/

namespace Sys2Proof.Machine

/-! ## Hit-promote (R152) -/

theorem meets_iff (x : Access) (e : Entry) :
    x.meets e = true ↔ x.addr < e.addr + e.bytes.length ∧ e.addr < x.addr + 4 * x.count := by
  rw [Access.meets, rangesMeet, Bool.and_eq_true, decide_eq_true_iff, decide_eq_true_iff]

section
variable {s : State} {x : Access}

theorem judgeHit_of_misses (misses : ∀ e ∈ s.pu.queue, x.meets e = false) : s.judgeHit x = s.proceed x := by
  unfold State.judgeHit
  rw [lastMet_of_none misses]

theorem judgeHit_of_met {ahead behind : List Entry} {e : Entry} (queue : s.pu.queue = ahead ++ e :: behind) (met : x.meets e = true)
    (last : ∀ y ∈ behind, x.meets y = false) :
    s.judgeHit x = { s with pu := { s.pu with cport := .hitHeld x (ahead.length + 1) } } := by
  unfold State.judgeHit
  rw [queue, lastMet_append met last]

theorem holdUpTo_zero : s.holdUpTo x 0 = s.judgeHit x := rfl

theorem holdUpTo_pos {n : Nat} (some : 0 < n) : s.holdUpTo x n = { s with pu := { s.pu with cport := .hitHeld x n } } := by
  obtain ⟨k, rfl⟩ := Nat.exists_eq_succ_of_ne_zero (Nat.ne_of_gt some)
  rfl

theorem popHead_held {n : Nat} (held : s.pu.cport = .hitHeld x n) :
    s.popHead = { s with pu := { s.pu with queue := s.pu.queue.tail } }.holdUpTo x (n - 1) := by
  unfold State.popHead
  rw [held]

theorem popHead_unheld (unheld : ∀ y n, s.pu.cport ≠ .hitHeld y n) :
    s.popHead = { s with pu := { s.pu with queue := s.pu.queue.tail } } := by
  unfold State.popHead
  split
  · next y n held => exact absurd held (unheld y n)
  all_goals rfl

/-- The entries that a removal leaves. -/
def kept (drop : EntryKind → Bool) (e : Entry) : Bool := e.begun || !drop e.kind

/-- The part with the entries removed from its queue, before a transaction that waited for them is judged. -/
def State.emptiedOf (s : State) (drop : EntryKind → Bool) : State :=
  { s with pu := { s.pu with queue := s.pu.queue.filter (kept drop) } }

variable {drop : EntryKind → Bool}

theorem removeEntries_held {n : Nat} (held : s.pu.cport = .hitHeld x n) :
    s.removeEntries drop = (s.emptiedOf drop).holdUpTo x (x.lastMet ((s.pu.queue.take n).filter (kept drop))) := by
  unfold State.removeEntries
  rw [held]
  rfl

theorem removeEntries_unheld (unheld : ∀ y n, s.pu.cport ≠ .hitHeld y n) : s.removeEntries drop = s.emptiedOf drop := by
  unfold State.removeEntries
  split
  · next y n held => exact absurd held (unheld y n)
  all_goals rfl

theorem removeEntries_released {n : Nat} (held : s.pu.cport = .hitHeld x n)
    (gone : ∀ e ∈ (s.pu.queue.take n).filter (kept drop), x.meets e = false) :
    s.removeEntries drop = (s.emptiedOf drop).judgeHit x := by
  rw [removeEntries_held held, lastMet_of_none gone, holdUpTo_zero]

theorem removeEntries_waits {n : Nat} (held : s.pu.cport = .hitHeld x n) {ahead behind : List Entry} {e : Entry}
    (left : (s.pu.queue.take n).filter (kept drop) = ahead ++ e :: behind) (met : x.meets e = true)
    (last : ∀ y ∈ behind, x.meets y = false) : s.removeEntries drop =
      { s.emptiedOf drop with pu := { (s.emptiedOf drop).pu with cport := .hitHeld x (ahead.length + 1) } } := by
  rw [removeEntries_held held, left, lastMet_append met last, holdUpTo_pos (Nat.succ_pos _)]

/-! ## A transaction that nothing holds (R145, R146, R151) -/

theorem proceed_answered {a : Nat} {owned : List (Option Word)} (answered : ∀ o ∈ owned, o ≠ none) :
    s.proceed (.read a owned) = s.completeC true (owned.map fun o => o.getD 0) :=
  if_pos (List.all_eq_true.mpr fun o mem => Option.isSome_iff_ne_none.mpr (answered o mem))

theorem proceed_read_waits {a : Nat} {owned : List (Option Word)} (some : none ∈ owned) :
    s.proceed (.read a owned) = { s with pu := { s.pu with cport := .waiting (.read a owned) } } :=
  if_neg fun all => Bool.false_ne_true (List.all_eq_true.mp all _ some)

theorem proceed_unwritten {a : Nat} {words : List WriteWord} {copied : Bool} (cleared : ∀ k ∈ words, k.lanes = 0) :
    s.proceed (.write a words copied) = s.completeC true [] :=
  if_pos (List.all_eq_true.mpr fun k mem => beq_iff_eq.mpr (cleared k mem))

theorem proceed_write_waits {a : Nat} {words : List WriteWord} {copied : Bool} (some : ∃ k ∈ words, k.lanes ≠ 0) :
    s.proceed (.write a words copied) = { s with pu := { s.pu with cport := .waiting (.write a words copied) } } := by
  obtain ⟨k, mem, written⟩ := some
  exact if_neg fun all => written (beq_iff_eq.mp (List.all_eq_true.mp all k mem))

end

/-! ## The class of an address (R144) -/

theorem anchorClass_eq (o : Nat) : anchorClass o =
    if o < 0x04C ∨ (0x180 ≤ o ∧ o < 0x184) ∨ (0x200 ≤ o ∧ o < 0x400) then .owned
    else if o < 0x050 ∨ (0x100 ≤ o ∧ o < 0x180) then .watched
    else .plain := by
  unfold anchorClass
  refine ite_congr_iff ?_ rfl (ite_congr_iff ?_ rfl rfl)
  · simp only [Bool.or_eq_true, Bool.and_eq_true, decide_eq_true_eq, or_assoc]
  · simp only [Bool.or_eq_true, Bool.and_eq_true, decide_eq_true_eq]

theorem receiptHolds_iff (g : ReceiptGeometry) (a : Nat) :
    g.holds a = true ↔ ∃ b, g.base = some b ∧ b ≤ a ∧ a < b + 64 * g.slots := by
  unfold ReceiptGeometry.holds
  cases base : g.base with
  | none => simp
  | some b =>
    simp only [Bool.and_eq_true, decide_eq_true_eq, Option.some.injEq, exists_eq_left']
    rw [ReceiptGeometry.len, Nat.mul_comm]

theorem snapshotHolds_iff (w : SnapshotWriter) (a : Nat) :
    w.holds a = true ↔ ∃ b, w.base = some b ∧ b ≤ a ∧ a < b + 13 * w.stride := by
  unfold SnapshotWriter.holds
  cases base : w.base with
  | none => simp
  | some b =>
    simp only [Bool.and_eq_true, decide_eq_true_eq, Option.some.injEq, exists_eq_left']
    rw [SnapshotWriter.len]

theorem inAnchor_iff (a : Nat) : inAnchor a = true ↔ 0x3FFF000 ≤ a ∧ a < 0x4000000 := by
  rw [inAnchor, Bool.and_eq_true, decide_eq_true_iff, decide_eq_true_iff]
  unfold Config.anchorBase Config.anchorBytes
  omega

section
variable {s : State} {a : Nat}

theorem classOf_starting (starting : s.pu.link = .starting) : s.classOf a = .plain := if_pos starting

variable (running : s.pu.link ≠ .starting)
include running

theorem classOf_anchor (low : 0x3FFF000 ≤ a) (high : a < 0x4000000) : s.classOf a = anchorClass (a - 0x3FFF000) := by
  unfold State.classOf
  rw [if_neg running, if_pos ((inAnchor_iff a).mpr ⟨low, high⟩)]

theorem classOf_outside (low : a < 0x3FFF000) : s.classOf a =
    if s.rw.geometry.holds a then .receiptWindow else if s.sw.holds a then .snapshotWindow else .plain := by
  unfold State.classOf
  rw [if_neg running, if_neg (mt (inAnchor_iff a).mp fun within => absurd low (Nat.not_lt.mpr within.1))]

theorem classOf_owned (low : 0x3FFF000 ≤ a)
    (place : a < 0x3FFF04C ∨ (0x3FFF180 ≤ a ∧ a < 0x3FFF184) ∨ (0x3FFF200 ≤ a ∧ a < 0x3FFF400)) : s.classOf a = .owned := by
  rw [classOf_anchor running low (by omega), anchorClass_eq, if_pos (by omega)]

theorem classOf_watched (place : (0x3FFF04C ≤ a ∧ a < 0x3FFF050) ∨ (0x3FFF100 ≤ a ∧ a < 0x3FFF180)) : s.classOf a = .watched := by
  rw [classOf_anchor running (by omega) (by omega), anchorClass_eq, if_neg (by omega), if_pos (by omega)]

theorem classOf_plain (place : (0x3FFF050 ≤ a ∧ a < 0x3FFF100) ∨ (0x3FFF184 ≤ a ∧ a < 0x3FFF200) ∨
    (0x3FFF400 ≤ a ∧ a < 0x4000000)) : s.classOf a = .plain := by
  rw [classOf_anchor running (by omega) (by omega), anchorClass_eq, if_neg (by omega), if_neg (by omega)]

end

/-! ## What one word of a write does (R146, R148) -/

theorem offset_iff {a o : Nat} (positive : 0 < o) : a - Config.anchorBase = o ↔ a = 0x3FFF000 + o := by
  unfold Config.anchorBase
  omega

theorem writeOwned_eq (s : State) (attached : Bool) (a : Nat) (w : WriteWord) : s.writeOwned attached a w =
    if w.lanes = 0xF ∧ a = 0x3FFF008 ∧ w.data.getLsbD 8 = true then (if attached then s else s.startAttach)
    else if w.lanes = 0xF ∧ attached = true ∧ a = 0x3FFF040 then s.postRequest w.data
    else if w.lanes = 0xF ∧ attached = true ∧ a = 0x3FFF048 then s.select w.data
    else s.guardWrite attached a 1 w := by
  have link : a - Config.anchorBase = Config.linkOffset ↔ a = 0x3FFF008 := offset_iff (by decide)
  have post : a - Config.anchorBase = Config.postOffset ↔ a = 0x3FFF040 := offset_iff (by decide)
  have selector : a - Config.anchorBase = Config.selectorOffset ↔ a = 0x3FFF048 := offset_iff (by decide)
  unfold State.writeOwned
  refine ite_congr_iff ?_ rfl (ite_congr_iff ?_ rfl (ite_congr_iff ?_ rfl rfl))
  · simp only [fullLanes, releaseField, Bool.and_eq_true, beq_iff_eq, link, and_assoc]
  · simp only [fullLanes, Bool.and_eq_true, beq_iff_eq, post, and_assoc]
  · simp only [fullLanes, Bool.and_eq_true, beq_iff_eq, selector, and_assoc]

theorem startAttach_eq (s : State) : s.startAttach = { s with pu := { s.pu with
    link := .attaching, partRead := some { kind := .sweep 0, addr := 0x3FFF04C, count := 1 } } } := rfl

theorem acceptWrite_eq (s : State) (first : Nat) (words : List WriteWord) :
    let attached := s.pu.link == .attached
    let cls := fun i : Nat => s.classOf (first + 4 * i)
    s.acceptWrite first words = (words.zipIdx.foldl (fun u k => u.writeWord attached (cls k.2) (first + 4 * k.2) k.1) s).judgeHit
      (.write first (words.zipIdx.map fun k =>
        if cls k.2 = .watched ∨ cls k.2 = .plain then k.1 else { k.1 with lanes := 0 }) attached) := by
  intro attached cls
  have passes (c : WordClass) : c.passes = true ↔ c = .watched ∨ c = .plain := by cases c <;> decide
  have forwarded : (placed first words).map (fun w => s.forwardedWord w.1 w.2) = words.zipIdx.map fun k =>
      if cls k.2 = .watched ∨ cls k.2 = .plain then k.1 else { k.1 with lanes := 0 } := by
    rw [placed, List.map_map]
    exact List.map_congr_left fun k _ => ite_congr_iff (passes _) rfl rfl
  unfold State.acceptWrite
  dsimp only
  rw [forwarded, placed, List.foldl_map]
  rfl

/-! ## Reads, and the event word they clear (R145, R155) -/

theorem answer_eq (s : State) (a : Nat) :
    s.answer a = if s.classOf a = .owned then some (s.ownedWord (a - 0x3FFF000)) else none := rfl

theorem classOf_event_iff (s : State) : s.classOf eventWordAddr = .owned ↔ s.pu.link ≠ .starting := by
  constructor
  · intro owned starting
    rw [classOf_starting starting] at owned
    cases owned
  · intro running
    exact classOf_owned running (by decide) (by decide)

/-- The accepted read with the words that the part answers. -/
theorem acceptRead_eq (s : State) (first count : Nat) :
    let access := Access.read first ((List.range count).map fun i =>
      if s.classOf (first + 4 * i) = .owned then some (s.ownedWord (first + 4 * i - 0x3FFF000)) else none)
    s.acceptRead first count = State.judgeHit
      (match s.eventBay first count with
        | some b => s.clearEvents b
        | none => s) access := rfl

theorem eventBay_asked {s : State} {first count : Nat}
    (asks : s.pu.link ≠ .starting ∧ first ≤ 0x3FFF294 ∧ 0x3FFF294 < first + 4 * count) :
    s.eventBay first count = s.pu.selector.bind selectedBay :=
  if_pos ⟨(classOf_event_iff s).mpr asks.1, asks.2⟩

theorem eventBay_unasked {s : State} {first count : Nat}
    (unasked : ¬ (s.pu.link ≠ .starting ∧ first ≤ 0x3FFF294 ∧ 0x3FFF294 < first + 4 * count)) : s.eventBay first count = none :=
  if_neg fun asks => unasked ⟨(classOf_event_iff s).mp asks.1, asks.2⟩

theorem selectedBay_bay (b : Fin 12) {k : Fin 18} (named : k.val = b.val) : selectedBay k = some b := by
  rw [selectedBay, named]
  exact dif_pos b.isLt

theorem selectedBay_other {k : Fin 18} (other : 12 ≤ k.val) : selectedBay k = none := dif_neg (Nat.not_lt.mpr other)

/-! ## Presenting (R143, R148) -/

section
variable {s : State} {r : Request}

theorem present_taken (takes : s.takes r) : s.present r = s.accept r := by
  obtain ⟨empty, shaped, free⟩ := takes
  unfold State.present
  rw [if_neg (by rw [empty, shaped]; simp), if_neg (by rw [free]; exact Bool.false_ne_true)]

theorem present_held (empty : s.pu.cport = .empty) (holds : s.pu.link = .starting ∨ s.pu.link = .attaching)
    (anchor : inAnchor r.addr = true) (shaped : r.wellFormed = true) :
    s.present r = { s with pu := { s.pu with cport := .anchorHeld r } } := by
  have held : s.pu.link.holdsAnchor = true := by rcases holds with e | e <;> rw [e] <;> rfl
  unfold State.present
  rw [if_neg (by rw [empty, shaped]; simp), if_pos (by rw [held, anchor]; rfl)]

end

end Sys2Proof.Machine
end

section
/-! Accepted accesses, request words, and what a controller transaction waits for. -/

namespace Sys2Proof.Machine

/-! ## The words of a write by their class (R146, R148) -/

section
variable {s : State} {a : Nat} {w : WriteWord}

/-- A word that is no request in ATTACHED: a guard write, recorded with code 1. -/
theorem writeOwned_attached (guard : w.lanes ≠ 0xF ∨ (a ≠ 0x3FFF008 ∧ a ≠ 0x3FFF040 ∧ a ≠ 0x3FFF048) ∨
    (a = 0x3FFF008 ∧ w.data.getLsbD 8 = false)) : s.writeOwned true a w = s.guardWrite true a 1 w := by
  have unreleased : ¬ (w.lanes = 0xF ∧ a = 0x3FFF008 ∧ w.data.getLsbD 8 = true) := by
    rintro ⟨full, link, release⟩
    rcases guard with partly | ⟨other, -⟩ | ⟨-, clear⟩
    · exact partly full
    · exact other link
    · rw [clear] at release; cases release
  have unposted : ¬ (w.lanes = 0xF ∧ true = true ∧ a = 0x3FFF040) := by
    rintro ⟨full, -, post⟩
    rcases guard with partly | ⟨-, other, -⟩ | ⟨link, -⟩
    · exact partly full
    · exact other post
    · omega
  have unselected : ¬ (w.lanes = 0xF ∧ true = true ∧ a = 0x3FFF048) := by
    rintro ⟨full, -, selector⟩
    rcases guard with partly | ⟨-, -, other⟩ | ⟨link, -⟩
    · exact partly full
    · exact other selector
    · omega
  rw [writeOwned_eq, if_neg unreleased, if_neg unposted, if_neg unselected]

/-- Before ATTACHED only the release write is a request. -/
theorem writeOwned_unattached (guard : w.lanes ≠ 0xF ∨ a ≠ 0x3FFF008 ∨ w.data.getLsbD 8 = false) :
    s.writeOwned false a w = s.guardWrite false a 1 w := by
  have unreleased : ¬ (w.lanes = 0xF ∧ a = 0x3FFF008 ∧ w.data.getLsbD 8 = true) := by
    rintro ⟨full, link, release⟩
    rcases guard with partly | other | clear
    · exact partly full
    · exact other link
    · rw [clear] at release; cases release
  rw [writeOwned_eq, if_neg unreleased, if_neg (by simp), if_neg (by simp)]

theorem writeOwned_release (full : w.lanes = 0xF) (release : w.data.getLsbD 8 = true) (attached : Bool) :
    s.writeOwned attached 0x3FFF008 w = if attached then s else s.startAttach := by
  rw [writeOwned_eq, if_pos ⟨full, rfl, release⟩]

theorem writeOwned_post (full : w.lanes = 0xF) : s.writeOwned true 0x3FFF040 w = s.postRequest w.data := by
  rw [writeOwned_eq, if_neg (by simp), if_pos ⟨full, rfl, rfl⟩]

theorem writeOwned_selector (full : w.lanes = 0xF) : s.writeOwned true 0x3FFF048 w = s.select w.data := by
  rw [writeOwned_eq, if_neg (by simp), if_neg (by simp), if_pos ⟨full, rfl, rfl⟩]

end

/-- Settles O48. -/
theorem controllerAccessesAreAcceptedOrHeld : Obligations.ControllerAccessesAreAcceptedOrHeld := by
  intro s addr words count a w x drop first write read holds attached cls records drops misses heldFor
  refine ⟨fun takes => congrArg _ (present_taken takes), fun takes => congrArg _ (present_taken takes),
    fun empty holding anchor shaped => congrArg _ (present_held (r := write) empty holding anchor shaped),
    fun empty holding anchor shaped => congrArg _ (present_held (r := read) empty holding anchor shaped), acceptWrite_eq s first words,
    ⟨fun b asks selected => ?_, fun quiet => ?_⟩, rfl, rfl, writeOwned_attached, fun k guard => ?_, fun k passes => ?_,
    fun full release => ⟨writeOwned_release full release true, (writeOwned_release full release false).trans (startAttach_eq s)⟩,
    fun full => ⟨writeOwned_post full, writeOwned_selector full⟩, classOf_starting,
    fun running => ⟨fun low high => classOf_owned running low (.inl high), fun low high => classOf_watched running (.inl ⟨low, high⟩),
      fun low high => classOf_plain running (.inl ⟨low, high⟩), fun low high => classOf_watched running (.inr ⟨low, high⟩),
      fun low high => classOf_owned running (by omega) (.inr (.inl ⟨low, high⟩)),
      fun low high => classOf_plain running (.inr (.inl ⟨low, high⟩)),
      fun low high => classOf_owned running (by omega) (.inr (.inr ⟨low, high⟩)),
      fun low high => classOf_plain running (.inr (.inr ⟨low, high⟩)), fun low => ?_⟩,
    meets_iff x, fun ahead e behind queue met last => judgeHit_of_met queue met last, fun missed owned reads => ?_,
    fun missed passed copied writes => ?_, fun e => rfl,
    ⟨fun n held => ⟨fun last => ?_, fun more => ?_⟩, popHead_unheld⟩,
    fun n held => ⟨removeEntries_released held, fun ahead e behind left met last => removeEntries_waits held left met last⟩,
    removeEntries_unheld⟩
  · have named : s.eventBay first count = some b := by
      rw [eventBay_asked asks, selected]
      exact selectedBay_bay b rfl
    rw [acceptRead_eq, named]
    rfl
  · have unnamed : s.eventBay first count = none := by
      by_cases asks : s.pu.link ≠ .starting ∧ first ≤ 0x3FFF294 ∧ 0x3FFF294 < first + 4 * count
      · rw [eventBay_asked asks]
        rcases quiet with unasked | none | ⟨k, selected, other⟩
        · exact absurd asks unasked
        · rw [none]; rfl
        · rw [selected]; exact selectedBay_other other
      · exact eventBay_unasked asks
    rw [acceptRead_eq, unnamed]
  · rcases guard with rfl | rfl | ⟨rfl, guard⟩
    · rfl
    · rfl
    · exact writeOwned_unattached guard
  · rcases passes with rfl | rfl <;> exact ⟨rfl, rfl⟩
  · intro inReceipts inSnapshots
    rw [classOf_outside running low]
    have receipts := receiptHolds_iff s.rw.geometry a
    have snapshots := snapshotHolds_iff s.sw a
    exact ⟨fun within => if_pos (receipts.mpr within),
      fun out within => (if_neg (mt receipts.mp out)).trans (if_pos (snapshots.mpr within)),
      fun out away => (if_neg (mt receipts.mp out)).trans (if_neg (mt snapshots.mp away))⟩
  · rw [judgeHit_of_misses missed, reads]
    exact ⟨proceed_answered, proceed_read_waits⟩
  · rw [judgeHit_of_misses missed, writes]
    exact ⟨proceed_unwritten, proceed_write_waits⟩
  · rw [popHead_held held, Nat.sub_eq_zero_of_le last, holdUpTo_zero]
  · rw [popHead_held held, holdUpTo_pos (Nat.sub_pos_of_lt more)]

/-! ## The request words (R148, R154, R155, R158) -/

section
variable {s : State}

theorem wordAddr_zero (a : Nat) : wordAddr a 0 = a := rfl

theorem wellFormed_writeOne {a : Nat} (w : WriteWord) (aligned : a % 4 = 0) (inSpace : a < 0x4000000) :
    (Request.write a [w]).wellFormed = true := by
  have count : (Request.write a [w]).count = 1 := rfl
  have addr : (Request.write a [w]).addr = a := rfl
  rw [Request.wellFormed, count, addr]
  simp only [inRange, Config.spaceBytes, Bool.and_eq_true, beq_iff_eq, decide_eq_true_eq]
  omega

/-- One full word written to a request address of the part, after which nothing is for memory. -/
theorem requestWord {t : State} {a : Nat} {v : Word} (empty : s.pu.cport = .empty)
    (settled : s.pu.link = .attached ∨ s.pu.link = .detached) (aligned : a % 4 = 0) (low : 0x3FFF000 ≤ a) (high : a < 0x3FFF04C)
    (act : s.writeOwned (s.pu.link == .attached) a (fullWord v) = t)
    (clear : ∀ e ∈ t.pu.queue, rangesMeet a 4 e.addr e.bytes.length = false) :
    s.present (.write a [fullWord v]) = t.completeC true [] := by
  have running : s.pu.link ≠ .starting := by rcases settled with e | e <;> rw [e] <;> exact LinkState.noConfusion
  have free : s.pu.link.holdsAnchor = false := by rcases settled with e | e <;> rw [e] <;> rfl
  have owned : s.classOf a = .owned := classOf_owned running low (.inl high)
  have one : s.acceptWrite a [fullWord v] = (s.writeWord (s.pu.link == .attached) (s.classOf (wordAddr a 0)) (wordAddr a 0)
      (fullWord v)).judgeHit (.write a [s.forwardedWord (wordAddr a 0) (fullWord v)] (s.pu.link == .attached)) := rfl
  have cleared : s.forwardedWord a (fullWord v) = { lanes := 0, data := v } := by rw [State.forwardedWord, owned]; rfl
  have acts : s.writeWord (s.pu.link == .attached) .owned a (fullWord v) = t := act
  rw [present_taken ⟨empty, wellFormed_writeOne _ aligned (by omega), by rw [free]; rfl⟩]
  change s.acceptWrite a [fullWord v] = _
  rw [one, wordAddr_zero, cleared, owned, acts]
  refine (judgeHit_of_misses clear).trans (proceed_unwritten fun k mem => ?_)
  rw [List.mem_singleton.mp mem]

/-- The part after a read that began at an address, the event word's bay cleared where it asks for it. -/
def State.afterRead (s : State) (a count : Nat) : State :=
  match s.eventBay a count with
  | some b => s.clearEvents b
  | none => s

theorem queue_afterRead (a count : Nat) : (s.afterRead a count).pu.queue = s.pu.queue := by
  unfold State.afterRead
  split <;> rfl

theorem acceptRead_one (a : Nat) : s.acceptRead a 1 = (s.afterRead a 1).judgeHit (.read a [s.answer (wordAddr a 0)]) := rfl

/-- A read of one word that the part answers: completed OK by the part itself. -/
theorem acceptRead_answered {a : Nat} {v : Word} (answered : s.answer a = some v)
    (clear : ∀ e ∈ s.pu.queue, rangesMeet a 4 e.addr e.bytes.length = false) :
    s.acceptRead a 1 = (s.afterRead a 1).completeC true [v] := by
  rw [acceptRead_one, wordAddr_zero, answered]
  refine (judgeHit_of_misses ?_).trans (proceed_answered fun o mem => ?_)
  · rw [queue_afterRead]
    exact clear
  · rw [List.mem_singleton.mp mem]
    exact Option.some_ne_none _

/-- A read of the event word. -/
theorem eventRead {v : Word} (empty : s.pu.cport = .empty) (settled : s.pu.link = .attached ∨ s.pu.link = .detached)
    (answered : s.answer 0x3FFF294 = some v) (clear : ∀ e ∈ s.pu.queue, rangesMeet 0x3FFF294 4 e.addr e.bytes.length = false) :
    exec .eventWordRead s = .next ((s.afterRead 0x3FFF294 1).completeC true [v]) := by
  have free : s.pu.link.holdsAnchor = false := by rcases settled with e | e <;> rw [e] <;> rfl
  have taken : s.present (.read 0x3FFF294 1) = s.acceptRead 0x3FFF294 1 :=
    present_taken ⟨empty, by decide, by rw [free]; rfl⟩
  rw [← acceptRead_answered answered clear, ← taken]
  rfl

end

theorem postRequest_eq (s : State) (v : Word) :
    let pending := (s.cu.post - s.cu.taken).toNat
    let ahead := (v.toNat + 16 - s.cu.taken.toNat) % 16
    s.postRequest v = if v.toNat ≤ 15 ∧ pending ≤ ahead ∧ ahead ≤ 8 then
        { s with cu := { s.cu with post := v.setWidth 4 } }.tryFetch
      else s.record { kind := .commandOverrun, addr := some 0x3FFF040, data := some v, detail := s.cu.taken.setWidth 32 } := by
  have detail : field s.cu.taken.toNat = s.cu.taken.setWidth 32 := by
    refine BitVec.eq_of_toNat_eq ?_
    have low := s.cu.taken.isLt
    simp [field, wordMax]
    omega
  have index : BitVec.ofNat 4 v.toNat = v.setWidth 4 := BitVec.eq_of_toNat_eq (by simp)
  rw [← detail, ← index]
  rfl

theorem select_named (s : State) {v : Word} {k : Fin 18} (named : v.toNat = k.val) :
    s.select v = { s with pu := { s.pu with selector := some k } } := by
  have low : v.toNat < 18 := named ▸ k.isLt
  have same : (⟨v.toNat, low⟩ : Fin 18) = k := Fin.ext named
  unfold State.select
  rw [dif_pos low, same]

theorem select_none (s : State) {v : Word} (high : 17 < v.toNat) :
    s.select v = { s with pu := { s.pu with selector := none } } := by
  unfold State.select
  rw [dif_neg (by omega)]

theorem ownedWord_view (s : State) {o : Nat} (low : 0x200 ≤ o) : s.ownedWord o = wordAt s.windowWords ((o - 0x200) / 4) := by
  unfold State.ownedWord
  unfold Config.postOffset Config.takenOffset Config.selectorOffset Config.pendingOffset Config.viewOffset
  rw [if_neg (by omega), if_neg (by omega), if_neg (by omega), if_neg (by omega), if_neg (by omega), if_pos low]

theorem answer_event {s : State} (settled : s.pu.link = .attached ∨ s.pu.link = .detached) :
    s.answer 0x3FFF294 = some (wordAt s.windowWords 37) := by
  have running : s.pu.link ≠ .starting := by rcases settled with e | e <;> rw [e] <;> exact LinkState.noConfusion
  have offset : 0x3FFF294 - 0x3FFF000 = 0x294 := by decide
  rw [answer_eq, if_pos (classOf_owned running (by decide) (by decide)), offset, ownedWord_view s (by decide)]

theorem afterRead_event {s : State} (settled : s.pu.link = .attached ∨ s.pu.link = .detached) : s.afterRead 0x3FFF294 1 =
    match s.pu.selector.bind selectedBay with
    | some b => s.clearEvents b
    | none => s := by
  have running : s.pu.link ≠ .starting := by rcases settled with e | e <;> rw [e] <;> exact LinkState.noConfusion
  unfold State.afterRead
  rw [eventBay_asked ⟨running, by decide, by decide⟩]

section
variable {s t : State} {v : Word}

theorem releaseWrite_of_present (h : s.present (.write 0x3FFF008 [fullWord v]) = t) : exec (.releaseWrite v) s = .next t :=
  congrArg Host.Outcome.next h

theorem postIndexWrite_of_present (h : s.present (.write 0x3FFF040 [fullWord v]) = t) : exec (.postIndexWrite v) s = .next t :=
  congrArg Host.Outcome.next h

theorem viewSelectorWrite_of_present (h : s.present (.write 0x3FFF048 [fullWord v]) = t) :
    exec (.viewSelectorWrite v) s = .next t := congrArg Host.Outcome.next h

end

/-- Settles O49. -/
theorem requestWordsAct : Obligations.RequestWordsAct := by
  intro s v k b attached clear pending ahead empty
  refine ⟨fun detached release free => ?_, fun link release free => ?_, fun link free => ?_, fun detached free => ?_,
    fun low first last => (postRequest_eq s v).trans (if_pos ⟨low, first, last⟩), fun out => ?_, fun link free named => ?_,
    fun link free high => ?_, fun settled free selected => ?_, fun settled free none => ?_⟩
  · have act : s.writeOwned (s.pu.link == .attached) 0x3FFF008 (fullWord v) = s.startAttach := by
      rw [detached]
      exact writeOwned_release (w := fullWord v) rfl release false
    have done : s.startAttach.completeC true [] = { s with pu := { s.pu with
        link := .attaching, partRead := some { kind := .sweep 0, addr := 0x3FFF04C, count := 1 }
        completion := some { ok := true, data := [] } } } := by
      rw [startAttach_eq, State.completeC, ← empty]
    rw [← done]
    exact releaseWrite_of_present (requestWord empty (.inr detached) (by decide) (by decide) (by decide) act free)
  · have act : s.writeOwned (s.pu.link == .attached) 0x3FFF008 (fullWord v) = s := by
      rw [show s.pu.link = .attached from link]
      exact writeOwned_release (w := fullWord v) rfl release true
    exact releaseWrite_of_present (requestWord empty (.inl link) (by decide) (by decide) (by decide) act free)
  · have act : s.writeOwned (s.pu.link == .attached) 0x3FFF040 (fullWord v) = s.postRequest v := by
      rw [show s.pu.link = .attached from link]
      exact writeOwned_post rfl
    exact postIndexWrite_of_present (requestWord empty (.inl link) (by decide) (by decide) (by decide) act free)
  · have act : s.writeOwned (s.pu.link == .attached) 0x3FFF040 (fullWord v) = s.guardWrite false 0x3FFF040 1 (fullWord v) := by
      rw [detached]
      exact writeOwned_unattached (.inr (.inl (by decide)))
    exact postIndexWrite_of_present (requestWord empty (.inr detached) (by decide) (by decide) (by decide) act free)
  · exact (postRequest_eq s v).trans (if_neg (by rintro ⟨low, first, last⟩; omega))
  · have act : s.writeOwned (s.pu.link == .attached) 0x3FFF048 (fullWord v) =
        { s with pu := { s.pu with selector := some k } } := by
      rw [show s.pu.link = .attached from link]
      exact (writeOwned_selector rfl).trans (select_named s named)
    exact viewSelectorWrite_of_present (requestWord empty (.inl link) (by decide) (by decide) (by decide) act free)
  · have act : s.writeOwned (s.pu.link == .attached) 0x3FFF048 (fullWord v) = { s with pu := { s.pu with selector := none } } := by
      rw [show s.pu.link = .attached from link]
      exact (writeOwned_selector rfl).trans (select_none s high)
    exact viewSelectorWrite_of_present (requestWord empty (.inl link) (by decide) (by decide) (by decide) act free)
  · have bay : s.pu.selector.bind selectedBay = some b := by rw [selected]; exact selectedBay_bay b rfl
    have shown : wordAt s.windowWords 37 = (s.bay b).events.setWidth 32 := by
      unfold State.windowWords State.viewOf
      rw [selected]
      dsimp only
      rw [selectedBay_bay b rfl]
      rfl
    rw [eventRead empty settled (answer_event settled) free, afterRead_event settled, bay, shown]
    rfl
  · have unnamed : s.pu.selector.bind selectedBay = Option.none := by rw [none]; rfl
    have shown : wordAt s.windowWords 37 = 0 := by
      unfold State.windowWords
      rw [none]
      rfl
    rw [eventRead empty settled (answer_event settled) free, afterRead_event settled, unnamed, shown]

end Sys2Proof.Machine
end

section
/-! CRST: the command in execution, the controller's side, and the transaction that waits in the C-port. -/

namespace Sys2Proof.Machine

/-! ## What judging and removing leave of the part -/

/-- What a transaction's own judgement can change: where it stands, and the completion it is given. -/
theorem proceed_eq (s : State) (x : Access) :
    ∃ c k, s.proceed x = { s with pu := { s.pu with cport := c, completion := k } } := by
  unfold State.proceed
  split <;> split <;> exact ⟨_, _, rfl⟩

theorem judgeHit_eq (s : State) (x : Access) :
    ∃ c k, s.judgeHit x = { s with pu := { s.pu with cport := c, completion := k } } := by
  unfold State.judgeHit
  split
  · exact proceed_eq s x
  · exact ⟨_, s.pu.completion, rfl⟩

theorem holdUpTo_eq (s : State) (x : Access) (n : Nat) :
    ∃ c k, s.holdUpTo x n = { s with pu := { s.pu with cport := c, completion := k } } := by
  unfold State.holdUpTo
  split
  · exact judgeHit_eq s x
  · exact ⟨_, s.pu.completion, rfl⟩

theorem removeEntries_eq (s : State) (drop : EntryKind → Bool) : ∃ c k, s.removeEntries drop =
    { s with pu := { s.pu with queue := s.pu.queue.filter (kept drop), cport := c, completion := k } } := by
  unfold State.removeEntries
  split
  · obtain ⟨c, k, held⟩ := holdUpTo_eq (s.emptiedOf drop) _ _
    exact ⟨c, k, held⟩
  all_goals exact ⟨s.pu.cport, s.pu.completion, rfl⟩

/-- Where a transaction stands after its judgement depends on the queue alone, and the completion it leaves on the old one. -/
theorem judgeHit_congr {s t : State} (x : Access) (queue : t.pu.queue = s.pu.queue) (completion : t.pu.completion = s.pu.completion) :
    (t.judgeHit x).pu.cport = (s.judgeHit x).pu.cport ∧ (t.judgeHit x).pu.completion = (s.judgeHit x).pu.completion := by
  unfold State.judgeHit
  rw [queue]
  split
  · unfold State.proceed
    split <;> split
    · exact ⟨rfl, rfl⟩
    · exact ⟨rfl, completion⟩
    · exact ⟨rfl, rfl⟩
    · exact ⟨rfl, completion⟩
  · exact ⟨rfl, completion⟩

/-! ## The controller's side cleared (R147, R156, R163, R169) -/

/-- The part as CRST takes it before entries leave the queue. -/
def State.detachedByCrst (s : State) : State := { s with pu := s.pu.afterCrst, cu := {}, sp := s.sp.discard }

/-- What is behind the C-port after CRST: the entries removed, and the Notice Unit reset. -/
theorem clearedByCrst_eq (s : State) : ∃ c k, s.clearedByCrst =
    { s with
      pu := { s.pu.afterCrst with
        queue := (s.pu.queue.filter (kept EntryKind.isMessage)).map Entry.orphan, cport := c, completion := k }
      cu := {}, sp := s.sp.discard
      nu := { enable := false, allMask := true, causeMap := s.nu.causeMap
              vectors := Vector.replicate 8 { usable := s.addrUsable 0 } } } ∧
    c = (s.detachedByCrst.removeEntries EntryKind.isMessage).pu.cport ∧
    k = (s.detachedByCrst.removeEntries EntryKind.isMessage).pu.completion := by
  obtain ⟨c, k, removed⟩ := removeEntries_eq s.detachedByCrst EntryKind.isMessage
  refine ⟨c, k, ?_, by rw [removed], by rw [removed]⟩
  change ((s.detachedByCrst.removeEntries EntryKind.isMessage).orphanReplies).resetNotices = _
  rw [removed]
  rfl

theorem discard_eq : SettingsOp.discard = fun op => match op with
    | .commandRead offsets _ => .commandRead offsets true
    | .commandWrite bytes _ => .commandWrite bytes true
    | other => other :=
  funext fun op => by cases op <;> rfl

theorem completeExecution_executing {s : State} {position : BitVec 4} {words : List Word}
    (executing : s.cu.step = .executing position words false) : s.completeExecution = (commandEffect (decodeCommand words) s).1 := by
  unfold State.completeExecution
  rw [executing]

theorem completeExecution_idle {s : State} (idle : ∀ position words, s.cu.step ≠ .executing position words false) :
    s.completeExecution = s := by
  unfold State.completeExecution
  split
  · next position words executing => exact absurd executing (idle position words)
  all_goals rfl

theorem isMessage_iff (k : EntryKind) : k.isMessage = true ↔ (∃ v, k = .notice v) ∨ ∃ orphan, k = .reply orphan := by
  cases k <;> simp [EntryKind.isMessage]

/-! ## The transaction in the C-port -/

section
variable {d : State}

theorem cport_unheld (unheld : ∀ a n, d.pu.cport ≠ .hitHeld a n) :
    (d.detachedByCrst.removeEntries EntryKind.isMessage).pu.cport = d.pu.cport.forget ∧
    (d.detachedByCrst.removeEntries EntryKind.isMessage).pu.completion = d.pu.completion := by
  have stays (y : Access) (n : Nat) : d.detachedByCrst.pu.cport ≠ .hitHeld y n := by
    change d.pu.cport.forget ≠ _
    cases port : d.pu.cport with
    | hitHeld a n => exact absurd port (unheld a n)
    | _ => exact CPort.noConfusion
  rw [removeEntries_unheld stays]
  exact ⟨rfl, rfl⟩

variable {a : Access} {n : Nat}

/-- A held transaction is judged afresh when nothing is left of what it waited for, and else waits for the last it touches. -/
theorem cport_held (held : d.pu.cport = .hitHeld a n) :
    let left := d.emptiedOf EntryKind.isMessage
    let awaited := (d.pu.queue.take n).filter (kept EntryKind.isMessage)
    let after := d.detachedByCrst.removeEntries EntryKind.isMessage
    ((∀ e ∈ awaited, a.forget.meets e = false) →
      after.pu.cport = (left.judgeHit a.forget).pu.cport ∧ after.pu.completion = (left.judgeHit a.forget).pu.completion) ∧
    (∀ ahead e behind, awaited = ahead ++ e :: behind → a.forget.meets e = true → (∀ y ∈ behind, a.forget.meets y = false) →
      after.pu.cport = .hitHeld a.forget (ahead.length + 1) ∧ after.pu.completion = d.pu.completion) := by
  have port : d.detachedByCrst.pu.cport = .hitHeld a.forget n := congrArg CPort.forget held
  refine ⟨fun gone => ?_, fun ahead e behind left met last => ?_⟩
  · rw [removeEntries_released port gone]
    exact judgeHit_congr a.forget rfl rfl
  · rw [removeEntries_waits port left met last]
    exact ⟨rfl, rfl⟩

end

/-- Settles O11. -/
theorem crstResetsTheControllerSide : Obligations.CrstResetsTheControllerSide := by
  intro s
  obtain ⟨c, k, cleared, port, done⟩ := clearedByCrst_eq s.completeExecution
  refine ⟨s.completeExecution.clearedByCrst, rfl, ?_⟩
  have frame := clearedByCrst_frame s.completeExecution
  intro d mark
  have marked : mark = SettingsOp.discard := discard_eq.symm
  have vectors (v : Fin 8) : (Vector.replicate 8 ({ usable := d.addrUsable 0 } : NoticeVector))[v] = { usable := d.addrUsable 0 } :=
    Vector.getElem_replicate v.isLt
  have unheldPort (unheld : ∀ a n, d.pu.cport ≠ .hitHeld a n) := cport_unheld unheld
  have keepsPort {p : CPort} (stands : d.pu.cport = p) (unheld : ∀ a n, p ≠ .hitHeld a n) : c = p.forget :=
    port.trans ((unheldPort (stands ▸ unheld)).1.trans (congrArg _ stands))
  refine ⟨fun words position executing => completeExecution_executing executing,
    fun idle => completeExecution_idle fun position words => idle words position, ?_⟩
  rw [show State.clearedByCrst d = _ from cleared, marked]
  refine ⟨?_, rfl, rfl, rfl, rfl, rfl, rfl, fun r discard reading => ?_, fun quiet => ?_, rfl,
    fun a w copied waiting => keepsPort waiting nofun, fun a w copied granted => keepsPort granted nofun,
    fun a owned stands => ?_, fun r stands => ?_, fun a n held => ?_, fun unheld => done.trans (unheldPort unheld).2,
    isMessage_iff, fun e => ⟨fun orphan => orphan_reply, fun other => orphan_of_not_reply other⟩, rfl, rfl, rfl, vectors, ?_⟩
  · change d.pu.link.afterCrst = _
    cases d.pu.link <;> rfl
  · exact congrArg MPort.discard reading
  · change d.pu.mport.discard = d.pu.mport
    cases stands : d.pu.mport with
    | read r discard => exact absurd stands (quiet r discard)
    | _ => rfl
  · rcases stands with stands | stands <;> rw [stands] <;> exact keepsPort stands nofun
  · rcases stands with stands | stands <;> rw [stands] <;> exact keepsPort stands nofun
  · intro access keep awaited judged
    have forgotten : access = a.forget := by cases a <;> rfl
    obtain ⟨released, waits⟩ := cport_held held
    rw [forgotten]
    refine ⟨fun gone => ?_, fun ahead e behind left met last => ?_⟩
    · exact ⟨port.trans (released gone).1, done.trans (released gone).2⟩
    · exact ⟨port.trans (waits ahead e behind left met last).1, done.trans (waits ahead e behind left met last).2⟩
  · rw [← cleared]
    exact frame

end Sys2Proof.Machine
end

section
/-! The slots of the command ring: a slot written for a ring command is read back as that command. -/

namespace Sys2Proof

section
variable (code bay : Byte) (tag : BitVec 16) (arguments : List Word) (reference : BitVec 128)

theorem length_slotOf (head : Word) {arguments : List Word} (short : arguments.length ≤ 7) :
    (slotOf head arguments reference).length = 12 := by
  simp only [slotOf, List.length_append, List.length_cons, List.length_replicate, List.length_map, List.length_range]
  omega

theorem slotCode_slotOf : slotCode (slotOf (slotHead code bay tag) arguments reference) = code := slotCode_head code bay tag _

theorem slotBay_slotOf : slotBay (slotOf (slotHead code bay tag) arguments reference) = bay := slotBay_head code bay tag _

theorem slotTag_slotOf : slotTag (slotOf (slotHead code bay tag) arguments reference) = tag := slotTag_head code bay tag _

/-- The four words of a reference, the first byte lowest. -/
theorem append_words : reference.extractLsb' 96 32 ++ reference.extractLsb' 64 32 ++ reference.extractLsb' 32 32 ++
    reference.extractLsb' 0 32 = reference := by
  refine BitVec.eq_of_getLsbD_eq fun i low => ?_
  simp only [BitVec.getLsbD_append, BitVec.getLsbD_extractLsb']
  by_cases first : i < 32
  · simp [first]
  by_cases second : i < 64
  · simp [first, show i - 32 < 32 by omega, show 32 + (i - 32) = i by omega]
  by_cases third : i < 96
  · simp [first, show ¬ i - 32 < 32 by omega, show i - 32 - 32 < 32 by omega, show 64 + (i - 32 - 32) = i by omega]
  · simp [first, show ¬ i - 32 < 32 by omega, show ¬ i - 32 - 32 < 32 by omega, show i - 32 - 32 - 32 < 32 by omega,
      show 96 + (i - 32 - 32 - 32) = i by omega]

theorem slotReference_two (head cls quota : Word) : slotReference (slotOf head [cls, quota] reference) = reference :=
  append_words reference

end

section
variable {code bay : Byte} {tag : BitVec 16} {arguments : List Word} {reference : BitVec 128} {words : List Word} {c : Instr}

/-- A slot with room for its arguments is read back when its code and its words spell the command. -/
theorem readsBack (short : arguments.length ≤ 7) (spells : decodeCommand (slotOf (slotHead code bay tag) arguments reference) = c)
    (slot : some (slotOf (slotHead code bay tag) arguments reference) = some words) :
    words.length = 12 ∧ decodeCommand words = c ∧ slotTag words = tag := by
  cases slot
  exact ⟨length_slotOf reference _ short, spells, slotTag_slotOf code bay tag arguments reference⟩

end

theorem known_of_toNat {code : Byte} {n : Nat} (named : code.toNat = n) (known : knownCodes.contains (BitVec.ofNat 8 n) = true) :
    knownCodes.contains code = true := by
  rw [← named, BitVec.ofNat_toNat, BitVec.setWidth_eq] at known
  exact known

/-- A code that none of the commands has. -/
theorem decodeCommand_unknown {words : List Word} (unknown : ¬ knownCodes.contains (slotCode words) = true) :
    decodeCommand words = .unknownCommand (slotCode words) := by
  unfold decodeCommand
  dsimp only
  split
  case h_23 => rfl
  all_goals next named => exact absurd (known_of_toNat named (by decide)) unknown

/-- Settles O8. -/
theorem slotsReadBack : Obligations.SlotsReadBack := by
  intro c tag words h
  cases c with
  | authorise bay cls quota reference =>
    refine readsBack (by simp) ?_ h
    rw [decodeCommand, slotCode_slotOf, slotBay_slotOf, slotReference_two]
    rfl
  | stop => exact readsBack (by simp) (by rw [decodeCommand, slotCode_slotOf, slotBay_slotOf]; rfl) h
  | extendQuota => exact readsBack (by simp) (by rw [decodeCommand, slotCode_slotOf, slotBay_slotOf]; rfl) h
  | releaseConfirm => exact readsBack (by simp) (by rw [decodeCommand, slotCode_slotOf, slotBay_slotOf]; rfl) h
  | releaseCancel => exact readsBack (by simp) (by rw [decodeCommand, slotCode_slotOf, slotBay_slotOf]; rfl) h
  | maintenanceOn => exact readsBack (by simp) (by rw [decodeCommand, slotCode_slotOf, slotBay_slotOf]; exact if_pos (show (1 : Word).getLsbD 0 = true by decide)) h
  | maintenanceOff => exact readsBack (by simp) (by rw [decodeCommand, slotCode_slotOf, slotBay_slotOf]; exact if_neg (show ¬ (0 : Word).getLsbD 0 = true by decide)) h
  | clearBay => exact readsBack (by simp) (by rw [decodeCommand, slotCode_slotOf, slotBay_slotOf]; rfl) h
  | setBay => exact readsBack (by simp) (by rw [decodeCommand, slotCode_slotOf, slotBay_slotOf]; rfl) h
  | setSite => exact readsBack (by simp) (by rw [decodeCommand, slotCode_slotOf, slotBay_slotOf]; rfl) h
  | setSupplyMap => exact readsBack (by simp) (by rw [decodeCommand, slotCode_slotOf, slotBay_slotOf]; rfl) h
  | setBattery => exact readsBack (by simp) (by rw [decodeCommand, slotCode_slotOf, slotBay_slotOf]; rfl) h
  | setTime => exact readsBack (by simp) (by rw [decodeCommand, slotCode_slotOf, slotBay_slotOf]; rfl) h
  | collect => exact readsBack (by simp) (by rw [decodeCommand, slotCode_slotOf, slotBay_slotOf]; rfl) h
  | setReceiptWindow => exact readsBack (by simp) (by rw [decodeCommand, slotCode_slotOf, slotBay_slotOf]; rfl) h
  | setSnapshotWindow => exact readsBack (by simp) (by rw [decodeCommand, slotCode_slotOf, slotBay_slotOf]; rfl) h
  | causeMap => exact readsBack (by simp) (by rw [decodeCommand, slotCode_slotOf, slotBay_slotOf]; rfl) h
  | clearErrors => exact readsBack (by simp) (by rw [decodeCommand, slotCode_slotOf, slotBay_slotOf]; rfl) h
  | ackError => exact readsBack (by simp) (by rw [decodeCommand, slotCode_slotOf, slotBay_slotOf]; rfl) h
  | setErrorPolicy => exact readsBack (by simp) (by rw [decodeCommand, slotCode_slotOf, slotBay_slotOf]; rfl) h
  | clearHold => exact readsBack (by simp) (by rw [decodeCommand, slotCode_slotOf, slotBay_slotOf]; rfl) h
  | settingsRead => exact readsBack (by simp) (by rw [decodeCommand, slotCode_slotOf, slotBay_slotOf]; rfl) h
  | settingsWrite => exact readsBack (by simp) (by rw [decodeCommand, slotCode_slotOf, slotBay_slotOf]; rfl) h
  | unknownCommand code =>
    unfold encodeSlot at h
    dsimp only at h
    split at h
    · cases h
    · next unknown =>
      refine readsBack (by simp) ?_ h
      rw [decodeCommand_unknown (by rw [slotCode_slotOf]; exact unknown), slotCode_slotOf]
  | _ => cases h

end Sys2Proof
end

section
/-! The end of STARTING: the preloaded values taken, boundary 0, and what an anchor access that was held then meets. -/

namespace Sys2Proof.Machine

/-! ## What causes, recordings and boundaries leave standing -/

/-- What no cause, recording or part of a plan changes: the link, the C-port, and the cause map. -/
def State.standing (s : State) : LinkState × CPort × Vector (Fin 8) 8 := (s.pu.link, s.pu.cport, s.nu.causeMap)

section
variable (s : State)

theorem standing_queueNotice (v : Fin 8) : (s.queueNotice v).standing = s.standing := rfl

theorem standing_fire (c : Cause) : (s.fire c).standing = s.standing := by
  unfold State.fire
  dsimp only
  repeat' split
  all_goals rfl

theorem standing_record (r : Recording) : (s.record r).standing = s.standing := by
  unfold State.record
  dsimp only
  repeat' split
  · rfl
  · rw [standing_fire, standing_fire]
    rfl
  · rw [standing_fire]
    rfl

theorem standing_releaseVectors : s.releaseVectors.standing = s.standing := by
  refine keeps_foldl (P := fun t : State => t.standing = s.standing) (fun t v kept => ?_) _ rfl
  rw [← kept]
  unfold State.releaseVector
  dsimp only
  repeat' split
  all_goals rfl

theorem standing_batteryEvent (b : BatteryAccount) : (s.batteryEvent b).standing = s.standing := by
  unfold State.batteryEvent
  dsimp only
  split
  · exact standing_fire ..
  · rfl

theorem standing_queueSnapshot (i : Fin 13) (bytes : List Byte) : (s.queueSnapshot i bytes).standing = s.standing := by
  unfold State.queueSnapshot
  split
  · rfl
  · unfold State.queueRecord
    split <;> rfl

theorem standing_takePlan (b : Fin 12) (p : PlanBay) : (s.takePlan b p).standing = s.standing := by
  have granted (y : Bay) (c : Prop) [Decidable c] (f : Channel → Channel) :
      (if c then (s.setBay b y).onChannel (bayChannel b) f else s.setBay b y).standing = s.standing := by
    split <;> rfl
  unfold State.takePlan
  dsimp only
  split
  · exact (standing_fire ..).trans (granted _ _ _)
  · exact granted _ _ _

theorem standing_takePart (p : Plan) (snapshot : Bool) (part : BoundaryPart) :
    (s.takePart p snapshot part).standing = s.standing := by
  cases part with
  | bay b =>
    unfold State.takePart
    dsimp only
    split
    · exact (standing_queueSnapshot ..).trans (standing_takePlan ..)
    · exact standing_takePlan ..
  | setpoint => exact standing_batteryEvent ..
  | trigger =>
    unfold State.takePart
    dsimp only
    split
    · exact standing_queueSnapshot ..
    · rfl

theorem standing_takeParts (p : Plan) (snapshot : Bool) (parts : List BoundaryPart) :
    (s.takeParts p snapshot parts).standing = s.standing :=
  keeps_foldl (P := fun t : State => t.standing = s.standing) (fun t part kept => (standing_takePart t p snapshot part).trans kept)
    parts rfl

theorem standing_latch : s.latch.standing = s.standing := by
  unfold State.latch
  dsimp only
  split
  · exact standing_record ..
  · rfl

end

/-! ## What stays of the log's policy -/

section
variable (s : State)

/-- The masks and severities of the log (R170). -/
def ErrorLog.policy (el : ErrorLog) : BitVec 12 × BitVec 12 := (el.masked, el.holds)

theorem policy_record (r : Recording) : (s.record r).el.policy = s.el.policy := by
  rw [el_record, ErrorLog.policy, masked_take, holds_take]
  rfl

theorem policy_latch : s.latch.el.policy = s.el.policy := by
  unfold State.latch
  dsimp only
  split
  · exact policy_record ..
  · rfl

/-- Once in HOLD a recording leaves the site there (R173). -/
theorem hold_record (r : Recording) (held : s.el.hold = true) : (s.record r).el.hold = true := by
  rw [el_record]
  unfold ErrorLog.take ErrorLog.append
  dsimp only
  repeat' split
  all_goals simp [held]

theorem hold_latch (held : s.el.hold = true) : s.latch.el.hold = true := by
  unfold State.latch
  dsimp only
  split
  · exact hold_record _ _ held
  · exact held

theorem status_record {k : ErrorKind} (r : Recording) (marked : inKindSet s.el.status k = true) :
    inKindSet (s.record r).el.status k = true := by
  rw [el_record, status_take, inKindSet_or, marked, Bool.true_or]

theorem status_record_self (r : Recording) : inKindSet (s.record r).el.status r.kind = true := by
  rw [el_record, status_take, inKindSet_or, inKindSet_bit_self, Bool.or_true]

theorem status_latch_of_marked {k : ErrorKind} (marked : inKindSet s.el.status k = true) :
    inKindSet s.latch.el.status k = true := by
  unfold State.latch
  dsimp only
  split
  · exact status_record _ _ marked
  · exact marked

end

/-! ## The four steps of the end of STARTING (R181) -/

/-- The preloaded values of every block, before usability is judged. -/
def State.withImage (s : State) (f : Preloaded) : State :=
  { s.endSettings with
    meterConfig := f.image.channels
    bays := Vector.ofFn fun b : Fin 12 => (s.bay b).start f.image.bays[b]
    pairs := f.image.pairs
    al := { s.al with limit := f.image.limit, period := f.image.period, map := f.image.map }
    sw := f.image.snapshot
    rw := s.rw.start f.image.receipt f.epoch
    nu := { s.nu with causeMap := f.image.causeMap }
    el := s.el.start f.image.masked f.image.holds
    pu := { s.pu with link := .detached } }

/-- Every block has taken its preloaded values. -/
def State.imaged (s : State) : State := s.endSettings.takeImage s.sp.found

/-- What was found bad is recorded. -/
def State.startRecorded (s : State) (ok : Bool) : State := s.imaged.recordStart ok s.sp.found

/-- The Battery Account and the feedback watches have started. -/
def State.startWatched (s : State) (ok : Bool) : State :=
  ((s.startRecorded ok).batteryEvent ((s.startRecorded ok).ba.start s.sp.found.image)).watchAll

/-- Boundary 0 has applied the empty plan. -/
def State.afterBoundaryZero (s : State) (ok : Bool) (order : List Nat) : State :=
  (s.startWatched ok).boundary (emptyPlan (s.startWatched ok).al.period) { parts := order }

theorem endStarting_eq (s : State) (ok : Bool) (order : List Nat) :
    s.endStarting ok order = (s.afterBoundaryZero ok order).acceptHeld := rfl

section
variable (s : State) (ok : Bool) (order : List Nat)

theorem watched_frame : State.changesOnly [.bays, .ba, .sp, .el, .nu, .pu] s.imaged (s.startWatched ok) :=
  changesOnly_comp (changesOnly_comp (rs := [.ba, .sp, .el, .nu, .pu]) (recordStart_frame s.imaged ok s.sp.found)
    (batteryEvent_frame _ _) rfl) (watchAll_frame _) rfl

theorem afterBoundaryZero_frame :
    State.changesOnly [.bays, .channels, .al, .ba, .sp, .el, .nu, .pu] s.imaged (s.afterBoundaryZero ok order) :=
  changesOnly_comp (watched_frame s ok) (boundary_plain_frame ..) rfl

/-! ### What stands after the image is taken -/

theorem imaged_eq : s.imaged = (s.withImage s.sp.found).judgeUsable.releaseVectors := rfl

theorem standing_imaged : s.imaged.standing = (.detached, s.pu.cport, s.sp.found.image.causeMap) := by
  rw [imaged_eq, standing_releaseVectors]
  rfl

theorem al_imaged : s.imaged.al =
    { s.al with limit := s.sp.found.image.limit, period := s.sp.found.image.period, map := s.sp.found.image.map } := by
  rw [imaged_eq, al_releaseVectors]
  rfl

theorem el_imaged : s.imaged.el = s.el.start s.sp.found.image.masked s.sp.found.image.holds := by
  rw [imaged_eq, el_releaseVectors]
  rfl

theorem sp_imaged : s.imaged.sp = { s.sp with inFlight := none } := by
  rw [imaged_eq, sp_releaseVectors]
  rfl

theorem ba_imaged : s.imaged.ba = s.ba := by
  rw [imaged_eq, ba_releaseVectors]
  rfl

theorem bay_imaged (b : Fin 12) : s.imaged.bay b = (s.bay b).start s.sp.found.image.bays[b] := by
  have bays : s.imaged.bays = (s.withImage s.sp.found).bays := by
    rw [imaged_eq]
    exact ((releaseVectors_frame _).same .bays (by decide)).symm
  rw [State.bay, bays]
  simp [State.withImage]

/-! ### The recordings -/

theorem keeps_recordStart {P : State → Prop} (record : ∀ (t : State) (r : Recording), P t → P (t.record r))
    (retry : ∀ t : State, P t → P { t with sp := { t.sp with retryTimer := some Config.retryMs } }) (f : Preloaded) {t : State}
    (h : P t) : P (t.recordStart ok f) := by
  have recorded := keeps_foldl (P := P) (f := fun u d => u.record { kind := .settingsBad, detail := field d })
    (fun u _ hu => record u _ hu) f.bad h
  unfold State.recordStart
  dsimp only
  split
  · exact recorded
  · exact record _ _ (retry _ recorded)

/-- The details found bad recorded one after another. -/
def State.recordBad (t : State) (bad : List Nat) : State :=
  bad.foldl (fun u d => u.record { kind := .settingsBad, detail := field d }) t

theorem recordStart_ok (t : State) (f : Preloaded) : t.recordStart true f = t.recordBad f.bad := rfl

theorem recordStart_failed (t : State) (f : Preloaded) : t.recordStart false f =
    { t.recordBad f.bad with sp := { (t.recordBad f.bad).sp with retryTimer := some Config.retryMs } }.record
      { kind := .epochUnsaved, detail := 0 } := rfl

theorem policy_recordBad (t : State) (bad : List Nat) : (t.recordBad bad).el.policy = t.el.policy :=
  keeps_foldl (P := fun u : State => u.el.policy = t.el.policy) (fun u _ kept => (policy_record u _).trans kept) bad rfl

theorem sp_recordBad (t : State) (bad : List Nat) : (t.recordBad bad).sp = t.sp :=
  keeps_foldl (P := fun u : State => u.sp = t.sp) (fun u _ kept => (sp_record u _).trans kept) bad rfl

/-- A detail found bad marks SETTINGS_BAD, whatever is recorded after it. -/
theorem status_recordStart_bad (t : State) {f : Preloaded} (bad : f.bad ≠ []) :
    inKindSet (t.recordStart ok f).el.status .settingsBad = true := by
  obtain ⟨d, rest, found⟩ := List.exists_cons_of_ne_nil bad
  have marked : inKindSet (t.recordBad f.bad).el.status .settingsBad = true := by
    rw [found]
    exact keeps_foldl (P := fun u : State => inKindSet u.el.status .settingsBad = true) (fun u _ kept => status_record u _ kept) rest
      (status_record_self t { kind := .settingsBad, detail := field d })
  cases ok with
  | true => exact marked
  | false =>
    rw [recordStart_failed]
    exact status_record _ _ marked

theorem sp_recordStart (t : State) (f : Preloaded) :
    (t.recordStart ok f).sp = { t.sp with retryTimer := if ok then t.sp.retryTimer else some 10000 } := by
  cases ok with
  | true => exact sp_recordBad t f.bad
  | false =>
    rw [recordStart_failed, sp_record]
    exact congrArg (fun p : SettingsPort => { p with retryTimer := some 10000 }) (sp_recordBad t f.bad)

theorem ba_startRecorded : (s.startRecorded ok).ba = s.ba :=
  ((recordStart_frame s.imaged ok s.sp.found).same .ba (by decide)).symm.trans (ba_imaged s)

/-! ### The parts at boundary 0 -/

theorem al_startWatched : (s.startWatched ok).al = s.imaged.al := ((watched_frame s ok).same .al (by decide)).symm

theorem standing_recordStart (t : State) (f : Preloaded) : (t.recordStart ok f).standing = t.standing :=
  keeps_recordStart (P := fun u : State => u.standing = t.standing) ok (fun u r kept => (standing_record u r).trans kept)
    (fun _ kept => kept) f rfl

theorem standing_watchAll (t : State) : t.watchAll.standing = t.standing :=
  keeps_foldl (P := fun u : State => u.standing = t.standing) (f := State.watchFeedback) (fun _ _ kept => kept) _ rfl

theorem standing_plainBoundary (t : State) (p : Plan) : (t.boundary p { parts := order }).standing = t.standing := by
  have applied : ((t.meterBoundary.latch).applyPlan p).standing = t.standing := standing_latch t.meterBoundary
  rw [← applied]
  exact standing_takeParts ..

theorem standing_afterBoundaryZero :
    (s.afterBoundaryZero ok order).standing = (.detached, s.pu.cport, s.sp.found.image.causeMap) := by
  rw [State.afterBoundaryZero, standing_plainBoundary, State.startWatched, standing_watchAll, standing_batteryEvent,
    State.startRecorded, standing_recordStart, standing_imaged]

theorem el_watchAll (t : State) : t.watchAll.el = t.el := ((watchAll_frame t).same .el (by decide)).symm

theorem el_startWatched : (s.startWatched ok).el = (s.startRecorded ok).el := by
  rw [State.startWatched, el_watchAll, el_batteryEvent]

theorem el_plainBoundary (t : State) (p : Plan) : (t.boundary p { parts := order }).el = t.meterBoundary.latch.el :=
  el_takeParts ..

theorem el_meterBoundary (t : State) : t.meterBoundary.el = t.el := rfl

theorem el_afterBoundaryZero : (s.afterBoundaryZero ok order).el = (s.startWatched ok).meterBoundary.latch.el := by
  rw [State.afterBoundaryZero, el_plainBoundary]

theorem policy_start (el : ErrorLog) (masks holds : BitVec 12) : (el.start masks holds).policy = (masks &&& 0xBFF, holds ||| 0x400) := rfl

theorem policy_recordStart (t : State) (f : Preloaded) : (t.recordStart ok f).el.policy = t.el.policy :=
  keeps_recordStart (P := fun u : State => u.el.policy = t.el.policy) ok (fun u r kept => (policy_record u r).trans kept)
    (fun _ kept => kept) f rfl

theorem policy_afterBoundaryZero : (s.afterBoundaryZero ok order).el.policy =
    (s.sp.found.image.masked &&& 0xBFF, s.sp.found.image.holds ||| 0x400) := by
  rw [el_afterBoundaryZero, policy_latch]
  rw [el_meterBoundary, el_startWatched, State.startRecorded, policy_recordStart, el_imaged, policy_start]

theorem status_afterBoundaryZero {k : ErrorKind} (marked : inKindSet (s.startRecorded ok).el.status k = true) :
    inKindSet (s.afterBoundaryZero ok order).el.status k = true := by
  rw [el_afterBoundaryZero]
  refine status_latch_of_marked _ ?_
  rw [el_meterBoundary, el_startWatched]
  exact marked

theorem hold_afterBoundaryZero (held : (s.startRecorded ok).el.hold = true) : (s.afterBoundaryZero ok order).el.hold = true := by
  rw [el_afterBoundaryZero]
  refine hold_latch _ ?_
  rw [el_meterBoundary, el_startWatched]
  exact held

/-- A failed write-back marks EPOCH_UNSAVED, which is never masked and always of severity HOLD (R178). -/
theorem failed_startRecorded : inKindSet (s.startRecorded false).el.status .epochUnsaved = true ∧
    (s.startRecorded false).el.hold = true := by
  have policy : (s.imaged.recordBad s.sp.found.bad).el.policy =
      (s.sp.found.image.masked &&& 0xBFF, s.sp.found.image.holds ||| 0x400) :=
    (policy_recordBad ..).trans ((congrArg ErrorLog.policy (el_imaged s)).trans (policy_start ..))
  have masked : (s.imaged.recordBad s.sp.found.bad).el.masked = s.sp.found.image.masked &&& 0xBFF := congrArg Prod.fst policy
  have holds : (s.imaged.recordBad s.sp.found.bad).el.holds = s.sp.found.image.holds ||| 0x400 := congrArg Prod.snd policy
  rw [State.startRecorded, recordStart_failed]
  refine ⟨status_record_self _ _, ?_⟩
  rw [el_record]
  refine hold_take ?_ ?_
  · dsimp only
    rw [masked]
    simp [inKindSet, ErrorKind.number]
  · dsimp only
    rw [holds]
    simp [inKindSet, ErrorKind.number]

end

end Sys2Proof.Machine
end

section
/-! The end of STARTING, settled: each block after boundary 0. -/

namespace Sys2Proof.Machine

/-! ## The bays (R55, R61) -/

theorem config_takeGrant (x : Bay) (grant : Nat) : (x.takeGrant grant).config = x.config := by
  unfold Bay.takeGrant
  repeat' split
  all_goals rfl

/-- A bay with no session open takes no grant. -/
theorem takeGrant_resting {x : Bay} (resting : x.state = .plugged ∨ x.state = .vacant) (grant : Nat) : x.takeGrant grant = x := by
  unfold Bay.takeGrant
  rcases resting with state | state <;> rw [state]

theorem config_takePlan (x : Bay) (p : PlanBay) : (x.takePlan p).config = x.config := by
  have granted : ((x.keepPortions p).takeGrant ((x.keepPortions p).usedGrant p)).config = x.config :=
    (config_takeGrant ..).trans (config_attribute x)
  unfold Bay.takePlan
  dsimp only
  split <;> exact granted

theorem state_takePlan_resting {x : Bay} (resting : x.state = .plugged ∨ x.state = .vacant) (p : PlanBay) :
    (x.takePlan p).state = x.state := by
  have kept : (x.keepPortions p).state = x.state := state_attribute x
  have granted : ((x.keepPortions p).takeGrant ((x.keepPortions p).usedGrant p)).state = x.state := by
    rw [takeGrant_resting (by rw [kept]; exact resting), kept]
  unfold Bay.takePlan
  dsimp only
  split <;> exact granted

theorem bay_watchAll (t : State) (b : Fin 12) : (t.watchAll.bay b).state = (t.bay b).state ∧ (t.watchAll.bay b).config = (t.bay b).config := by
  refine keeps_foldl (P := fun u : State => (u.bay b).state = (t.bay b).state ∧ (u.bay b).config = (t.bay b).config)
    (f := State.watchFeedback) (fun u c kept => ?_) (List.finRange 12) ⟨rfl, rfl⟩
  by_cases same : b = c
  · subst same
    rw [bay_watchFeedback_self, state_watch, config_watch]
    exact kept
  · rw [bay_watchFeedback_of_ne u same]
    exact kept

section
variable (s : State) (ok : Bool) (order : List Nat)

theorem bay_startWatched (b : Fin 12) : ((s.startWatched ok).bay b).state = ((s.bay b).start s.sp.found.image.bays[b]).state ∧
    ((s.startWatched ok).bay b).config = s.sp.found.image.bays[b] := by
  have recorded : (s.startRecorded ok).bay b = s.imaged.bay b :=
    bay_of_bays ((recordStart_frame s.imaged ok s.sp.found).same .bays (by decide)).symm b
  have watched := bay_watchAll ((s.startRecorded ok).batteryEvent ((s.startRecorded ok).ba.start s.sp.found.image)) b
  rw [bay_batteryEvent, recorded, bay_imaged] at watched
  exact watched

theorem bay_afterBoundaryZero (b : Fin 12) : ((s.afterBoundaryZero ok order).bay b).config = s.sp.found.image.bays[b] ∧
    ((s.afterBoundaryZero ok order).bay b).state = if (s.bay b).plug = some true then .plugged else .vacant := by
  obtain ⟨state, config⟩ := bay_startWatched s ok b
  have resting : ((s.startWatched ok).bay b).state = .plugged ∨ ((s.startWatched ok).bay b).state = .vacant := by
    rw [state]
    exact state_start ..
  rw [State.afterBoundaryZero, bay_boundary, config_takePlan, state_takePlan_resting resting, state, config]
  exact ⟨rfl, rfl⟩

/-! ## The Battery Account (R91, R95, R103) -/

theorem ba_startWatched : ∃ e, (s.startWatched ok).ba = { s.ba.start s.sp.found.image with
    atReserve := (s.ba.start s.sp.found.image).calibrated && decide ((s.ba.start s.sp.found.image).eb ≤ s.sp.found.image.reserve)
    lastEvent := e } := by
  have watch (t : State) : t.watchAll.ba = t.ba := ((watchAll_frame t).same .ba (by decide)).symm
  obtain ⟨e, event⟩ := afterEvent_eq s.ba (s.ba.start s.sp.found.image) (s.startRecorded ok).clock.siteTime (s.startRecorded ok).al.round
  refine ⟨e, ?_⟩
  rw [State.startWatched, watch, ba_batteryEvent, ba_startRecorded, event]
  rfl

/-- A resting account driven at 0 stays as it is. -/
theorem drive_zero {b : BatteryAccount} (rests : b.setpoint = 0) (state : b.state = .offline ∨ b.state = .idle) : b.drive 0 = b := by
  rcases state with offline | idle
  · exact drive_offline offline 0
  · have bounded : b.bounded 0 = 0 := by
      unfold BatteryAccount.bounded
      omega
    rw [drive_online (by rw [idle]; exact BatteryState.noConfusion), bounded, ← rests, show batteryStateOf b.setpoint = b.state by rw [rests, idle]; rfl]

theorem state_batteryStart (b : BatteryAccount) (i : Image) : (b.start i).state = .offline ∨ (b.start i).state = .idle := by
  unfold BatteryAccount.start
  dsimp only
  split
  · exact .inr rfl
  · exact .inl rfl

theorem ba_afterBoundaryZero : ∃ e, (s.afterBoundaryZero ok order).ba = { s.ba.start s.sp.found.image with
    atReserve := (s.ba.start s.sp.found.image).calibrated && decide ((s.ba.start s.sp.found.image).eb ≤ s.sp.found.image.reserve)
    lastEvent := e } := by
  obtain ⟨e, watched⟩ := ba_startWatched s ok
  have resting : (s.startWatched ok).ba.setpoint = 0 ∧
      ((s.startWatched ok).ba.state = .offline ∨ (s.startWatched ok).ba.state = .idle) := by
    rw [watched]
    exact ⟨rfl, state_batteryStart s.ba s.sp.found.image⟩
  obtain ⟨last, event⟩ := afterEvent_eq (s.startWatched ok).ba (s.startWatched ok).ba (s.startWatched ok).clock.siteTime
    (s.startWatched ok).al.round
  refine ⟨last, ?_⟩
  rw [State.afterBoundaryZero, ba_boundary, show (emptyPlan (s.startWatched ok).al.period).setpoint = 0 from rfl,
    drive_zero resting.1 resting.2, event, watched]
  rfl

/-! ## The other parts -/

theorem rw_imaged : s.imaged.rw = s.rw.start s.sp.found.image.receipt s.sp.found.epoch := by
  rw [imaged_eq, rw_releaseVectors]
  rfl

theorem sw_imaged : s.imaged.sw = s.sp.found.image.snapshot := by
  rw [imaged_eq, sw_releaseVectors]
  rfl

theorem cu_imaged : s.imaged.cu = s.cu := by
  rw [imaged_eq, cu_releaseVectors]
  rfl

theorem fixed_imaged : s.imaged.meterConfig = s.sp.found.image.channels ∧ s.imaged.pairs = s.sp.found.image.pairs ∧
    s.imaged.nextSession = s.nextSession := by
  have frame := releaseVectors_frame (s.withImage s.sp.found).judgeUsable
  rw [imaged_eq]
  exact ⟨(frame.same .meterConfig (by decide)).symm, (frame.same .pairs (by decide)).symm, (frame.same .nextSession (by decide)).symm⟩

theorem sp_afterBoundaryZero : (s.afterBoundaryZero ok order).sp =
    { s.sp with inFlight := none, retryTimer := if ok then s.sp.retryTimer else some 10000 } := by
  have boundary (t : State) (p : Plan) : (t.boundary p { parts := order }).sp = t.sp :=
    ((boundary_plain_frame t p order).same .sp (by decide)).symm
  have watch (t : State) : t.watchAll.sp = t.sp := ((watchAll_frame t).same .sp (by decide)).symm
  rw [State.afterBoundaryZero, boundary, State.startWatched, watch, sp_batteryEvent, State.startRecorded, sp_recordStart, sp_imaged]

theorem al_plainBoundary (t : State) : (t.boundary (emptyPlan t.al.period) { parts := order }).al =
    { t.al.afterLatch t.readInputs with
      applied := some (emptyPlan t.al.period), staged := none, roundLength := some t.al.period
      boundaryTimer := some (1000 * t.al.period) } := by
  rw [al_boundary, al_applyPlan_latch]
  rfl

theorem al_afterBoundaryZero : ∃ l, (s.afterBoundaryZero ok order).al =
    { s.imaged.al.afterLatch l with
      applied := some (emptyPlan s.imaged.al.period), staged := none, roundLength := some s.imaged.al.period
      boundaryTimer := some (1000 * s.imaged.al.period) } := by
  refine ⟨(s.startWatched ok).readInputs, ?_⟩
  rw [State.afterBoundaryZero, al_plainBoundary, al_startWatched]

theorem startingEnd_eq {e : List SettingsByte} (starting : s.pu.link = .starting) (writing : s.sp.inFlight = some (.epochWrite e)) :
    exec (.startingEnd ok order) s = .next (s.afterBoundaryZero ok order).acceptHeld := by
  have due : s.epochWriting = true := by
    unfold State.epochWriting
    rw [starting, writing]
    rfl
  change execStartingEnd ok order s = _
  unfold execStartingEnd
  rw [if_pos due, endStarting_eq]

end

/-- Settles O14. -/
theorem startingEndTakesThePreloadedValues : Obligations.StartingEndTakesThePreloadedValues := by
  intro s ok order e starting writing f i
  refine ⟨s.afterBoundaryZero ok order, startingEnd_eq s ok order starting writing, ?_⟩
  have standing := standing_afterBoundaryZero s ok order
  have policy := policy_afterBoundaryZero s ok order
  have sp := sp_afterBoundaryZero s ok order
  have bays := bay_afterBoundaryZero s ok order
  have status := fun k => status_afterBoundaryZero s ok order (k := k)
  have holds := hold_afterBoundaryZero s ok order
  obtain ⟨l, al⟩ := al_afterBoundaryZero s ok order
  obtain ⟨last, ba⟩ := ba_afterBoundaryZero s ok order
  obtain ⟨channels, pairs, next⟩ := fixed_imaged s
  have frame := afterBoundaryZero_frame s ok order
  have meters := (frame.same .meterConfig (by decide)).symm.trans channels
  have caps := (frame.same .pairs (by decide)).symm.trans pairs
  have window := (frame.same .sw (by decide)).symm.trans (sw_imaged s)
  have sessions := (frame.same .nextSession (by decide)).symm.trans next
  have command := (frame.same .cu (by decide)).symm.trans (cu_imaged s)
  have ring := (frame.same .rw (by decide)).symm.trans (rw_imaged s)
  generalize s.afterBoundaryZero ok order = t at *
  have link : t.pu.link = .detached := congrArg Prod.fst standing
  have port : t.pu.cport = s.pu.cport := congrArg (fun x => x.2.1) standing
  have map : t.nu.causeMap = i.causeMap := congrArg (fun x => x.2.2) standing
  obtain ⟨latched, round, limit, period, supply⟩ := afterLatch_keeps (al := s.imaged.al) (l := l)
  rw [al_imaged] at latched round limit period supply al
  refine ⟨port, fun r held => ?_, fun unheld => ?_, link, by rw [sp], by rw [sp], meters, caps, window, sessions, command, bays,
    by rw [al]; exact round, by rw [al]; exact limit, by rw [al]; exact period, by rw [al]; exact supply, by rw [al], by rw [al],
    by rw [al], by rw [al]; rfl, ?_, ring, map, congrArg Prod.fst policy, congrArg Prod.snd policy, by rw [ba]; rfl, by rw [ba]; rfl,
    by rw [ba]; rfl, by rw [ba]; rfl, by rw [ba]; rfl, by rw [ba]; rfl, by rw [ba]; rfl, ?_, ?_, fun bad => ?_, fun failed => ?_⟩
  · unfold State.acceptHeld
    rw [port, held]
  · unfold State.acceptHeld
    rw [port]
    split
    · next r held => exact absurd held (unheld r)
    all_goals rfl
  · rw [al]
    exact Option.isSome_iff_exists.mpr ⟨l, latched⟩
  · rw [ba]
    change (s.ba.calibrated || (s.ba.fullLine.taken && !s.ba.emptyLine.taken) || (s.ba.emptyLine.taken && !s.ba.fullLine.taken)) = true ↔ _
    cases s.ba.calibrated <;> cases s.ba.fullLine.taken <;> cases s.ba.emptyLine.taken <;> decide
  · rw [ba]
    exact (Bool.and_eq_true _ _).to_iff.trans (and_congr_right fun _ => decide_eq_true_iff)
  · exact status _ (status_recordStart_bad ok s.imaged bad)
  · obtain ⟨unsaved, held⟩ := failed_startRecorded s
    rw [failed] at status holds
    exact ⟨status _ unsaved, holds held⟩

end Sys2Proof.Machine
end

section
/-! What an OWNED word reads: segments of word lists, flags as bits, and the identity block. -/

namespace Sys2Proof.Machine

/-! ## Segments of a list of words -/

/-- Some words stand in a list from a place on. -/
def Segment (l : List Word) (m : Nat) (words : List Word) : Prop :=
  ∃ before after, l = before ++ (words ++ after) ∧ before.length = m

section
variable {l words : List Word} {m : Nat}

theorem Segment.word (h : Segment l m words) {i : Nat} {w : Word} (here : words[i]? = some w) : wordAt l (m + i) = w := by
  obtain ⟨before, after, rfl, rfl⟩ := h
  obtain ⟨low, at'⟩ := List.getElem?_eq_some_iff.mp here
  rw [wordAt, getD_append_of_le (Nat.le_add_right ..), Nat.add_sub_cancel_left, getD_append_of_lt low,
    getD_of_lt low, at']

theorem segment_self (words after : List Word) : Segment (words ++ after) 0 words := ⟨[], after, rfl, rfl⟩

theorem Segment.left (h : Segment l m words) (after : List Word) : Segment (l ++ after) m words := by
  obtain ⟨before, rest, rfl, place⟩ := h
  exact ⟨before, rest ++ after, by simp, place⟩

theorem Segment.right (h : Segment l m words) (before : List Word) : Segment (before ++ l) (before.length + m) words := by
  obtain ⟨first, after, rfl, rfl⟩ := h
  exact ⟨before ++ first, after, by simp, by simp⟩

theorem Segment.trans {part : List Word} {n : Nat} (h : Segment l m part) (g : Segment part n words) : Segment l (m + n) words := by
  obtain ⟨before, after, rfl, rfl⟩ := h
  exact (g.left after).right before

/-- The part of one thing in a list of things that all have the same number of words. -/
theorem segment_flatMap {α : Type} {xs : List α} {f : α → List Word} {k i : Nat} {x : α} (size : ∀ y ∈ xs, (f y).length = k)
    (here : xs[i]? = some x) : Segment (xs.flatMap f) (k * i) (f x) := by
  induction xs generalizing i with
  | nil => cases here
  | cons y ys ih =>
    rw [List.flatMap_cons]
    cases i with
    | zero =>
      cases here
      exact segment_self _ _
    | succ i =>
      have later := (ih (fun z mem => size z (List.mem_cons_of_mem _ mem)) here).right (f y)
      rw [size y List.mem_cons_self, Nat.add_comm, ← Nat.mul_succ] at later
      exact later

theorem length_flatMap_const {α : Type} {xs : List α} {f : α → List Word} {k : Nat} (size : ∀ y ∈ xs, (f y).length = k) :
    (xs.flatMap f).length = k * xs.length := by
  induction xs with
  | nil => rfl
  | cons y ys ih =>
    rw [List.flatMap_cons, List.length_append, size y List.mem_cons_self, ih fun z mem => size z (List.mem_cons_of_mem _ mem),
      List.length_cons, Nat.mul_succ, Nat.add_comm]

theorem wordAt_past {l : List Word} {i : Nat} (past : l.length ≤ i) : wordAt l i = 0 := getD_of_le past

theorem Segment.zero {n i : Nat} (h : Segment l m (List.replicate n 0)) (low : m ≤ i) (high : i < m + n) : wordAt l i = 0 := by
  obtain ⟨j, rfl⟩ := Nat.exists_eq_add_of_le low
  refine h.word ?_
  rw [List.getElem?_replicate, if_pos (by omega)]

end

/-! ## Flags as bits -/

theorem bits_append (fs gs : List Bool) : bits (fs ++ gs) = bits fs + 2 ^ fs.length * bits gs := by
  induction fs with
  | nil => simp [bits]
  | cons f fs ih =>
    rw [List.cons_append, bits, ih, bits, List.length_cons, Nat.pow_succ]
    rw [Nat.mul_add, ← Nat.mul_assoc, Nat.mul_comm 2 (2 ^ fs.length), Nat.add_assoc]

theorem testBit_bits (fs : List Bool) (i : Nat) : (bits fs).testBit i = fs.getD i false := by
  induction fs generalizing i with
  | nil => simp [bits]
  | cons f fs ih =>
    have low : bit f < 2 := by cases f <;> decide
    cases i with
    | zero =>
      rw [Nat.testBit_zero, bits, List.getD_cons_zero]
      cases f <;> simp [bit, Nat.add_mod]
    | succ i =>
      have half : bits (f :: fs) / 2 = bits fs := by
        rw [bits]
        omega
      rw [Nat.testBit_succ, half, ih, List.getD_cons_succ]

theorem toNat_field {n : Nat} (low : n ≤ wordMax) : (field n).toNat = n := by
  rw [field, Nat.min_eq_left low, BitVec.toNat_ofNat]
  exact Nat.mod_eq_of_lt (Nat.lt_succ_of_le low)

theorem getLsbD_field {n : Nat} (low : n ≤ wordMax) (i : Nat) : (field n).getLsbD i = n.testBit i := by
  rw [BitVec.getLsbD, toNat_field low]

/-! ## The words outside the window -/

section
variable (s : State)

theorem ownedWord_identity {o : Nat} (low : o < 0x40) : s.ownedWord o = wordAt s.identityWords (o / 4) := if_pos low

theorem identity_past {o : Nat} (low : 0x034 ≤ o) (high : o < 0x040) : s.ownedWord o = 0 := by
  rw [ownedWord_identity s high]
  refine wordAt_past ?_
  change 13 ≤ o / 4
  omega

/-- The error summary, with no more records than the list holds. -/
theorem toNat_summary {el : ErrorLog} (few : el.records.length ≤ 4) :
    el.summary.toNat = el.status.toNat + 65536 * el.records.length + 16777216 * bit el.overflow := by
  have status := el.status.isLt
  have overflow : bit el.overflow ≤ 1 := by cases el.overflow <;> decide
  rw [ErrorLog.summary, toNat_field (by unfold wordMax; omega)]

/-- The flags of the pending word, the vectors' first. -/
def NoticeUnit.pendingFlags (n : NoticeUnit) : List Bool := (n.vectors.toList.map fun v => v.pending) ++ [n.enable, n.allMask]

theorem pendingWord_eq (n : NoticeUnit) : n.pendingWord = field (bits n.pendingFlags) := by
  have all : bits n.pendingFlags = n.pendingBits + 256 * bit n.enable + 512 * bit n.allMask := by
    rw [NoticeUnit.pendingFlags, bits_append, NoticeUnit.pendingBits]
    simp [bits]
    omega
  rw [all]
  rfl

theorem pendingFlags_lt (n : NoticeUnit) : bits n.pendingFlags < 1024 := by
  have low := bits_lt n.pendingFlags
  simpa [NoticeUnit.pendingFlags] using low

theorem getLsbD_pendingWord (n : NoticeUnit) (i : Nat) : n.pendingWord.getLsbD i = n.pendingFlags.getD i false := by
  have low := pendingFlags_lt n
  rw [pendingWord_eq, getLsbD_field (by unfold wordMax; omega), testBit_bits]

theorem pendingFlags_vector (v : Fin 8) : s.nu.pendingFlags.getD v.val false = (s.vector v).pending := by
  rw [NoticeUnit.pendingFlags, getD_append_of_lt (by simp)]
  simp [State.vector]

theorem toNat_pendingWord_lt (n : NoticeUnit) : n.pendingWord.toNat < 1024 := by
  have low := pendingFlags_lt n
  rw [pendingWord_eq, toNat_field (by unfold wordMax; omega)]
  exact low

/-- Under NONE every word of the window reads 0 (R154). -/
theorem window_none (none : s.pu.selector = none) {o : Nat} (low : 0x200 ≤ o) : s.ownedWord o = 0 := by
  rw [ownedWord_view s low, State.windowWords, none]
  exact wordAt_past (Nat.zero_le _)

theorem selectorWord_some {k : Fin 18} (selected : s.pu.selector = some k) : s.pu.selectorWord = BitVec.ofNat 32 k.val := by
  have low : min k.val wordMax = k.val := Nat.min_eq_left (by have := k.isLt; unfold wordMax; omega)
  rw [PathUnit.selectorWord, selected]
  exact congrArg (BitVec.ofNat 32) low

/-! ## The words of a view -/

/-- A word of a view, as it reads with the selector at the view. -/
def State.viewWord (s : State) (k : Fin 18) (offset : Nat) : Word :=
  { s with pu := { s.pu with selector := some k } }.ownedWord (0x200 + offset)

/-- A view shows some words from an offset on. -/
def State.shows (s : State) (k : Fin 18) (offset : Nat) (words : List Word) : Prop :=
  ∀ i w, words[i]? = some w → s.viewWord k (offset + 4 * i) = w

/-- A view reads 0 from an offset up to another. -/
def State.blank (s : State) (k : Fin 18) (first last : Nat) : Prop := ∀ i, first ≤ 4 * i → 4 * i < last → s.viewWord k (4 * i) = 0

theorem viewWord_eq (k : Fin 18) (offset : Nat) : s.viewWord k offset = wordAt (s.viewOf k) (offset / 4) := by
  have view : { s with pu := { s.pu with selector := some k } }.windowWords = s.viewOf k := rfl
  rw [State.viewWord, ownedWord_view _ (Nat.le_add_right ..), view, Nat.add_sub_cancel_left]

variable {s}

theorem shows_of_segment {k : Fin 18} {l words : List Word} {m offset : Nat} (view : s.viewOf k = l) (h : Segment l m words)
    (place : offset = 4 * m) : s.shows k offset words := by
  intro i w here
  have index : (4 * m + 4 * i) / 4 = m + i := by omega
  rw [viewWord_eq, view, place, index]
  exact h.word here

theorem blank_of_length {k : Fin 18} {l : List Word} {first last : Nat} (view : s.viewOf k = l) (past : 4 * l.length ≤ first) :
    s.blank k first last := by
  intro i low high
  have index : 4 * i / 4 = i := by omega
  rw [viewWord_eq, view, index]
  exact wordAt_past (by omega)

theorem blank_of_segment {k : Fin 18} {l : List Word} {m n first last : Nat} (view : s.viewOf k = l)
    (h : Segment l m (List.replicate n 0)) (low : 4 * m ≤ first) (high : last ≤ 4 * (m + n)) : s.blank k first last := by
  intro i from' to'
  have index : 4 * i / 4 = i := by omega
  rw [viewWord_eq, view, index]
  exact h.zero (by omega) (by omega)

end

end Sys2Proof.Machine
end

section
/-! The eight layouts of the view window, part by part. -/

namespace Sys2Proof.Machine

theorem segment_mid (before words after : List Word) : Segment (before ++ words ++ after) before.length words :=
  ⟨before, after, List.append_assoc .., rfl⟩

theorem segment_end (before words : List Word) : Segment (before ++ words) before.length words :=
  ⟨before, [], by rw [List.append_nil], rfl⟩

section
variable (s : State)

/-! ## Which layout a view has -/

theorem viewOf_bay (b : Fin 12) {k : Fin 18} (named : k.val = b.val) : s.viewOf k = s.bayView b := by
  unfold State.viewOf
  rw [selectedBay_bay b named]

theorem viewOf_site : s.viewOf 12 = s.siteView := rfl
theorem viewOf_battery : s.viewOf 13 = s.batteryView := rfl
theorem viewOf_error : s.viewOf 14 = s.el.view := rfl
theorem viewOf_notice : s.viewOf 15 = s.nu.view := rfl
theorem viewOf_meter : s.viewOf 16 = s.meterView := rfl
theorem viewOf_ring : s.viewOf 17 = s.ringView := rfl

/-! ## The bay view (R54, R109) -/

section
variable (b : Fin 12)

theorem sessionWords_segment : Segment (s.bayView b) 0 (s.bay b).sessionWords := (segment_self _ (s.bay b).bayWords).left _

theorem bayWords_segment : Segment (s.bayView b) 16 (s.bay b).bayWords := segment_mid ..

theorem limits_segment : Segment (s.bayView b) 28
    [field (s.estimate (bayChannel b)), field (s.bay b).config.pmin, field (s.bay b).config.pmax, field (s.bay b).config.stopDelay,
     field (s.bay b).config.releaseWindow, field (s.bay b).config.idleTimeout, field (s.pair (pairOf b)).cap,
     field (evenMember (pairOf b) (s.pair (pairOf b))), field (s.bay b).timerBits, (s.bay b).eventWord] := segment_end ..

theorem length_bayView : (s.bayView b).length = 38 := rfl

end

theorem lock_iff (x : Bay) : x.lock = true ↔ x.state = .authorised ∨ x.state = .paused ∨ x.state = .charging ∨
    x.state = .releasePending ∨ x.state = .stopping ∨ (x.state = .faulted ∧ x.plug = some true) := by
  unfold Bay.lock
  cases x.state <;> simp

/-! ## The site view (R85) -/

theorem length_latchedWords (l : Option Latched) : (latchedWords l).length = 24 := by
  cases l with
  | none => rfl
  | some l => simp [latchedWords]

theorem length_planBayWords (x : PlanBay) : x.words.length = 3 := rfl

theorem length_planWords (p : Plan) : p.words.length = 44 := by
  rw [Plan.words, List.length_append, length_flatMap_const fun x _ => length_planBayWords x, Vector.length_toList]
  rfl

theorem length_appliedWords (p : Option Plan) : (appliedWords p).length = 44 := by
  cases p with
  | none => rfl
  | some p => exact length_planWords p

theorem length_stagedWords (al : Allocator) : al.stagedWords.length = 44 := by
  unfold Allocator.stagedWords
  split
  · rfl
  · exact length_planWords _

/-- The words of the site view before the latched inputs. -/
def State.siteHead (s : State) : List Word :=
  [s.al.round, field (s.al.roundLength.getD 0), field s.al.limit, field s.al.period, s.al.map.word]

/-- The words of the site view between the latched inputs and the plan records. -/
def State.overlimitWords (s : State) : List Word := [field s.al.correction, halfFields s.al.episodes (bit s.al.episodeReported), 0]

theorem siteView_eq : s.siteView =
    s.siteHead ++ latchedWords s.al.latched ++ s.overlimitWords ++ appliedWords s.al.applied ++ s.al.stagedWords := rfl

theorem siteHead_segment : Segment s.siteView 0 s.siteHead := (((segment_self _ _).left _).left _).left _

theorem latched_segment : Segment s.siteView 5 (latchedWords s.al.latched) :=
  ((segment_mid s.siteHead (latchedWords s.al.latched) s.overlimitWords).left _).left _

theorem overlimit_segment : Segment s.siteView 29 s.overlimitWords := by
  have place : (s.siteHead ++ latchedWords s.al.latched).length = 29 := by rw [List.length_append, length_latchedWords]; rfl
  rw [siteView_eq, ← place]
  exact (segment_mid ..).left _

theorem applied_segment : Segment s.siteView 32 (appliedWords s.al.applied) := by
  have place : (s.siteHead ++ latchedWords s.al.latched ++ s.overlimitWords).length = 32 := by
    rw [List.length_append, List.length_append, length_latchedWords]; rfl
  rw [siteView_eq, ← place]
  exact segment_mid ..

theorem staged_segment : Segment s.siteView 76 s.al.stagedWords := by
  have place : (s.siteHead ++ latchedWords s.al.latched ++ s.overlimitWords ++ appliedWords s.al.applied).length = 76 := by
    rw [List.length_append, List.length_append, List.length_append, length_latchedWords, length_appliedWords]; rfl
  rw [siteView_eq, ← place]
  exact segment_end ..

theorem length_siteView : s.siteView.length = 120 := by
  rw [siteView_eq, List.length_append, List.length_append, List.length_append, List.length_append, length_latchedWords,
    length_appliedWords, length_stagedWords]
  rfl

theorem latchedInputs_segment (l : Latched) : Segment (latchedWords (some l)) 0
    [field l.solar, field l.shop, field l.grid, field l.limit, field l.period, l.map.word, field l.eb, field l.cap,
     field l.reserve, field l.cmax, field l.dmax, field (bits [l.calibrated, l.offline, l.hold, l.attached])] := segment_self _ _

theorem latchedBay_segment (l : Latched) (b : Fin 12) : Segment (latchedWords (some l)) (12 + b.val) [(l.bay b).word] := by
  have here : (l.bays.toList)[b.val]? = some (l.bay b) := by
    rw [List.getElem?_eq_getElem (by simp)]
    simp [Latched.bay]
  have all : l.bays.toList.map LatchedBay.word = l.bays.toList.flatMap fun x => [x.word] := by
    rw [List.map_eq_flatMap]
  have bay := segment_flatMap (f := fun x : LatchedBay => [x.word]) (k := 1) (fun _ _ => rfl) here
  rw [Nat.one_mul, ← all] at bay
  exact bay.right [_, _, _, _, _, _, _, _, _, _, _, _]

theorem planHead_segment (p : Plan) : Segment p.words 0
    [p.round, byteFields p.roundLength p.flags.byte 1 0, field p.coverSolar, field p.coverBattery, field p.potSolar,
     field p.potBattery, field p.potGrid, signedField p.setpoint] := segment_self _ _

theorem planBay_segment (p : Plan) (b : Fin 12) : Segment p.words (8 + 3 * b.val) (p.bays[b]).words := by
  have here : (p.bays.toList)[b.val]? = some p.bays[b] := by
    rw [List.getElem?_eq_getElem (by simp)]
    simp
  exact (segment_flatMap (fun x _ => length_planBayWords x) here).right [_, _, _, _, _, _, _, _]

/-! ## The battery view (R102) -/

theorem length_batteryView : s.batteryView.length = 11 := by
  unfold State.batteryView
  dsimp only
  split <;> rfl

theorem battery_segment : Segment s.batteryView 0
    [field s.ba.eb, field s.ba.cap, field s.ba.reserve, field s.ba.cmax, field s.ba.dmax,
     byteFields s.ba.state.code (bits [s.ba.calibrated, s.ba.atReserve])
       (bits [s.ba.readyLine.taken, s.ba.fullLine.taken, s.ba.emptyLine.taken]) 0, signedField s.ba.setpoint,
     signedField ((s.al.applied.map Plan.setpoint).getD 0)] := segment_self _ _

theorem noEvent_segment (none : s.ba.lastEvent = none) : Segment s.batteryView 8 (List.replicate 3 0) := by
  unfold State.batteryView
  dsimp only
  rw [none]
  exact segment_end ..

theorem event_segment {e : BatteryEvent} (last : s.ba.lastEvent = some e) :
    Segment s.batteryView 8 [byteFields e.reasons.byte e.stateAfter.code 0 0, e.time, e.round] := by
  unfold State.batteryView
  dsimp only
  rw [last]
  exact segment_end ..

/-! ## The error view (R178) -/

/-- The words of a record, its bay as it is coded. -/
theorem errorWords_eq (r : ErrorRecord) {bay : Nat} (coded : (r.recording.bay.map Fin.val).getD 255 = bay) : r.words =
    [byteFields r.recording.kind.number (bits [r.recording.bay.isSome, r.recording.addr.isSome, r.recording.data.isSome]) bay 0,
     r.time, r.round, orZero r.recording.addr, orZero r.recording.data, r.recording.detail] := by
  rw [← coded]
  rfl

theorem errorHead_segment (el : ErrorLog) : Segment el.view 0
    [el.status.setWidth 32, el.masked.setWidth 32, el.holds.setWidth 32,
     byteFields ((el.first.map ErrorKind.number).getD 255) el.records.length (bit el.overflow) (bit el.hold)] := segment_self _ _

theorem length_errorWords (r : ErrorRecord) : r.words.length = 6 := rfl

theorem record_segment {el : ErrorLog} {i : Nat} {e : ErrorRecord} (here : el.records[i]? = some e) :
    Segment el.view (4 + 6 * i) e.words :=
  (segment_flatMap (fun x _ => length_errorWords x) here).right [_, _, _, _]

theorem length_errorView (el : ErrorLog) : el.view.length = 4 + 6 * el.records.length := by
  rw [ErrorLog.view, List.length_append, length_flatMap_const fun x _ => length_errorWords x]
  rfl

/-! ## The notice view (R169) -/

theorem noticeHead_segment (n : NoticeUnit) : Segment n.view 0
    [byteFields (bit n.enable) (bit n.allMask) 0 0, causeMapWord n.causeMap, byteFields n.pendingBits n.queuedBits 0 0, 0] :=
  segment_self _ _

theorem length_vectorWords (v : NoticeVector) : v.words.length = 4 := rfl

theorem vector_segment (v : Fin 8) : Segment s.nu.view (4 + 4 * v.val) (s.vector v).words := by
  have here : (s.nu.vectors.toList)[v.val]? = some (s.vector v) := by
    rw [List.getElem?_eq_getElem (by simp)]
    simp [State.vector]
  exact (segment_flatMap (fun x _ => length_vectorWords x) here).right [_, _, _, _]

theorem length_noticeView (n : NoticeUnit) : n.view.length = 36 := by
  rw [NoticeUnit.view, List.length_append, length_flatMap_const fun x _ => length_vectorWords x, Vector.length_toList]
  rfl

/-- Numbers below 16 packed as digits, the first the lowest. -/
theorem digits_packed (l : List (Fin 8)) : l.foldr (fun v n => v.val + 16 * n) 0 < 16 ^ l.length ∧
    ∀ (i : Nat) (v : Fin 8), l[i]? = some v → l.foldr (fun v n => v.val + 16 * n) 0 / 16 ^ i % 16 = v.val := by
  induction l with
  | nil => exact ⟨by decide, fun i v here => by cases here⟩
  | cons w l ih =>
    obtain ⟨low, digit⟩ := ih
    have digitLow := w.isLt
    rw [List.foldr_cons]
    refine ⟨by rw [List.length_cons, Nat.pow_succ]; omega, fun i v here => ?_⟩
    cases i with
    | zero =>
      cases here
      omega
    | succ i =>
      have rest : (w.val + 16 * l.foldr (fun v n => v.val + 16 * n) 0) / 16 = l.foldr (fun v n => v.val + 16 * n) 0 := by omega
      rw [Nat.pow_succ', ← Nat.div_div_eq_div_mul, rest]
      exact digit i v here

theorem causeMapWord_digit (m : Vector (Fin 8) 8) (v : Fin 8) : (causeMapWord m).toNat / 16 ^ v.val % 16 = (m[v]).val := by
  obtain ⟨low, digit⟩ := digits_packed m.toList
  rw [Vector.length_toList] at low
  rw [causeMapWord, toNat_field (by unfold wordMax; omega)]
  refine digit v.val m[v] ?_
  rw [List.getElem?_eq_getElem (by simp)]
  simp

/-- Two bytes of flags in one word. -/
theorem getLsbD_flagBytes {fs gs : List Bool} (first : fs.length = 8) (second : gs.length = 8) :
    (byteFields (bits fs) (bits gs) 0 0).toNat < 65536 ∧ ∀ i < 8,
      (byteFields (bits fs) (bits gs) 0 0).getLsbD i = fs.getD i false ∧
      (byteFields (bits fs) (bits gs) 0 0).getLsbD (8 + i) = gs.getD i false := by
  have low := bits_lt fs
  have high := bits_lt gs
  have value := toNat_byteFields (a := bits fs) (b := bits gs) (c := 0) (d := 0) (by rw [first] at low; omega)
    (by rw [second] at high; omega) (by decide) (by decide)
  have whole : (byteFields (bits fs) (bits gs) 0 0).toNat = bits (fs ++ gs) := by
    rw [value, bits_append, first]
    omega
  rw [first] at low
  rw [second] at high
  refine ⟨by omega, fun i small => ⟨?_, ?_⟩⟩
  · rw [BitVec.getLsbD, whole, testBit_bits, getD_append_of_lt (by omega)]
  · rw [BitVec.getLsbD, whole, testBit_bits, getD_append_of_le (by omega), first, Nat.add_sub_cancel_left]

/-! ## The meter and ring views (R18, R141) -/

theorem channel_segment (ch : Fin 17) : Segment s.meterView (6 * ch.val) ((s.channel ch).words (s.estimate ch)) := by
  have here : (List.finRange 17)[ch.val]? = some ch := by simp
  exact segment_flatMap (f := fun ch => (s.channel ch).words (s.estimate ch)) (fun _ _ => rfl) here

theorem length_meterView : s.meterView.length = 102 := by
  rw [State.meterView, length_flatMap_const (k := 6) fun _ _ => rfl, List.length_finRange]

/-- The words of the ring view before the last abandoned receipt. -/
def State.ringHead (s : State) : List Word :=
  [baseField s.rw.geometry.base, field s.rw.geometry.slots, field s.rw.geometry.lowWater, field s.rw.nextSlot,
   field s.rw.windowFirst, field s.rw.reserved, field s.rw.uncollected, field s.rw.issuing, field s.rw.freeCount,
   field s.rw.lastIssued, field s.rw.lastCollected, s.rw.chain, s.rw.epoch, halfFields (bit s.rw.armed) s.rw.abandoned]

/-- The words of the ring view about the snapshot window. -/
def State.ringTail (s : State) : List Word := [baseField s.sw.base, field s.sw.stride, field s.sw.decimation]

/-- The number and the check of the last abandoned receipt, 0 while there is none (log 33). -/
def abandonedWords (a : Option (Nat × Word)) : List Word := [field ((a.map Prod.fst).getD 0), (a.map Prod.snd).getD 0]

theorem ringHead_segment : Segment s.ringView 0 s.ringHead := segment_self s.ringHead (abandonedWords s.rw.lastAbandoned ++ s.ringTail)

theorem abandoned_segment : Segment s.ringView 14 (abandonedWords s.rw.lastAbandoned) :=
  segment_mid s.ringHead (abandonedWords s.rw.lastAbandoned) s.ringTail

theorem ringTail_segment : Segment s.ringView 16 s.ringTail :=
  segment_end (s.ringHead ++ abandonedWords s.rw.lastAbandoned) s.ringTail

theorem length_ringView : s.ringView.length = 19 := rfl

end

end Sys2Proof.Machine
end

section
/-! What the OWNED words read, view by view. -/

namespace Sys2Proof.Machine

section
variable (s : State)

/-! ## The words outside the window (R145, spec/11 11.2) -/

theorem shows_head {k : Fin 18} {l words : List Word} (view : s.viewOf k = l) (h : Segment l 0 words) : s.shows k 0 words :=
  shows_of_segment view h rfl

theorem code_lt (link : LinkState) : field link.code = BitVec.ofNat 32 link.code := by cases link <;> rfl

/-- A plan record shown from an offset on. -/
theorem plan_shown {offset m : Nat} (p : Plan) (b : Fin 12) (h : Segment s.siteView m p.words) (place : offset = 4 * m) :
    s.shows 12 offset [p.round, byteFields p.roundLength p.flags.byte 1 0, field p.coverSolar, field p.coverBattery, field p.potSolar,
      field p.potBattery, field p.potGrid, signedField p.setpoint] ∧
    s.shows 12 (offset + 0x20 + 12 * b.val) (p.bays[b]).words :=
  ⟨shows_of_segment (viewOf_site s) (h.trans (planHead_segment p)) place,
    shows_of_segment (viewOf_site s) (h.trans (planBay_segment p b)) (by omega)⟩

theorem applied_of_some {p : Plan} (applied : s.al.applied = some p) : Segment s.siteView 32 p.words := by
  have h := applied_segment s
  rw [applied] at h
  exact h

theorem staged_of_some {p : Plan} (staged : s.al.staged = some p) : Segment s.siteView 76 p.words := by
  have h := staged_segment s
  rw [Allocator.stagedWords, staged] at h
  exact h

theorem staged_of_none (none : s.al.staged = none) : Segment s.siteView 76 ((s.al.round + 1) :: List.replicate 43 0) := by
  have h := staged_segment s
  rw [Allocator.stagedWords, none] at h
  exact h

theorem latched_of_some {l : Latched} (latched : s.al.latched = some l) : Segment s.siteView 5 (latchedWords (some l)) := by
  have h := latched_segment s
  rw [latched] at h
  exact h

theorem latched_of_none (none : s.al.latched = none) : Segment s.siteView 5 (List.replicate 24 0) := by
  have h := latched_segment s
  rw [none] at h
  exact h

theorem applied_of_none (none : s.al.applied = none) : Segment s.siteView 32 (List.replicate 44 0) := by
  have h := applied_segment s
  rw [none] at h
  exact h

end

/-- Settles O50. -/
theorem ownedWordsReadTheState : Obligations.OwnedWordsReadTheState := by
  intro s b ch v read view shows' blank' one flags bytes halves signed baseWord sets
  have pending (i : Nat) : (read 0x180).getLsbD i = s.nu.pendingFlags.getD i false := getLsbD_pendingWord s.nu i
  have vectors : (s.nu.vectors.toList.map fun x => x.pending).length = 8 := by simp
  refine ⟨rfl, rfl, code_lt _, rfl, rfl, rfl, ?_, rfl, ?_, fun few => toNat_summary few, rfl, rfl, rfl, fun o => identity_past s,
    rfl, rfl, fun none => ⟨?_, fun o low _ => window_none s none low⟩, fun k => selectorWord_some s,
    (pending _).trans (pendingFlags_vector s v), ?_, ?_, toNat_pendingWord_lt s.nu, ?_, ?_, ?_, ?_, ?_, ?_, ?_, rfl, rfl, rfl, rfl,
    rfl, rfl, rfl⟩
  · cases unset : s.clock.timeUnset <;> exact congrArg (fun f => field (bit f)) unset
  · cases held : s.el.hold <;> exact congrArg (fun f => field (bit f)) held
  · change s.pu.selectorWord = 255
    rw [PathUnit.selectorWord, none]
  · rw [pending, NoticeUnit.pendingFlags, getD_append_of_le (Nat.le_of_eq vectors), vectors]
    rfl
  · rw [pending, NoticeUnit.pendingFlags, getD_append_of_le (by rw [vectors]; decide), vectors]
    rfl
  · intro x n bay pair plug pattern
    have layout : s.viewOf bay = s.bayView b := viewOf_bay s b rfl
    have plugged : plugCode x.plug = plug := by cases h : x.plug <;> simp [plug, h] <;> rfl
    have shown : (x.maintenance.map Light.code).getD 0 = pattern := by cases h : x.maintenance <;> simp [pattern, h]
    have middle := shows_of_segment layout (bayWords_segment s b) (offset := 0x40) rfl
    unfold Bay.bayWords at middle
    rw [shown, plugged] at middle
    refine ⟨shows_head s layout (sessionWords_segment s b), middle, shows_of_segment layout (limits_segment s b) rfl,
      blank_of_length layout (Nat.le_of_eq (by rw [length_bayView])), lock_iff x, fun l maintained => ?_, fun none => ?_⟩
    · rw [Bay.light, maintained]
      rfl
    · rw [Bay.light, none]
      cases x.state <;> rfl
  · intro al record
    have site := viewOf_site s
    refine ⟨shows_head s site (siteHead_segment s), fun none => blank_of_segment site (latched_of_none s none) (by decide) (by decide),
      fun l latched => ⟨shows_of_segment site ((latched_of_some s latched).trans (latchedInputs_segment l)) rfl,
        shows_of_segment site ((latched_of_some s latched).trans (latchedBay_segment l b)) (by omega)⟩,
      shows_of_segment site (overlimit_segment s) rfl,
      fun none => blank_of_segment site (applied_of_none s none) (by decide) (by decide),
      fun p applied => plan_shown s p b (applied_of_some s applied) rfl, fun none => ⟨?_, ?_⟩,
      fun p staged => plan_shown s p b (staged_of_some s staged) rfl, blank_of_length site (Nat.le_of_eq (by rw [length_siteView]))⟩
    · exact shows_of_segment site (staged_of_none s none) (offset := 0x130) rfl 0 _ rfl
    · exact blank_of_segment site ((staged_of_none s none).trans (segment_end [s.al.round + 1] (List.replicate 43 0))) (m := 77)
        (by decide) (by decide)
  · intro a
    have battery := viewOf_battery s
    have head := shows_head s battery (battery_segment s)
    refine ⟨fun i w here => head i w ?_, fun none => ?_, fun p applied => ?_,
      fun none => blank_of_segment battery (noEvent_segment s none) (by decide) (by decide),
      fun e last => shows_of_segment battery (event_segment s last) rfl,
      blank_of_length battery (Nat.le_of_eq (by rw [length_batteryView]))⟩
    · exact (List.getElem?_append_left (List.getElem?_eq_some_iff.mp here).1).trans here
    · exact (head 7 _ rfl).trans (by rw [none]; rfl)
    · exact (head 7 _ rfl).trans (by rw [applied]; rfl)
  · intro el first
    have error := viewOf_error s
    have named : (s.el.first.map ErrorKind.number).getD 255 = first := by cases h : s.el.first <;> simp [first, el, h]
    have head := shows_head s error (errorHead_segment s.el)
    rw [named] at head
    refine ⟨head, fun i e here => ?_, blank_of_length error (length_errorView s.el ▸ (by omega : 4 * (4 + 6 * s.el.records.length) ≤ 0x10 + 24 * s.el.records.length))⟩
    intro k bay
    have absent : (k.bay.map Fin.val).getD 255 = bay := by cases h : k.bay <;> simp [bay, h]
    have words := shows_of_segment error (record_segment here) (offset := 0x10 + 24 * i) (by omega)
    rw [errorWords_eq e absent] at words
    exact words
  · intro n x
    have notice := viewOf_notice s
    have head := shows_head s notice (noticeHead_segment s.nu)
    have map : view 15 0x04 = causeMapWord s.nu.causeMap := head 1 _ rfl
    have marks : view 15 0x08 = byteFields s.nu.pendingBits s.nu.queuedBits 0 0 := head 2 _ rfl
    obtain ⟨low, flag⟩ := getLsbD_flagBytes (fs := s.nu.vectors.toList.map fun v => v.pending)
      (gs := s.nu.vectors.toList.map fun v => v.queued) (by simp) (by simp)
    rw [map, marks]
    refine ⟨fun i w here => head i w ?_, causeMapWord_digit .., (flag v.val v.isLt).1.trans ?_, (flag v.val v.isLt).2.trans ?_, low,
      head 3 _ rfl, shows_of_segment notice (vector_segment s v) (by omega), blank_of_length notice (Nat.le_of_eq (by rw [length_noticeView]))⟩
    · exact (List.getElem?_append_left (List.getElem?_eq_some_iff.mp here).1).trans here
    · simp [State.vector, x]
    · simp [State.vector, x]
  · intro c
    exact ⟨shows_of_segment (viewOf_meter s) (channel_segment s ch) (by omega), blank_of_length (viewOf_meter s) (Nat.le_of_eq (by rw [length_meterView]))⟩
  · intro r
    have ring := viewOf_ring s
    refine ⟨shows_head s ring (ringHead_segment s), fun none => ?_, fun q k last => ?_,
      shows_of_segment ring (ringTail_segment s) rfl, blank_of_length ring (Nat.le_of_eq (by rw [length_ringView]))⟩
    · have words := abandoned_segment s
      rw [none] at words
      exact blank_of_segment ring (n := 2) words (by decide) (by decide)
    · have words := abandoned_segment s
      rw [last] at words
      exact shows_of_segment ring words rfl

end Sys2Proof.Machine
end

section
/-! The records of a snapshot and the window they go to. -/

namespace Sys2Proof.Machine

/-! ## The window (R110, R115, R118) -/

/-- Two ranges of addresses, neither empty, have an address in common just when each starts before the other ends. -/
theorem rangesMeet_iff {a n c l : Nat} (some : 0 < n) (some' : 0 < l) :
    rangesMeet a n c l = true ↔ ∃ m, a ≤ m ∧ m < a + n ∧ c ≤ m ∧ m < c + l := by
  rw [rangesMeet, Bool.and_eq_true, decide_eq_true_iff, decide_eq_true_iff]
  constructor
  · rintro ⟨first, second⟩
    exact ⟨max a c, by omega, by omega, by omega, by omega⟩
  · rintro ⟨m, low, high, low', high'⟩
    omega

theorem windowsMeet_iff (g : ReceiptGeometry) (v : SnapshotWriter) (wide : 0 < v.stride) : windowsMeet g v = true ↔ ∃ a c m : Nat,
    g.base = some a ∧ v.base = some c ∧ a ≤ m ∧ m < a + 64 * g.slots ∧ c ≤ m ∧ m < c + 13 * v.stride := by
  unfold windowsMeet
  cases ring : g.base with
  | none => simp
  | some a =>
    cases window : v.base with
    | none => simp
    | some c =>
      have long : 0 < v.len := by unfold SnapshotWriter.len; omega
      have length : g.len = 64 * g.slots := Nat.mul_comm ..
      simp only [Bool.and_eq_true, bne_iff_ne, Option.some.injEq]
      constructor
      · rintro ⟨slots, meet⟩
        obtain ⟨m, h⟩ := (rangesMeet_iff (by omega) long).mp meet
        rw [length] at h
        exact ⟨a, c, m, rfl, rfl, h⟩
      · rintro ⟨a', c', m, rfl, rfl, h⟩
        have slots : g.slots ≠ 0 := by omega
        refine ⟨slots, (rangesMeet_iff (by omega) long).mpr ⟨m, ?_⟩⟩
        rw [length]
        exact h

section
variable {s : State} {base stride decimation : Word}

theorem geometry_eq : snapshotGeometryOf base stride decimation =
    { base := if base = 0xFFFFFFFF then none else some base.toNat, stride := stride.toNat, decimation := decimation.toNat } := by
  have coded : base.toNat = wordMax ↔ base = 0xFFFFFFFF := by
    rw [← BitVec.toNat_inj]
    rfl
  unfold snapshotGeometryOf baseOf
  rw [ite_congr_iff coded rfl rfl]

/-- The arguments are taken when they give a window that fits, apart from the receipt window. -/
theorem windowLegal_iff (g : ReceiptGeometry) : let w := snapshotGeometryOf base stride decimation
    (!snapshotFits w || windowsMeet g w) = false ↔
      32 ≤ stride.toNat ∧ stride.toNat ≤ 256 ∧ stride.toNat % 32 = 0 ∧ 1 ≤ decimation.toNat ∧ decimation.toNat ≤ 16 ∧
      (base = 0xFFFFFFFF ∨ base.toNat % 32 = 0 ∧ base.toNat + 13 * stride.toNat ≤ 0x3FFF000) ∧ windowsMeet g w = false := by
  have coded : base.toNat = 0xFFFFFFFF ↔ base = 0xFFFFFFFF := by
    rw [← BitVec.toNat_inj]
    rfl
  have fits := snapshotFits_iff base.toNat stride.toNat decimation.toNat
  rw [coded] at fits
  intro w
  rw [Bool.or_eq_false_iff, Bool.not_eq_false', show snapshotFits w = true ↔ _ from fits]
  simp only [and_assoc]

theorem setSnapshotWindowEffect_taken
    (legal : (!snapshotFits (snapshotGeometryOf base stride decimation) ||
      windowsMeet s.rw.geometry (snapshotGeometryOf base stride decimation)) = false) :
    setSnapshotWindowEffect base stride decimation s =
      ({ s.removeEntries EntryKind.isSnapshot with sw := snapshotGeometryOf base stride decimation }.windowsChanged, some (.done 0 0)) :=
  if_neg (Bool.eq_false_iff.mp legal)

theorem setSnapshotWindowEffect_refused
    (illegal : ¬ (!snapshotFits (snapshotGeometryOf base stride decimation) ||
      windowsMeet s.rw.geometry (snapshotGeometryOf base stride decimation)) = false) :
    setSnapshotWindowEffect base stride decimation s = (s, some (.refused .badArgument 0)) :=
  if_pos (eq_true_of_ne_false illegal)

end

/-! ## The records (R112, R113, spec/11 11.5) -/

theorem stateCode_le (c : BayState) : c.code ≤ 9 := by cases c <;> decide

theorem bayRecord_fields (s : State) (b : Fin 12) :
    let record := s.bayRecord b
    let x := s.bay b
    let t := x.session.tallies
    record.length = 32 ∧ leNat record 0 1 = b.val ∧ leNat record 1 1 = x.state.code ∧
    leNat record 2 1 = (if x.state.isOpen then classCode x.session.cls else 0) ∧
    leNat record 3 1 = bit x.state.isOpen + 2 * bit x.session.timeUnset + 4 * bit x.session.fault +
      8 * bit (decide (0 < t.overQuota)) + 16 * bit x.maintenance.isSome ∧
    leNat record 4 4 = s.al.round.toNat ∧ leNat record 8 4 = x.shownSession.toNat ∧
    leNat record 12 4 = min t.total wordMax ∧ leNat record 16 4 = min t.solar wordMax ∧
    leNat record 20 4 = min t.battery wordMax ∧ leNat record 24 4 = min t.grid wordMax ∧
    leNat record 28 2 = min t.overQuota 65535 ∧ leNat record 30 1 = min (x.allowance / 100) 255 ∧
    leNat record 31 1 = min (s.estimate (bayChannel b) / 100) 255 := by
  intro record x t
  have form : record = leBytes 1 b.val ++ (leBytes 1 x.state.code ++ (leBytes 1 (if x.state.isOpen then classCode x.session.cls else 0) ++
      (leBytes 1 x.snapshotFlags ++ (wordBytes s.al.round ++ (wordBytes x.shownSession ++ (leBytes 4 t.total ++ (leBytes 4 t.solar ++
      (leBytes 4 t.battery ++ (leBytes 4 t.grid ++ (leBytes 2 t.overQuota ++ (leBytes 1 (x.allowance / 100) ++
      leBytes 1 (s.estimate (bayChannel b) / 100)))))))))))) := by
    simp only [record, State.bayRecord, List.append_assoc]
    rfl
  have bay : b.val ≤ 255 := by omega
  have state : x.state.code ≤ 255 := Nat.le_trans (stateCode_le _) (by decide)
  have cls : (if x.state.isOpen then classCode x.session.cls else 0) ≤ 255 := by
    split
    · exact classCode_le _
    · exact Nat.zero_le _
  have flags : x.snapshotFlags ≤ 255 := Nat.le_trans (Nat.le_of_lt (bits_lt _)) (by simp)
  have flagsByte : min x.snapshotFlags 255 = bit x.state.isOpen + 2 * bit x.session.timeUnset + 4 * bit x.session.fault +
      8 * bit (decide (0 < t.overQuota)) + 16 * bit x.maintenance.isSome := by
    rw [Nat.min_eq_left flags]
    simp only [Bay.snapshotFlags, bits, t]
    omega
  refine ⟨?_, ?_, ?_, ?_, ?_, ?_, ?_, ?_, ?_, ?_, ?_, ?_, ?_, ?_⟩
  · simp [form]
  all_goals rw [form]
  all_goals
    simp [leNat_leBytes, leNat_leBytes_skip, leNat_wordBytes, leNat_wordBytes_skip, leNat_leBytes_last, bay, state, cls, flagsByte]

theorem siteRecord_fields (s : State) (p : Plan) :
    let site := s.siteRecord p
    site.length = 32 ∧ leNat site 0 4 = s.al.round.toNat ∧ leNat site 4 4 = min (s.estimate 12) wordMax ∧
    leNat site 8 4 = min (s.estimate 13) wordMax ∧ leNat site 12 4 = min (s.estimate 14) wordMax ∧
    leNat site 16 4 = min s.ba.eb wordMax ∧ leNat site 20 4 = (BitVec.ofInt 32 p.setpoint).toNat ∧
    leNat site 24 4 = min p.budget wordMax ∧
    leNat site 28 1 = bit p.flags.shopOver + 2 * bit p.flags.held + 4 * bit p.flags.detached + 8 * bit p.flags.corrected ∧
    leNat site 29 1 = bit s.el.hold ∧ leNat site 30 1 = bit (s.pu.link == .attached) ∧ leNat site 31 1 = 0 := by
  intro site
  have form : site = wordBytes s.al.round ++ (leBytes 4 (s.estimate 12) ++ (leBytes 4 (s.estimate 13) ++ (leBytes 4 (s.estimate 14) ++
      (leBytes 4 s.ba.eb ++ (wordBytes (signedField p.setpoint) ++ (leBytes 4 p.budget ++ (leBytes 1 p.flags.byte ++
      (leBytes 1 (bit s.el.hold) ++ (leBytes 1 (bit (s.pu.link == .attached)) ++ leBytes 1 0))))))))) := by
    simp only [site, State.siteRecord, List.append_assoc]
  have flags : p.flags.byte ≤ 255 := Nat.le_trans (Nat.le_of_lt (bits_lt _)) (by simp)
  have flagsByte : min p.flags.byte 255 =
      bit p.flags.shopOver + 2 * bit p.flags.held + 4 * bit p.flags.detached + 8 * bit p.flags.corrected := by
    rw [Nat.min_eq_left flags]
    simp only [PlanFlags.byte, bits]
    omega
  have one (f : Bool) : bit f ≤ 255 := by cases f <;> decide
  refine ⟨?_, ?_, ?_, ?_, ?_, ?_, ?_, ?_, ?_, ?_, ?_, ?_⟩
  · simp [form]
  all_goals rw [form]
  all_goals
    simp [leNat_leBytes, leNat_leBytes_skip, leNat_wordBytes, leNat_wordBytes_skip, leNat_leBytes_last, one, flagsByte, signedField]

end Sys2Proof.Machine
end

section
/-! Snapshots in the queue: which wait for a place, and what leaves them as they are. -/

namespace Sys2Proof.Machine

/-! ## A record handed over (R114) -/

theorem waitsFor_iff (e : Entry) (place : Nat) :
    e.waitsFor place = true ↔ (∃ i, e.kind = .snapshot i) ∧ e.begun = false ∧ e.addr = place := by
  have snapshot : e.kind.isSnapshot = true ↔ ∃ i, e.kind = .snapshot i := by cases e.kind <;> simp [EntryKind.isSnapshot]
  simp only [Entry.waitsFor, Bool.and_eq_true, snapshot, Bool.not_eq_true', beq_iff_eq, and_assoc]

/-- The snapshots that wait for a place. -/
def State.waiting (s : State) (place : Nat) : List Entry := s.pu.queue.filter (·.waitsFor place)

/-- An entry with the bytes of a record handed over for a place. -/
def Entry.takeRecord (place : Nat) (bytes : List Byte) (e : Entry) : Entry := if e.waitsFor place then { e with bytes := bytes } else e

theorem waitsFor_takeRecord (e : Entry) (place other : Nat) (bytes : List Byte) :
    (e.takeRecord place bytes).waitsFor other = e.waitsFor other := by
  unfold Entry.takeRecord
  split <;> rfl

section
variable {s : State} {i : Fin 13} {place : Nat} {bytes : List Byte}

theorem queueRecord_new (none : ∀ e ∈ s.pu.queue, ¬ e.waitsFor place = true) :
    s.queueRecord i place bytes = s.enqueue { kind := .snapshot i, addr := place, bytes := bytes } := by
  refine if_neg fun waits => ?_
  obtain ⟨e, mem, waits⟩ := List.any_eq_true.mp waits
  exact none e mem waits

theorem queueRecord_replaces (some : ∃ e ∈ s.pu.queue, e.waitsFor place = true) : s.queueRecord i place bytes =
    { s with pu := { s.pu with queue := s.pu.queue.map (Entry.takeRecord place bytes) } } :=
  if_pos (List.any_eq_true.mpr some)

/-- A record handed over is the content of all that then waits for its place. -/
theorem waiting_queueRecord_self : (s.queueRecord i place bytes).waiting place ≠ [] ∧
    ∀ e ∈ (s.queueRecord i place bytes).waiting place, e.bytes = bytes := by
  by_cases some : ∃ e ∈ s.pu.queue, e.waitsFor place = true
  · rw [queueRecord_replaces some]
    obtain ⟨e, mem, waits⟩ := some
    constructor
    · refine List.ne_nil_of_mem (a := e.takeRecord place bytes) (List.mem_filter.mpr ⟨List.mem_map_of_mem mem, ?_⟩)
      rw [waitsFor_takeRecord]
      exact waits
    · intro d taken
      obtain ⟨mem, waits⟩ := List.mem_filter.mp taken
      obtain ⟨old, -, rfl⟩ := List.mem_map.mp mem
      rw [waitsFor_takeRecord] at waits
      rw [Entry.takeRecord, if_pos waits]
  · have none : ∀ e ∈ s.pu.queue, ¬ e.waitsFor place = true := fun e mem waits => some ⟨e, mem, waits⟩
    have old : s.pu.queue.filter (·.waitsFor place) = [] := List.filter_eq_nil_iff.mpr none
    have waiting : (s.queueRecord i place bytes).waiting place = [{ kind := .snapshot i, addr := place, bytes := bytes }] := by
      rw [queueRecord_new none, State.waiting, queue_enqueue, List.filter_append, old]
      simp [Entry.waitsFor, EntryKind.isSnapshot]
    rw [waiting]
    refine ⟨List.cons_ne_nil _ _, fun e mem => ?_⟩
    rw [List.mem_singleton.mp mem]

theorem waiting_queueRecord_of_ne {other : Nat} (different : other ≠ place) :
    (s.queueRecord i place bytes).waiting other = s.waiting other := by
  by_cases some : ∃ e ∈ s.pu.queue, e.waitsFor place = true
  · rw [queueRecord_replaces some, State.waiting, State.waiting]
    have same : (fun e : Entry => e.waitsFor other) ∘ Entry.takeRecord place bytes = fun e => e.waitsFor other :=
      funext fun e => waitsFor_takeRecord e place other bytes
    have keeps : ∀ e ∈ s.pu.queue.filter (·.waitsFor other), e.takeRecord place bytes = e := by
      intro e mem
      have here : e.addr = other := ((waitsFor_iff e other).mp (List.mem_filter.mp mem).2).2.2
      exact if_neg fun waits => different (here.symm.trans ((waitsFor_iff e place).mp waits).2.2)
    dsimp only
    rw [List.filter_map, same]
    exact (List.map_congr_left keeps).trans (List.map_id _)
  · have new : Entry.waitsFor { kind := .snapshot i, addr := place, bytes := bytes } other = false := by
      simp [Entry.waitsFor, different.symm]
    rw [queueRecord_new fun e mem waits => some ⟨e, mem, waits⟩, State.waiting, queue_enqueue, List.filter_append,
      List.filter_cons_of_neg (by rw [new]; exact Bool.false_ne_true)]
    exact List.append_nil _

end

/-! ## What passes the snapshots by -/

/-- A property of entries that no notice has. -/
def passesNotices (f : Entry → Bool) : Prop := ∀ e v, e.kind = .notice v → f e = false

theorem waitsFor_passesNotices (place : Nat) : passesNotices (·.waitsFor place) := by
  intro e v kind
  simp [Entry.waitsFor, kind, EntryKind.isSnapshot]

theorem isSnapshot_passesNotices : passesNotices (·.kind.isSnapshot) := by
  intro e v kind
  simp [kind, EntryKind.isSnapshot]

section
variable {f : Entry → Bool} (blind : passesNotices f) (s : State)
include blind

theorem filter_queueNotice (v : Fin 8) : (s.queueNotice v).pu.queue.filter f = s.pu.queue.filter f := by
  rw [queue_queueNotice, List.filter_append, List.filter_cons_of_neg (by rw [blind _ v rfl]; exact Bool.false_ne_true)]
  exact List.append_nil _

theorem filter_fire (c : Cause) : (s.fire c).pu.queue.filter f = s.pu.queue.filter f := by
  unfold State.fire
  dsimp only
  repeat' split
  · rfl
  · rfl
  · exact filter_queueNotice blind s _
  · rfl

theorem filter_record (r : Recording) : (s.record r).pu.queue.filter f = s.pu.queue.filter f := by
  unfold State.record
  dsimp only
  repeat' split
  · rfl
  · rw [filter_fire blind, filter_fire blind]
  · rw [filter_fire blind]

theorem filter_releaseVectors : s.releaseVectors.pu.queue.filter f = s.pu.queue.filter f := by
  unfold State.releaseVectors
  generalize List.finRange 8 = vs
  refine keeps_foldl (P := fun t : State => t.pu.queue.filter f = s.pu.queue.filter f) (fun t v kept => ?_) vs rfl
  rw [← kept]
  unfold State.releaseVector
  dsimp only
  repeat' split
  · rfl
  · exact filter_queueNotice blind _ _
  · rfl

theorem filter_vectorFault (v : Fin 8) : (s.vectorFault v).pu.queue.filter f = s.pu.queue.filter f := by
  unfold State.vectorFault
  exact filter_record blind s _

theorem filter_windowsChanged : s.windowsChanged.pu.queue.filter f = s.pu.queue.filter f := by
  unfold State.windowsChanged
  rw [filter_releaseVectors blind]
  generalize List.finRange 8 = vs
  refine keeps_foldl (P := fun t : State => t.pu.queue.filter f = s.pu.queue.filter f) (fun t v kept => ?_) vs rfl
  split
  · exact (filter_vectorFault blind t v).trans kept
  · exact kept

theorem filter_batteryEvent (b : BatteryAccount) : (s.batteryEvent b).pu.queue.filter f = s.pu.queue.filter f := by
  unfold State.batteryEvent
  dsimp only
  split
  · exact filter_fire blind _ _
  · rfl

theorem filter_takePlan (b : Fin 12) (p : PlanBay) : (s.takePlan b p).pu.queue.filter f = s.pu.queue.filter f := by
  have granted (y : Bay) (c : Prop) [Decidable c] (g : Channel → Channel) :
      (if c then (s.setBay b y).onChannel (bayChannel b) g else s.setBay b y).pu.queue.filter f = s.pu.queue.filter f := by
    split <;> rfl
  unfold State.takePlan
  dsimp only
  split
  · exact (filter_fire blind _ _).trans (granted _ _ _)
  · exact granted _ _ _

theorem filter_latch : s.latch.pu.queue.filter f = s.pu.queue.filter f := by
  unfold State.latch
  dsimp only
  split
  · exact filter_record blind _ _
  · rfl

/-- Away from a snapshot boundary no part of a plan touches the snapshots. -/
theorem filter_takePart_plain (p : Plan) (part : BoundaryPart) :
    (s.takePart p false part).pu.queue.filter f = s.pu.queue.filter f := by
  cases part with
  | bay b => exact filter_takePlan blind s b _
  | setpoint => exact filter_batteryEvent blind s _
  | trigger => rfl

theorem filter_takeParts_plain (p : Plan) (parts : List BoundaryPart) :
    (s.takeParts p false parts).pu.queue.filter f = s.pu.queue.filter f :=
  keeps_foldl (P := fun t : State => t.pu.queue.filter f = s.pu.queue.filter f)
    (fun t part kept => (filter_takePart_plain blind t p part).trans kept) parts rfl

end

end Sys2Proof.Machine
end

section
/-! The parts of a snapshot boundary: each record goes to its place and stays there. -/

namespace Sys2Proof.Machine

/-! ## Which record a part composes (R111) -/

/-- The place of a part's record in the window. -/
def BoundaryPart.index : BoundaryPart → Option Nat
  | .bay b => some b.val
  | .trigger => some 12
  | .setpoint => none

/-- The record a part composes as the part of the machine stands. -/
def State.recordOf (s : State) (p : Plan) : BoundaryPart → List Byte
  | .bay b => s.bayRecord b
  | .trigger => s.siteRecord p
  | .setpoint => []

theorem index_injective {part other : BoundaryPart} {i : Nat} (here : part.index = some i) (there : other.index = some i) :
    part = other := by
  cases part <;> cases other <;> simp [BoundaryPart.index, Fin.ext_iff] at here there ⊢ <;> omega

theorem estimate_congr {s t : State} {ch : Fin 17} (channel : (t.channel ch).unsilenced = (s.channel ch).unsilenced)
    (config : t.meterConfig = s.meterConfig) (clock : t.clock = s.clock) : t.estimate ch = s.estimate ch := by
  have period : (t.channel ch).lastPeriod = (s.channel ch).lastPeriod := by
    have same := congrArg Channel.lastPeriod channel
    exact same
  have edge : (t.channel ch).lastEdge = (s.channel ch).lastEdge := by
    have same := congrArg Channel.lastEdge channel
    exact same
  unfold State.estimate
  dsimp only
  rw [period, edge, config, clock]

theorem bayRecord_congr {s t : State} {b : Fin 12} (bay : t.bay b = s.bay b) (al : t.al = s.al)
    (estimate : t.estimate (bayChannel b) = s.estimate (bayChannel b)) : t.bayRecord b = s.bayRecord b := by
  unfold State.bayRecord
  rw [bay, al, estimate]

theorem siteRecord_congr {s t : State} (p : Plan) (al : t.al = s.al) (estimate : ∀ ch, t.estimate ch = s.estimate ch)
    (eb : t.ba.eb = s.ba.eb) (el : t.el = s.el) (link : t.pu.link = s.pu.link) : t.siteRecord p = s.siteRecord p := by
  unfold State.siteRecord
  rw [al, estimate, estimate, estimate, eb, el, link]

section
variable (s : State) (p : Plan) (snapshot : Bool)

theorem estimate_takePart (part : BoundaryPart) (ch : Fin 17) : (s.takePart p snapshot part).estimate ch = s.estimate ch := by
  have frame := takePart_frame s p snapshot part
  exact estimate_congr (unsilenced_takePart p snapshot ch s part) (frame.same .meterConfig (by decide)).symm
    (frame.same .clock (by decide)).symm

theorem eb_takeSetpoint (w : Int) : (s.takeSetpoint w).ba.eb = s.ba.eb := by
  obtain ⟨e, event⟩ := afterEvent_eq s.ba (s.ba.drive w) s.clock.siteTime s.al.round
  rw [ba_takeSetpoint, event]
  change (s.ba.drive w).eb = s.ba.eb
  unfold BatteryAccount.drive
  split <;> rfl

theorem eb_takePart (part : BoundaryPart) : (s.takePart p snapshot part).ba.eb = s.ba.eb := by
  by_cases setpoint : part = .setpoint
  · rw [setpoint]
    exact eb_takeSetpoint s p.setpoint
  · exact congrArg (fun v => v.1.eb) (batteryInputs_takePart_of_ne p snapshot s part setpoint)

/-- A part leaves the records of the other parts as they would be composed before it. -/
theorem recordOf_takePart_of_ne {part other : BoundaryPart} (different : other ≠ part) :
    (s.takePart p snapshot other).recordOf p part = s.recordOf p part := by
  have frame := takePart_frame s p snapshot other
  have al := (frame.same .al (by decide)).symm
  cases part with
  | bay b => exact bayRecord_congr (bay_takePart_of_ne p snapshot s other different) al (estimate_takePart ..)
  | setpoint => rfl
  | trigger =>
    have link := congrArg Prod.fst (standing_takePart s p snapshot other)
    exact siteRecord_congr p al (estimate_takePart s p snapshot other) (eb_takePart ..) (frame.same .el (by decide)).symm link

theorem recordOf_queueSnapshot (i : Fin 13) (bytes : List Byte) (part : BoundaryPart) :
    (s.queueSnapshot i bytes).recordOf p part = s.recordOf p part := by
  have frame := queueSnapshot_frame s i bytes
  have al := (frame.same .al (by decide)).symm
  have estimate (ch : Fin 17) : (s.queueSnapshot i bytes).estimate ch = s.estimate ch :=
    estimate_congr (congrArg Channel.unsilenced (channel_congr (frame.same .channels (by decide)).symm ch))
      (frame.same .meterConfig (by decide)).symm (frame.same .clock (by decide)).symm
  cases part with
  | bay b => exact bayRecord_congr (bay_queueSnapshot ..) al (estimate _)
  | setpoint => rfl
  | trigger =>
    have eb := congrArg BatteryAccount.eb (frame.same .ba (by decide)).symm
    have link := congrArg Prod.fst (standing_queueSnapshot s i bytes)
    exact siteRecord_congr p al estimate eb (frame.same .el (by decide)).symm link

end

/-! ## A record at its place -/

/-- A part's record waits at a place, as it would be composed now. -/
def State.recorded (s : State) (p : Plan) (part : BoundaryPart) (place : Nat) : Prop :=
  s.waiting place ≠ [] ∧ ∀ e ∈ s.waiting place, e.bytes = s.recordOf p part

section
variable {s : State} {p : Plan} {a i : Nat} {part : BoundaryPart}

theorem queueSnapshot_window (base : s.sw.base = some a) (j : Fin 13) (bytes : List Byte) :
    s.queueSnapshot j bytes = s.queueRecord j (a + j.val * s.sw.stride) bytes := by
  unfold State.queueSnapshot
  rw [base]

theorem queueSnapshot_none (none : s.sw.base = none) (j : Fin 13) (bytes : List Byte) : s.queueSnapshot j bytes = s := by
  unfold State.queueSnapshot
  rw [none]

theorem recorded_queueSnapshot (base : s.sw.base = some a) {j : Fin 13} (place : j.val = i) :
    (s.queueSnapshot j (s.recordOf p part)).recorded p part (a + i * s.sw.stride) := by
  unfold State.recorded
  rw [recordOf_queueSnapshot, queueSnapshot_window base, place]
  exact waiting_queueRecord_self

theorem takePart_self_recorded (base : s.sw.base = some a) (index : part.index = some i) :
    (s.takePart p true part).recorded p part (a + i * s.sw.stride) := by
  cases part with
  | bay b =>
    have window : (s.takePlan b p.bays[b]).sw = s.sw := sw_takePlan ..
    rw [← window]
    exact recorded_queueSnapshot (part := .bay b) (s := s.takePlan b p.bays[b]) (by rw [window]; exact base) (Option.some.inj index)
  | setpoint => cases index
  | trigger => exact recorded_queueSnapshot (part := .trigger) base (Option.some.inj index)

theorem waiting_queueSnapshot_of_ne {t : State} (window : t.sw = s.sw) (base : s.sw.base = some a) (wide : 0 < s.sw.stride) {j : Fin 13}
    (other : j.val ≠ i) (bytes : List Byte) :
    (t.queueSnapshot j bytes).waiting (a + i * s.sw.stride) = t.waiting (a + i * s.sw.stride) := by
  rw [queueSnapshot_window (by rw [window]; exact base), window]
  refine waiting_queueRecord_of_ne fun same => other ?_
  exact (Nat.eq_of_mul_eq_mul_right wide (Nat.add_left_cancel same)).symm

/-- A part leaves what waits at the places of the others. -/
theorem waiting_takePart_of_ne (base : s.sw.base = some a) (wide : 0 < s.sw.stride) (index : part.index = some i)
    {other : BoundaryPart} (different : other ≠ part) :
    (s.takePart p true other).waiting (a + i * s.sw.stride) = s.waiting (a + i * s.sw.stride) := by
  have apart {j : Nat} (there : other.index = some j) : j ≠ i := fun same => different (index_injective there (same ▸ index))
  cases other with
  | bay c =>
    exact (waiting_queueSnapshot_of_ne (sw_takePlan ..) base wide (apart rfl) _).trans
      (filter_takePlan (waitsFor_passesNotices _) s c _)
  | setpoint => exact filter_batteryEvent (waitsFor_passesNotices _) s _
  | trigger => exact waiting_queueSnapshot_of_ne rfl base wide (apart rfl) _

theorem sw_takePart (s : State) (p : Plan) (snapshot : Bool) (part : BoundaryPart) : (s.takePart p snapshot part).sw = s.sw :=
  ((takePart_frame s p snapshot part).same .sw (by decide)).symm

variable (p)

/-- What waits at the place of a part not taken stays. -/
theorem waiting_takeParts_of_not_mem (base : s.sw.base = some a) (wide : 0 < s.sw.stride) (index : part.index = some i)
    (parts : List BoundaryPart) (absent : part ∉ parts) :
    (s.takeParts p true parts).waiting (a + i * s.sw.stride) = s.waiting (a + i * s.sw.stride) := by
  induction parts generalizing s with
  | nil => rfl
  | cons first rest ih =>
    have window := sw_takePart s p true first
    have later := ih (s := s.takePart p true first) (by rw [window]; exact base) (by rw [window]; exact wide)
      fun late => absent (List.mem_cons_of_mem _ late)
    rw [window] at later
    exact later.trans (waiting_takePart_of_ne base wide index fun same => absent (same ▸ List.mem_cons_self))

/-- The record of a part taken waits at its place after all of them. -/
theorem takeParts_recorded (base : s.sw.base = some a) (wide : 0 < s.sw.stride) (index : part.index = some i)
    (parts : List BoundaryPart) (taken : part ∈ parts ∨ s.recorded p part (a + i * s.sw.stride)) :
    (s.takeParts p true parts).recorded p part (a + i * s.sw.stride) := by
  induction parts generalizing s with
  | nil => exact taken.resolve_left List.not_mem_nil
  | cons first rest ih =>
    have window := sw_takePart s p true first
    have later := ih (s := s.takePart p true first) (by rw [window]; exact base) (by rw [window]; exact wide)
    rw [window] at later
    refine later ?_
    by_cases this : first = part
    · rw [this]
      exact .inr (takePart_self_recorded base index)
    · refine taken.imp (fun mem => (List.mem_cons.mp mem).resolve_left (Ne.symm this)) fun recorded => ?_
      unfold State.recorded
      rw [waiting_takePart_of_ne base wide index this, recordOf_takePart_of_ne s p true this]
      exact recorded

/-- With no window no part queues a record. -/
theorem filter_takeParts_none {f : Entry → Bool} (blind : passesNotices f) (none : s.sw.base = none) (parts : List BoundaryPart) :
    (s.takeParts p true parts).pu.queue.filter f = s.pu.queue.filter f := by
  induction parts generalizing s with
  | nil => rfl
  | cons first rest ih =>
    have window := sw_takePart s p true first
    refine (ih (s := s.takePart p true first) (by rw [window]; exact none)).trans ?_
    cases first with
    | bay b =>
      change ((s.takePlan b p.bays[b]).queueSnapshot _ _).pu.queue.filter f = _
      rw [queueSnapshot_none (by rw [sw_takePlan]; exact none)]
      exact filter_takePlan blind s b _
    | setpoint => exact filter_batteryEvent blind s _
    | trigger =>
      change (s.queueSnapshot _ _).pu.queue.filter f = _
      rw [queueSnapshot_none none]

end

end Sys2Proof.Machine
end

section
/-! The snapshots of a boundary, with and without a window change between its parts. -/

namespace Sys2Proof.Machine

/-! ## A boundary and the window -/

/-- The state in which the parts of a boundary are taken, from that in which the round number has advanced. -/
def State.handedOver (u : State) (p : Plan) : State := u.meterBoundary.latch.applyPlan p

section
variable (u : State) (p : Plan)

theorem sw_handedOver : (u.handedOver p).sw = u.sw := ((applyLatched_frame u p).same .sw (by decide)).symm

theorem rw_handedOver : (u.handedOver p).rw = u.rw := ((applyLatched_frame u p).same .rw (by decide)).symm

theorem cu_handedOver : (u.handedOver p).cu = u.cu := ((applyLatched_frame u p).same .cu (by decide)).symm

theorem filter_handedOver {f : Entry → Bool} (blind : passesNotices f) :
    (u.handedOver p).pu.queue.filter f = u.pu.queue.filter f := filter_latch blind u.meterBoundary

theorem boundary_whole (order : List Nat) :
    u.boundary p ⟨order, none⟩ = (u.handedOver p).takeParts p u.snapshotDue (arrange 14 order boundaryParts) := rfl

theorem boundary_cut (order : List Nat) (k : Nat) : u.boundary p ⟨order, some k⟩ =
    ((u.handedOver p).takeParts p u.snapshotDue ((arrange 14 order boundaryParts).take k)).takeHeldWindow.takeParts p u.snapshotDue
      ((arrange 14 order boundaryParts).drop k) := rfl

theorem takeParts_append (snapshot : Bool) (first later : List BoundaryPart) :
    u.takeParts p snapshot (first ++ later) = (u.takeParts p snapshot first).takeParts p snapshot later := List.foldl_append

end

/-- The state once the round number has advanced. -/
def State.nextRound (s : State) : State := { s with al := { s.al with round := s.al.round + 1 } }

section
variable {s : State} {p : Plan} {order : List Nat}

theorem exec_roundBoundary (timer : s.al.boundaryTimer = some 0) (staged : s.al.staged = some p) (w : BoundaryOrder) :
    exec (.roundBoundary w) s = .next (s.nextRound.boundary p w) := by
  have due : s.boundaryDue = some p := (if_pos timer).trans staged
  change execRoundBoundary _ s = _
  unfold execRoundBoundary
  rw [due]
  rfl

theorem snapshotDue_iff : s.nextRound.snapshotDue = true ↔ s.sw.base ≠ none ∧ (s.al.round + 1).toNat % s.sw.decimation = 0 := by
  change (s.sw.base.isSome && (s.al.round + 1).toNat % s.sw.decimation == 0) = true ↔ _
  rw [Bool.and_eq_true, beq_iff_eq, Option.isSome_iff_ne_none]

/-- With no window change in execution it is the same whether one may be taken between the parts. -/
theorem boundary_same (idle : ∀ x y z i words, ¬ s.executes (.setSnapshotWindow x y z) i words) (k : Nat) :
    s.boundary p ⟨order, some k⟩ = s.boundary p ⟨order, none⟩ := by
  rw [boundary_cut, boundary_whole, takeHeldWindow_of_none, ← takeParts_append, List.take_append_drop]
  intro x y z i words executing
  unfold State.executes at executing
  rw [cu_takeParts, cu_handedOver] at executing
  exact idle x y z i words executing

theorem exec_roundBoundary_same (idle : ∀ x y z i words, ¬ s.executes (.setSnapshotWindow x y z) i words) (k : Nat) :
    exec (.roundBoundary ⟨order, some k⟩) s = exec (.roundBoundary ⟨order, none⟩) s := by
  change execRoundBoundary _ s = execRoundBoundary _ s
  unfold execRoundBoundary
  cases s.boundaryDue with
  | none => rfl
  | some p => exact congrArg Host.Outcome.next (boundary_same (s := s.nextRound) idle k)

theorem recorded_iff {part : BoundaryPart} {place : Nat} : s.recorded p part place ↔
    (∃ e ∈ s.pu.queue, (∃ i, e.kind = .snapshot i) ∧ e.begun = false ∧ e.addr = place) ∧
      ∀ e ∈ s.pu.queue, (∃ i, e.kind = .snapshot i) ∧ e.begun = false ∧ e.addr = place → e.bytes = s.recordOf p part := by
  simp only [← waitsFor_iff]
  unfold State.recorded State.waiting
  refine and_congr ?_ ?_
  · rw [ne_eq, List.eq_nil_iff_forall_not_mem]
    simp [List.mem_filter]
  · simp only [List.mem_filter, and_imp]

/-- At a snapshot boundary with no window change each record waits at its place. -/
theorem boundary_recorded {a i : Nat} (base : s.sw.base = some a) (wide : 0 < s.sw.stride) (due : s.snapshotDue = true)
    {part : BoundaryPart} (index : part.index = some i) (mem : part ∈ boundaryParts) :
    (s.boundary p ⟨order, none⟩).recorded p part (a + i * s.sw.stride) := by
  rw [boundary_whole, due]
  have window := sw_handedOver s p
  have taken := takeParts_recorded p (s := s.handedOver p) (window ▸ base) (window ▸ wide) index
    (arrange 14 order boundaryParts) (.inl ((arrange_perm 14 order boundaryParts).mem_iff.mpr mem))
  rw [window] at taken
  exact taken

/-- At any other boundary none is queued. -/
theorem boundary_queues_none (quiet : s.snapshotDue = false) {f : Entry → Bool} (blind : passesNotices f) :
    (s.boundary p ⟨order, none⟩).pu.queue.filter f = s.pu.queue.filter f := by
  rw [boundary_whole, quiet, filter_takeParts_plain blind, filter_handedOver _ _ blind]

end

/-! ## The window change between the parts (R111, log 25) -/

/-- The window changed and what waited for the old one dropped. -/
def State.changeWindow (s : State) (w : SnapshotWriter) : State := { s.removeEntries EntryKind.isSnapshot with sw := w }

/-- The window change taken and answered. -/
def State.takeWindow (s : State) (w : SnapshotWriter) (position : BitVec 4) (words : List Word) : State :=
  (s.changeWindow w).windowsChanged.queueReply position (slotTag words) (.done 0 0)

/-- A snapshot that waits, whatever its place. -/
def Entry.waitsAnywhere (e : Entry) : Bool := e.kind.isSnapshot && !e.begun

theorem waitsAnywhere_passesNotices : passesNotices Entry.waitsAnywhere := by
  intro e v kind
  simp [Entry.waitsAnywhere, kind, EntryKind.isSnapshot]

section
variable {s : State} {w : SnapshotWriter} {position : BitVec 4} {words : List Word}

theorem sw_queueReply (tag : BitVec 16) (r : Reply) : (s.queueReply position tag r).sw = s.sw :=
  ((queueReply_frame s position tag r).same .sw (by decide)).symm

theorem cu_queueReply (tag : BitVec 16) (r : Reply) : (s.queueReply position tag r).cu = { s.cu with step := .replying position } := rfl

theorem filter_queueReply (tag : BitVec 16) (r : Reply) :
    (s.queueReply position tag r).pu.queue.filter Entry.waitsAnywhere = s.pu.queue.filter Entry.waitsAnywhere := by
  change (s.pu.queue ++ [_]).filter Entry.waitsAnywhere = _
  rw [List.filter_append]
  exact List.append_nil _

theorem endExecution_some (r : Reply) : s.endExecution position words (some r) = s.queueReply position (slotTag words) r := rfl

theorem takeHeldWindow_legal {base stride decimation : Word}
    (executing : s.executes (.setSnapshotWindow base stride decimation) position words)
    (legal : (!snapshotFits (snapshotGeometryOf base stride decimation) ||
      windowsMeet s.rw.geometry (snapshotGeometryOf base stride decimation)) = false) :
    s.takeHeldWindow = s.takeWindow (snapshotGeometryOf base stride decimation) position words := by
  have effect : setSnapshotWindowEffect base stride decimation s =
      ((s.changeWindow (snapshotGeometryOf base stride decimation)).windowsChanged, some (.done 0 0)) := setSnapshotWindowEffect_taken legal
  rw [takeHeldWindow_executes executing, effect, State.takeWindow, endExecution_some]

theorem sw_takeWindow : (s.takeWindow w position words).sw = w := by
  unfold State.takeWindow
  rw [sw_queueReply, sw_windowsChanged]
  rfl

theorem cu_takeWindow : (s.takeWindow w position words).cu = { s.cu with step := .replying position } := by
  have kept : (s.changeWindow w).cu = s.cu := cu_removeEntries s EntryKind.isSnapshot
  unfold State.takeWindow
  rw [cu_queueReply, cu_windowsChanged, kept]

/-- The snapshots that wait leave the queue with the window they were for (R116). -/
theorem unbegun_takeWindow : (s.takeWindow w position words).pu.queue.filter Entry.waitsAnywhere = [] := by
  have left : (s.changeWindow w).pu.queue = s.pu.queue.filter fun e => e.begun || !e.kind.isSnapshot := queue_removeEntries ..
  unfold State.takeWindow
  rw [filter_queueReply, filter_windowsChanged waitsAnywhere_passesNotices, left, List.filter_filter]
  refine List.filter_eq_nil_iff.mpr fun e _ => ?_
  unfold Entry.waitsAnywhere
  cases e.begun <;> cases e.kind.isSnapshot <;> decide

theorem begun_of_unbegun (none : s.pu.queue.filter Entry.waitsAnywhere = []) :
    ∀ e ∈ s.pu.queue, e.kind.isSnapshot = true → e.begun = true := by
  intro e mem snapshot
  have absent := List.filter_eq_nil_iff.mp none e mem
  simpa [Entry.waitsAnywhere, snapshot] using absent

theorem waiting_takeWindow (place : Nat) : (s.takeWindow w position words).waiting place = [] := by
  refine List.filter_eq_nil_iff.mpr fun e mem waits => ?_
  obtain ⟨⟨i, kind⟩, unbegun, -⟩ := (waitsFor_iff e place).mp waits
  have begun := begun_of_unbegun unbegun_takeWindow e mem (by rw [kind]; rfl)
  rw [unbegun] at begun
  cases begun

end

section
variable {s : State} {p : Plan} {w : SnapshotWriter} {position : BitVec 4} {words : List Word}

/-- After the change: with no records queued by the parts after it, none waits. -/
theorem takeWindow_queues_none {snapshot : Bool} (quiet : snapshot = false ∨ w.base = none) (parts : List BoundaryPart) :
    ∀ e ∈ ((s.takeWindow w position words).takeParts p snapshot parts).pu.queue, e.kind.isSnapshot = true → e.begun = true := by
  refine begun_of_unbegun ?_
  rw [← unbegun_takeWindow (s := s) (w := w) (position := position) (words := words)]
  cases snapshot with
  | false => exact filter_takeParts_plain waitsAnywhere_passesNotices _ p parts
  | true =>
    have off := quiet.resolve_left Bool.noConfusion
    exact filter_takeParts_none p waitsAnywhere_passesNotices (by rw [sw_takeWindow]; exact off) parts

/-- After the change a part taken before it has no record waiting. -/
theorem takeWindow_earlier {a i : Nat} (base : w.base = some a) (wide : 0 < w.stride) {part : BoundaryPart} (index : part.index = some i)
    {parts : List BoundaryPart} (absent : part ∉ parts) :
    ((s.takeWindow w position words).takeParts p true parts).waiting (a + i * w.stride) = [] := by
  have window := sw_takeWindow (s := s) (w := w) (position := position) (words := words)
  have kept := waiting_takeParts_of_not_mem p (s := s.takeWindow w position words) (by rw [window]; exact base)
    (by rw [window]; exact wide) index parts absent
  rw [window] at kept
  exact kept.trans (waiting_takeWindow _)

/-- After the change each part taken after it has its record at its place in the new window. -/
theorem takeWindow_later {a i : Nat} (base : w.base = some a) (wide : 0 < w.stride) {part : BoundaryPart} (index : part.index = some i)
    {parts : List BoundaryPart} (mem : part ∈ parts) :
    ((s.takeWindow w position words).takeParts p true parts).recorded p part (a + i * w.stride) := by
  have window := sw_takeWindow (s := s) (w := w) (position := position) (words := words)
  have taken := takeParts_recorded p (s := s.takeWindow w position words) (by rw [window]; exact base)
    (by rw [window]; exact wide) index parts (.inl mem)
  rw [window] at taken
  exact taken

end

end Sys2Proof.Machine
end

section
/-! Snapshots go to their window: the statement of R110 to R116 from its parts. -/

namespace Sys2Proof.Machine

/-! ## A record handed over, entry by entry (R114) -/

section
variable {s : State} {i : Fin 13} {place : Nat} {bytes : List Byte}

theorem queueRecord_appends (absent : ∀ e ∈ s.pu.queue, ¬ ((∃ i, e.kind = .snapshot i) ∧ e.begun = false ∧ e.addr = place)) :
    s.queueRecord i place bytes =
      { s with pu := { s.pu with queue := s.pu.queue ++ [{ kind := .snapshot i, addr := place, bytes := bytes }] } } :=
  queueRecord_new fun e mem waits => absent e mem ((waitsFor_iff e place).mp waits)

theorem queueRecord_pointwise (found : ∃ e ∈ s.pu.queue, (∃ i, e.kind = .snapshot i) ∧ e.begun = false ∧ e.addr = place) :
    ∃ queue, s.queueRecord i place bytes = { s with pu := { s.pu with queue := queue } } ∧
      queue.length = s.pu.queue.length ∧ ∀ (k : Nat) (e : Entry), s.pu.queue[k]? = some e →
        ((∃ i, e.kind = .snapshot i) ∧ e.begun = false ∧ e.addr = place → queue[k]? = some { e with bytes := bytes }) ∧
        (¬ ((∃ i, e.kind = .snapshot i) ∧ e.begun = false ∧ e.addr = place) → queue[k]? = some e) := by
  obtain ⟨e, mem, waits⟩ := found
  refine ⟨_, queueRecord_replaces ⟨e, mem, (waitsFor_iff e place).mpr waits⟩, List.length_map .., fun k e there => ?_⟩
  have here : (s.pu.queue.map (Entry.takeRecord place bytes))[k]? = some (e.takeRecord place bytes) := by
    rw [List.getElem?_map, there]
    rfl
  rw [here, ← waitsFor_iff]
  exact ⟨fun waits => congrArg some (if_pos waits), fun other => congrArg some (if_neg other)⟩

end

/-! ## The boundary with the change between its parts -/

section
variable {s : State} {p : Plan} {order : List Nat} {k : Nat} {base stride decimation : Word} {position : BitVec 4} {words : List Word}

theorem boundary_takes_window (executing : s.executes (.setSnapshotWindow base stride decimation) position words)
    (legal : (!snapshotFits (snapshotGeometryOf base stride decimation) ||
      windowsMeet s.rw.geometry (snapshotGeometryOf base stride decimation)) = false) :
    s.boundary p ⟨order, some k⟩ =
      (((s.handedOver p).takeParts p s.snapshotDue ((arrange 14 order boundaryParts).take k)).takeWindow
        (snapshotGeometryOf base stride decimation) position words).takeParts p s.snapshotDue
        ((arrange 14 order boundaryParts).drop k) := by
  rw [boundary_cut, takeHeldWindow_legal (position := position) (words := words) (base := base) (stride := stride)
    (decimation := decimation)]
  · unfold State.executes
    rw [cu_takeParts, cu_handedOver]
    exact executing
  · rw [rw_takeParts, rw_handedOver]
    exact legal

/-- A part taken before the change is not among those after it. -/
theorem earlier_not_later {part : BoundaryPart} (early : part ∈ (arrange 14 order boundaryParts).take k) :
    part ∉ (arrange 14 order boundaryParts).drop k := by
  have nodup := ((arrange_perm 14 order boundaryParts).nodup_iff.mpr boundaryParts_nodup)
  rw [← List.take_append_drop k (arrange 14 order boundaryParts)] at nodup
  exact fun late => (List.nodup_append.mp nodup).2.2 part early part late rfl

theorem sw_boundary_window (executing : s.executes (.setSnapshotWindow base stride decimation) position words)
    (legal : (!snapshotFits (snapshotGeometryOf base stride decimation) ||
      windowsMeet s.rw.geometry (snapshotGeometryOf base stride decimation)) = false) :
    (s.boundary p ⟨order, some k⟩).sw = snapshotGeometryOf base stride decimation := by
  rw [boundary_takes_window executing legal, sw_takeParts, sw_takeWindow]

theorem cu_boundary_window (executing : s.executes (.setSnapshotWindow base stride decimation) position words)
    (legal : (!snapshotFits (snapshotGeometryOf base stride decimation) ||
      windowsMeet s.rw.geometry (snapshotGeometryOf base stride decimation)) = false) :
    (s.boundary p ⟨order, some k⟩).cu = { s.cu with step := .replying position } := by
  rw [boundary_takes_window executing legal, cu_takeParts, cu_takeWindow, cu_takeParts, cu_handedOver]

end

/-- Settles O46. -/
theorem snapshotsGoToTheirWindow : Obligations.SnapshotsGoToTheirWindow := by
  intro s base stride decimation index target bytes b p order k position slot w legal record site x waits one place due
  have geometry : snapshotGeometryOf base stride decimation = w := geometry_eq
  have taken : legal ↔ (!snapshotFits (snapshotGeometryOf base stride decimation) ||
      windowsMeet s.rw.geometry (snapshotGeometryOf base stride decimation)) = false := by
    refine Iff.trans ?_ (windowLegal_iff s.rw.geometry).symm
    rw [geometry]
  have index_eq (part : BoundaryPart) : place part = part.index := by cases part <;> rfl
  refine ⟨fun illegal => ?_, fun good => ?_, fun g v => windowsMeet_iff g v, fun kind => ?_, fun none => queueSnapshot_none none _ _,
    fun a base => queueSnapshot_window base _ _, queueRecord_appends, queueRecord_pointwise, fun timer staged => ?_,
    fun idle => exec_roundBoundary_same idle k, fun timer staged executing good => ?_, ?_⟩
  · exact answers_of_effect _ rfl (setSnapshotWindowEffect_refused (mt taken.mpr illegal))
  · rw [← geometry]
    exact answers_of_effect _ rfl (setSnapshotWindowEffect_taken (taken.mp good))
  · cases kind <;> simp [EntryKind.isSnapshot]
  · refine ⟨_, exec_roundBoundary timer staged _, fun a base wide divides => ?_, fun quiet => ?_⟩
    · have snapshot := snapshotDue_iff.mpr ⟨by rw [base]; exact Option.some_ne_none a, divides⟩
      have recorded {part : BoundaryPart} {i : Nat} (index : part.index = some i) (mem : part ∈ boundaryParts) :=
        recorded_iff.mp (boundary_recorded (s := s.nextRound) (p := p) (order := order) base wide snapshot index mem)
      exact ⟨fun c => recorded (part := .bay c) rfl (bay_mem_boundaryParts c), recorded (part := .trigger) rfl (by decide)⟩
    · refine boundary_queues_none (s := s.nextRound) (Bool.eq_false_iff.mpr fun snapshot => ?_) isSnapshot_passesNotices
      obtain ⟨based, divides⟩ := snapshotDue_iff.mp snapshot
      exact quiet.elim based (absurd divides)
  · have fine := taken.mp good
    have held : s.nextRound.executes (.setSnapshotWindow base stride decimation) position slot := executing
    have after := boundary_takes_window (p := p) (order := order) (k := k) held fine
    rw [geometry] at after
    refine ⟨_, exec_roundBoundary timer staged _, (sw_boundary_window held fine).trans geometry, cu_boundary_window held fine, ?_⟩
    intro parts
    rw [after]
    refine ⟨fun quiet => takeWindow_queues_none (quiet.imp_left fun notDue => ?_) _, fun isDue a base part i here => ?_⟩
    · exact Bool.eq_false_iff.mpr (mt snapshotDue_iff.mp notDue)
    · rw [snapshotDue_iff.mpr isDue]
      have wide : 0 < w.stride := Nat.lt_of_lt_of_le (by decide) good.1
      rw [index_eq] at here
      refine ⟨fun early e mem waiting => ?_, fun late => ?_⟩
      · have none := takeWindow_earlier (s := (s.nextRound.handedOver p).takeParts p true (parts.take k)) (p := p)
          (position := position) (words := slot) base wide here (earlier_not_later early)
        exact List.filter_eq_nil_iff.mp none e mem ((waitsFor_iff e _).mpr waiting)
      · obtain ⟨queued, content⟩ := recorded_iff.mp (takeWindow_later base wide here late)
        refine ⟨queued, fun e mem waiting => (content e mem waiting).trans ?_⟩
        cases part <;> rfl
  · obtain ⟨r1, r2, r3, r4, r5, r6, r7, r8, r9, r10, r11, r12, r13, r14⟩ := bayRecord_fields s b
    obtain ⟨s1, s2, s3, s4, s5, s6, s7, s8, s9, s10, s11, s12⟩ := siteRecord_fields s p
    refine ⟨r1, r2, r3, r4, r5, r6, r7, r8, r9, r10, r11, r12, r13, r14, s1, s2, s3, s4, s5, s6, s7, s8, rfl, s9, s10, s11.trans ?_, s12⟩
    cases s.pu.link <;> rfl

end Sys2Proof.Machine
end
